-- ==== Sys2Proof/Word.lean ====
section
/-! DEFINITION. The word types of the UX-712: bytes of host memory, 32-bit register words and host addresses, and tick
counter values (spec/00_scope.md, R1; spec/06_the_tariff_calendar.md, R100). -/

namespace Sys2Proof

/-- One byte of host memory. -/
abbrev Byte := BitVec 8

/-- A 32-bit register value or host address (R168). -/
abbrev Word := BitVec 32

/-- A value of the tick counter, 0..4,294,967,295 wrapping to 0; differences are taken modulo 2^32 (R1, R100). -/
abbrev Tick := BitVec 32

end Sys2Proof
end

