-- ==== Sys2Proof/Syntax.lean ====
section
/-! DEFINITION. The commands of the UX-712: one constructor of `Instr` per row of spec/opcode_table.json, in the table's
order. A request command (ROUTE ... CLOSE_PERIOD) says that the owner of its kind serves its next waiting request; the
request's own fields are the 64 bytes that the in-hand list holds (R157), so the command carries no operand. -/

namespace Sys2Proof

/-- INBOUND or OUTBOUND (spec/00_scope.md, Terms; R117). -/
inductive Direction where
  | inbound
  | outbound
  deriving DecidableEq, Repr

/-- The two registers whose writes are ignored (R169). -/
inductive ReadOnlyReg where
  | ident
  | status
  deriving DecidableEq, Repr

/-- What host memory answers to the burst the Memory Port carries (R173). -/
inductive BurstReply where
  /-- Every beat was carried out; `data` holds the bytes read, and is empty for a burst that writes. -/
  | done (data : List Byte)
  /-- A bus error on beat `beat`, counted from 0: the beats before it were carried out, the beats after it are not issued. -/
  | busError (beat : Nat)
  deriving DecidableEq, Repr

/-- The commands, one per row of spec/opcode_table.json. -/
inductive Instr where
  | route
  | routeWalk
  | routeReports
  | confirm
  | answer
  | release
  | crankback
  | queryCall
  | setCallTimers
  | loadDestinations
  | loadRouteLists
  | setBandMap
  | setHolidays
  | bankLoadHead
  | switchPlan
  | setGroup
  | blockCircuits
  | unblockCircuits
  | setSupervision
  | setGap
  | clearGap
  | setCalendar
  | alignMinute
  | setCarrier
  | loadTariff
  /-- The activation of the set that a compare handed over for carrier `carrier`, 1..255, in direction `direction`. -/
  | tariffActivation (carrier : Nat) (direction : Direction)
  | cancelTariff
  | closePeriod
  /-- One frame slot; `present` when a frame was received in it. -/
  | frameSlot (present : Bool)
  | referenceLoss
  | referenceLock
  | tickAdvance
  | tenthAdvance
  | periodEnd
  /-- The removal of the gap entry with code `code`, 1..12 digits. -/
  | gapEntryLapse (code : List Nat)
  /-- The expiry of the context with index `index`, 0..16,383. -/
  | confirmationExpiry (index : Nat)
  /-- The long-call mark of the context with index `index`, 0..16,383. -/
  | longCallMark (index : Nat)
  | scanTimerExpiry
  | memoryBurstDone (reply : BurstReply)
  | runOne
  | runZero
  | softReset
  /-- The ATTN mode bit of a CONTROL write: `true` is PULSE. -/
  | attnMode (pulse : Bool)
  /-- Bits 13..8 of a CONTROL write, in units of 0.5 ms. -/
  | scanInterval (units : BitVec 6)
  /-- Bits 17..16 of a CONTROL write. -/
  | burstSize (code : BitVec 2)
  | areaBase (value : Word)
  | areaSize (value : Word)
  | nudge (value : Word)
  | attention (value : Word)
  | registerWriteIgnored (reg : ReadOnlyReg) (value : Word)
  | attnPulseEnd
  | powerOn
  | resetLineAsserted
  | resetLineReleased
  | resetEnd
  | backupTenthAdvance
  | mainSupplyLoss
  | backupSupplyFailure
  deriving DecidableEq, Repr

end Sys2Proof
end

