-- ==== Sys2Proof/Config.lean ====
section
/-! DEFINITION. What one implementation fixes and the spec does not state. -/

namespace Sys2Proof

/-- The revision in bits 15..0 of IDENT, which the spec names and gives no value (R168). A free value: nothing
constrains it. DESIGN CHOICE, safe (notes/assumptions/19.md). -/
opaque Config.identRevision : BitVec 16

/-- Whether the beat that failed reached host memory at the n-th failure of a writing burst, which R162 leaves open. A free
value: nothing constrains it. DESIGN CHOICE (notes/assumptions/35.md). -/
opaque Config.failingBeatStored : Nat → Bool

end Sys2Proof
end

