-- ==== Sys2Proof/Machine/State.lean ====
section
/-! DEFINITION. The state of the UX-712 as plain data, block by block, its values after reset, and the reasons a step can
stop. INVENTORY.md lists every field with the rule of spec/ that names it. -/

namespace Sys2Proof.Machine

/-- Sparse data by index, in ascending order of index; an index not listed holds the data's reset value. -/
abbrev Table (α : Type) := List (Nat × α)

/-! ### Plan Store (R3 to R8) -/

/-- The two plan banks (R3). -/
inductive Bank where
  | a
  | b
  deriving DecidableEq, Repr

/-- The kind of a route list step (R6). -/
inductive StepKind where
  | direct
  | overflow
  | pool
  deriving DecidableEq, Repr

/-- One step of a route list (R6). -/
structure RouteStep where
  group : Nat
  kind : StepKind
  deriving DecidableEq, Repr

/-- A destination entry; its destination index is its position in the bank's table (R4). -/
structure Dest where
  code : List Nat
  routeList : Nat
  retained : Option Nat
  exhaust : Nat
  deriving DecidableEq, Repr

/-- One plan bank (R3 to R8). A route list index that is absent holds no steps; a band map cell not listed holds band 0. -/
structure BankData where
  dests : List Dest
  lists : Table (List RouteStep)
  bandMap : Table Nat
  holidays : List (Nat × Nat)
  provisional : Nat
  deriving DecidableEq, Repr

/-- The mode of a LOAD DESTINATIONS (R16). -/
inductive LoadMode where
  | replaceAll
  | merge
  deriving DecidableEq, Repr

/-- Which of the four bank loads (R9). -/
inductive LoadKind where
  | destinations (mode : LoadMode)
  | routeLists
  | bandMap
  | holidays
  deriving DecidableEq, Repr

/-- A bank load in the load queue (R9): its slot, its request half and the fields read from it. `count` is the record or
entry count; it is 144 for SET BAND MAP. -/
structure Load where
  slot : Nat
  request : List Byte
  kind : LoadKind
  bank : Bank
  addr : Word
  count : Nat
  deriving DecidableEq, Repr

/-- The Plan Store (R3, R9). `headBegun` is set while the head of the load queue reads its block (R11). -/
structure PlanStore where
  active : Bank
  bankA : BankData
  bankB : BankData
  queue : List Load
  headBegun : Bool
  deriving DecidableEq, Repr

/-! ### Group Table and Supervision Unit (R23, R39 to R42, R50) -/

/-- The four congestion states (R42). -/
inductive Congestion where
  | clear
  | watch
  | congested
  | blocked
  deriving DecidableEq, Repr

/-- A group's record (R23) with its measurement record (R42). `heldA` and `heldF` are the additions made at the end tick
before the period end (R42). -/
structure Group where
  inService : Bool
  size : Nat
  busy : Nat
  blocked : Nat
  owner : Nat
  reservation : Nat
  watchOn : Nat
  clearBelow : Nat
  congestOn : Nat
  congestion : Congestion
  occupancy : Nat
  attempts : Nat
  refusals : Nat
  heldA : Nat
  heldF : Nat
  calm : Nat
  changed : Bool
  deriving DecidableEq, Repr

/-- Origin of a gap entry (R50). -/
inductive GapOrigin where
  | software
  | automatic
  deriving DecidableEq, Repr

/-- A gap entry (R50). `lapsed` is set once the lifetime has counted down to 0, until the entry is removed (R52). -/
structure GapEntry where
  code : List Nat
  origin : GapOrigin
  interval : Nat
  lifetime : Nat
  nextAdmission : Tick
  admitted : Nat
  rejected : Nat
  lapsed : Bool
  deriving DecidableEq, Repr

/-- The Supervision Unit's parameters, period timer and gap table (R39, R40, R50). -/
structure Supervision where
  period : Nat
  threshold : Nat
  interval : Nat
  periodEnd : Tick
  gaps : List GapEntry
  deriving DecidableEq, Repr

/-! ### Route Selector (R60) -/

/-- How far a ROUTE has come (R60). -/
inductive RouteStage where
  /-- The gap check admitted the call, through this entry if one matched (R61). -/
  | admitted (through : Option (List Nat × GapOrigin))
  /-- The walk ended ALL_BUSY; the codes of the reports still to be made, and the answer (R69, R70). -/
  | walked (renew : Option (List Nat)) (install : Option (List Nat)) (answer : List Byte)
  deriving DecidableEq, Repr

/-- The ROUTE that the Route Selector carries out (R60). -/
structure RouteJob where
  slot : Nat
  request : List Byte
  stage : RouteStage
  deriving DecidableEq, Repr

/-! ### Context Table (R80, R81) -/

/-- The tariff terms of one direction: setup, minimum, initial and subsequent interval, surcharge (R86). -/
structure Terms where
  setup : Nat
  minimum : Nat
  initial : Nat
  subsequent : Nat
  surcharge : Nat
  deriving DecidableEq, Repr

/-- One segment of an answered call (R80). -/
structure Segment where
  start : Tick
  band : Nat
  inRate : Nat
  outRate : Nat
  deriving DecidableEq, Repr

/-- What every context but a FREE one holds (R80). -/
structure Call where
  bank : Bank
  dest : Nat
  origin : Nat
  group : Nat
  step : Nat
  kind : StepKind
  alternate : Bool
  history : List Nat
  grantTick : Tick
  deriving DecidableEq, Repr

/-- What an ANSWERED context holds besides (R80); a direction that is not priced has no terms (R86). -/
structure Answered where
  tick : Tick
  inTerms : Option Terms
  outTerms : Option Terms
  segments : List Segment
  merged : Bool
  long : Bool
  timeUnset : Bool
  freeRunning : Bool
  deriving DecidableEq, Repr

/-- The state of a context, with the fields present in it (R80). -/
inductive CallState where
  | free
  | provisional (call : Call) (deadline : Tick)
  | confirmed (call : Call)
  | answered (call : Call) (record : Answered)
  | expired (call : Call) (deadline : Tick)
  deriving DecidableEq, Repr

/-- A context (R80). -/
structure Context where
  generation : Nat
  state : CallState
  deriving DecidableEq, Repr

/-- The Context Table (R81, R91, R92). -/
structure ContextTable where
  table : Table Context
  expired : List Nat
  window : Nat
  limit : Nat
  deriving DecidableEq, Repr

/-! ### Calendar Unit (R100 to R110) -/

/-- State of the reference monitor (R109). -/
inductive Reference where
  | locked
  | freeRunning
  deriving DecidableEq, Repr

/-- The Calendar Unit outside the Backup Domain (R115). -/
structure ClockUnit where
  tick : Tick
  tickDivider : Nat
  calDivider : Nat
  band : Nat
  reference : Reference
  presentRun : Nat
  missingRun : Nat
  deriving DecidableEq, Repr

/-- The calendar fields (R101). -/
structure Calendar where
  year : Nat
  month : Nat
  day : Nat
  weekday : Nat
  hour : Nat
  minute : Nat
  second : Nat
  tenth : Nat
  deriving DecidableEq, Repr

/-- An effective time (R111). -/
structure EffectiveTime where
  year : Nat
  month : Nat
  day : Nat
  hour : Nat
  minute : Nat
  second : Nat
  deriving DecidableEq, Repr

/-! ### Carrier Table (R117, R121, R145, R152) -/

/-- A band record (R121). -/
structure BandRecord where
  setup : Nat
  rate : Nat
  minimum : Nat
  initial : Nat
  subsequent : Nat
  surcharge : Nat
  deriving DecidableEq, Repr

/-- A pending set; `handed` is set from the compare that found it due until its activation (R112, R125). -/
structure PendingSet where
  time : EffectiveTime
  records : List BandRecord
  handed : Bool
  deriving DecidableEq, Repr

/-- The tariff sets of one direction; an active set holds eight band records (R121). -/
structure Tariffs where
  active : Option (List BandRecord)
  pending : Option PendingSet
  deriving DecidableEq, Repr

/-- A carrier's record outside the Backup Domain (R117, R118). -/
structure Carrier where
  ceiling : Nat
  refusals : Nat
  inbound : Tariffs
  outbound : Tariffs
  deriving DecidableEq, Repr

/-- What a CLOSE PERIOD takes from a carrier: four fields, their saturation marks, and the unsettled count (R145). -/
structure Sums where
  receivable : Nat
  payable : Nat
  inCount : Nat
  outCount : Nat
  satReceivable : Bool
  satPayable : Bool
  satInCount : Bool
  satOutCount : Bool
  unsettled : Nat
  deriving DecidableEq, Repr

/-- A carrier's record in the Backup Domain (R117, R145). -/
structure Settlement where
  sums : Sums
  openHandovers : Nat
  deriving DecidableEq, Repr

/-- Scope of a CLOSE PERIOD (R149). -/
inductive CloseScope where
  | one (carrier : Nat)
  | all (addr : Word)
  deriving DecidableEq, Repr

/-- A full close record (R152). -/
structure CloseRecord where
  scope : CloseScope
  taken : Table Sums
  deriving DecidableEq, Repr

/-- The request that the Carrier Table serves across events (R127, R149). -/
inductive CarrierJob where
  | tariff (slot : Nat) (request : List Byte)
  | close (slot : Nat) (request : List Byte) (tick : Tick)
  deriving DecidableEq, Repr

/-- Cold or warm start (R174). -/
inductive StartKind where
  | cold
  | warm
  deriving DecidableEq, Repr

/-- The Backup Domain (R114, R145, R152, R174). -/
structure Backup where
  calendar : Calendar
  clockSet : Bool
  settlements : Table Settlement
  closeRecord : Option CloseRecord
  epoch : Nat
  marker : Bool
  deriving DecidableEq, Repr

/-! ### Intake Unit, Mirror Writer and Memory Port (R157 to R164, R173, R176) -/

/-- Phase of an in-hand entry, with the halves it holds (R157). `begun` is set once the owner has begun the request. -/
inductive Phase where
  | unread
  | withOwner (request : List Byte) (begun : Bool)
  | answerFormed (request : List Byte) (answer : List Byte)
  deriving DecidableEq, Repr

/-- An in-hand entry (R157). -/
structure Entry where
  slot : Nat
  phase : Phase
  deriving DecidableEq, Repr

/-- A scan pass in progress (R159): the next slot to examine, how many are left, the codes read and not yet examined, and
the slot being taken. -/
structure Pass where
  next : Nat
  left : Nat
  codes : List Byte
  taking : Option Nat
  deriving DecidableEq, Repr

/-- The recovery in progress (R172): the held answers of step 1 still to be written, or the UNREAD entries of step 2. -/
inductive Recovery where
  | answers (left : Nat)
  | unread (slots : List Nat)
  deriving DecidableEq, Repr

/-- The abort sweep (R176): owed or not, the slot at which it stands, in progress or not, and the codes read and not yet
handled. -/
structure Sweep where
  owed : Bool
  next : Nat
  active : Bool
  codes : List Byte
  deriving DecidableEq, Repr

/-- The Intake Unit (R157, R158, R172, R176). `formed` lists the slots in formed order; `writing` is set while the answer
at its head is being written; `timer` holds the scan interval loaded while the scan timer runs. -/
structure Intake where
  inHand : List Entry
  formed : List Nat
  writing : Bool
  resume : Nat
  rescan : Bool
  passDue : Bool
  pass : Option Pass
  timer : Option Nat
  recovery : Option Recovery
  sweep : Sweep
  deriving DecidableEq, Repr

/-- The Mirror Writer (R163): the generation count, and the groups whose marks the write in progress clears at its end. -/
structure Mirror where
  generation : Tick
  marks : Option (List Nat)
  deriving DecidableEq, Repr

/-- The requesters of the Memory Port (R173). -/
inductive Requester where
  | intake
  | mirror
  | plan
  | carrier
  deriving DecidableEq, Repr

/-- What a transfer is for (R162, R163, R11, R123, R151, R176). -/
inductive Purpose where
  | strip (first : Nat)
  | taken (slot : Nat)
  | requestHalf (slot : Nat)
  | answerHalf (slot : Nat)
  | answered (slot : Nat)
  | sweepStrip
  | sweepHeader
  | sweepAnswer
  | sweepAnswered
  | mirrorOpen
  | mirrorBody
  | mirrorClose
  | loadBlock
  | tariffBlock
  | resultBlock
  deriving DecidableEq, Repr

/-- A transfer asked for and not yet complete (R173): the address of its next byte, the bytes left, the bytes still to
store (a write) or already read (a read), and the burst length in bytes with which it was begun, none before its first
burst (R169). -/
structure Transfer where
  purpose : Purpose
  write : Bool
  addr : Word
  left : Nat
  data : List Byte
  burst : Option Nat
  deriving DecidableEq, Repr

/-- The Memory Port (R173). -/
structure Port where
  intake : List Transfer
  mirror : List Transfer
  plan : List Transfer
  carrier : List Transfer
  serving : Option Requester
  last : Option Requester
  deriving DecidableEq, Repr

/-! ### Register window, supplies (R168, R170, R174) -/

/-- The engine states (R170). -/
inductive Engine where
  | halted
  | running
  | draining
  | faulted
  deriving DecidableEq, Repr

/-- The fault kinds (R168). -/
inductive FaultKind where
  | none
  | strip
  | body
  | answer
  | mirror
  deriving DecidableEq, Repr

/-- The register window and the ATTN line (R168, R171). -/
structure Regs where
  run : Bool
  pulse : Bool
  interval : Nat
  burst : Nat
  base : Word
  sizeExp : Nat
  answers : Bool
  events : Bool
  fault : Bool
  engine : Engine
  startKind : StartKind
  faultKind : FaultKind
  faultSlot : Nat
  attnLine : Bool
  deriving DecidableEq, Repr

/-- What started a reset in progress (R174). -/
inductive ResetCause where
  | power
  | line
  | soft
  deriving DecidableEq, Repr

/-- The supplies, the RESET line, and the reset in progress (R174). -/
structure Power where
  main : Bool
  line : Bool
  reset : Option ResetCause
  deriving DecidableEq, Repr

/-- The whole machine. `mem` lists the bytes that the part has stored in host memory; `failures` counts the writing bursts
that have failed, each of which takes a free value of Config (DESIGN CHOICE, notes/assumptions/35.md); `pending` is the queue
of commands. -/
structure State where
  plan : PlanStore
  groups : Table Group
  supervision : Supervision
  routeJob : Option RouteJob
  contexts : ContextTable
  clock : ClockUnit
  carriers : Table Carrier
  carrierJob : Option CarrierJob
  backup : Backup
  intake : Intake
  mirror : Mirror
  port : Port
  regs : Regs
  power : Power
  mem : List Host.Cell
  failures : Nat
  pending : List Instr
  deriving DecidableEq, Repr

/-- Why a step stops with a fault. Neither can arise in the part: both name a command that is none of its events. -/
inductive Fault where
  /-- Raised by TARIFF_ACTIVATION, GAP_ENTRY_LAPSE, CONFIRMATION_EXPIRY, LONG_CALL_MARK and MEMORY_BURST_DONE whose operand
  is not well formed: no such carrier, code, context or beat exists. Safe: the part has no such event. -/
  | illFormed
  /-- Raised by MEMORY_BURST_DONE whose reply is not one to the burst carried: another number of bytes than it reads, or a
  failing beat beyond its last. Safe: host memory gives no such reply. -/
  | replyMismatch
  deriving DecidableEq, Repr

/-- Why a step refuses a command. -/
inductive Refusal where
  /-- Raised by no meaning: the refusal of a command that has none yet. Safe: the step stops. -/
  | notModelled (mnemonic : String)
  deriving DecidableEq, Repr

/-- What a step answers. -/
abbrev Result := Host.Outcome State Fault Refusal

/-! ### Values after reset -/

/-- An empty bank (R3). -/
def BankData.empty : BankData :=
  { dests := [], lists := [], bandMap := [], holidays := [], provisional := 0 }

/-- The Plan Store after any reset (R3). -/
def PlanStore.reset : PlanStore :=
  { active := .a, bankA := BankData.empty, bankB := BankData.empty, queue := [], headBegun := false }

/-- An unconfigured group (R24) with its measurement record after any reset (R42). -/
def Group.unconfigured : Group :=
  { inService := false, size := 0, busy := 0, blocked := 0, owner := 0, reservation := 0,
    watchOn := 850, clearBelow := 700, congestOn := 200, congestion := .blocked,
    occupancy := 0, attempts := 0, refusals := 0, heldA := 0, heldF := 0, calm := 0, changed := false }

/-- The Supervision Unit after any reset, which ends at tick 0 (R39, R40, R50). -/
def Supervision.reset : Supervision :=
  { period := 5, threshold := 4, interval := 20, periodEnd := 50#32, gaps := [] }

/-- A context after any reset: FREE, generation 255 (R81). -/
def Context.reset : Context := { generation := 255, state := .free }

/-- The Context Table after any reset (R81). -/
def ContextTable.reset : ContextTable := { table := [], expired := [], window := 100, limit := 16384 }

/-- The Calendar Unit outside the Backup Domain after any reset (R115). -/
def ClockUnit.reset : ClockUnit :=
  { tick := 0#32, tickDivider := 0, calDivider := 0, band := 0, reference := .freeRunning, presentRun := 0, missingRun := 0 }

/-- No active and no pending set (R118). -/
def Tariffs.none : Tariffs := { active := Option.none, pending := Option.none }

/-- A carrier's record after any reset (R118). -/
def Carrier.reset : Carrier := { ceiling := 65535, refusals := 0, inbound := Tariffs.none, outbound := Tariffs.none }

/-- Sums of a new settlement period (R150). -/
def Sums.zero : Sums :=
  { receivable := 0, payable := 0, inCount := 0, outCount := 0, satReceivable := false, satPayable := false,
    satInCount := false, satOutCount := false, unsettled := 0 }

/-- A carrier's Backup Domain record after a cold power-on (R118, R145). -/
def Settlement.zero : Settlement := { sums := Sums.zero, openHandovers := 0 }

/-- The calendar after a cold start: year 0, 1 January, weekday 5, 00:00:00.0 (R103). -/
def Calendar.cold : Calendar :=
  { year := 0, month := 1, day := 1, weekday := 5, hour := 0, minute := 0, second := 0, tenth := 0 }

/-- The Backup Domain after a cold start: zeroed, marker written, epoch 1 (R103, R174). -/
def Backup.cold : Backup :=
  { calendar := Calendar.cold, clockSet := false, settlements := [], closeRecord := Option.none, epoch := 1, marker := true }

/-- The Intake Unit after any reset, with an abort sweep owed from slot 0 (R157, R175, R176). -/
def Intake.reset : Intake :=
  { inHand := [], formed := [], writing := false, resume := 0, rescan := false, passDue := false, pass := Option.none,
    timer := Option.none, recovery := Option.none, sweep := { owed := true, next := 0, active := false, codes := [] } }

/-- The Mirror Writer after any reset (R163). -/
def Mirror.reset : Mirror := { generation := 0#32, marks := Option.none }

/-- The Memory Port after any reset: nothing in progress, the rotation begins with the Intake Unit (R173, R175). -/
def Port.reset : Port :=
  { intake := [], mirror := [], plan := [], carrier := [], serving := Option.none, last := Option.none }

/-- The registers after a reset of the given start kind (R168). -/
def Regs.reset (kind : StartKind) : Regs :=
  { run := false, pulse := false, interval := 4, burst := 2, base := 0#32, sizeExp := 6, answers := false, events := false,
    fault := false, engine := .halted, startKind := kind, faultKind := .none, faultSlot := 0, attnLine := false }

/-- The machine right after a cold power-on has ended: every block in its reset state (R3, R24, R39, R42, R50, R81, R103,
R115, R118, R145, R157, R163, R168, R173, R175). That the reset is a cold power-on is a DESIGN CHOICE
(notes/assumptions/28.md). -/
def State.reset : State :=
  { plan := PlanStore.reset, groups := [], supervision := Supervision.reset, routeJob := Option.none,
    contexts := ContextTable.reset, clock := ClockUnit.reset, carriers := [], carrierJob := Option.none,
    backup := Backup.cold, intake := Intake.reset, mirror := Mirror.reset, port := Port.reset, regs := Regs.reset .cold,
    power := { main := true, line := false, reset := Option.none }, mem := [], failures := 0,
    pending := [] }

end Sys2Proof.Machine
end

