-- ==== Sys2Proof/Machine/Bytes.lean ====
section
/-! DEFINITION. Fields in byte layouts, least significant byte first (R167). -/

namespace Sys2Proof.Machine

/-- A field of a layout: its offset, its size in bytes and its value (the tables of R167). -/
structure Field where
  off : Nat
  size : Nat
  value : Nat
  deriving DecidableEq, Repr

/-- 1 for a set mark, 0 for a clear one. -/
def bit (b : Bool) : Nat := if b then 1 else 0

/-- The byte at offset `i` of a layout: that of the first field that covers it, 0 where none does (R167). -/
def fieldByte : List Field → Nat → Byte
  | [], _ => 0#8
  | f :: fs, i =>
    if f.off ≤ i ∧ i < f.off + f.size then BitVec.ofNat 8 (f.value / 256 ^ (i - f.off)) else fieldByte fs i

/-- The `len` bytes of a layout from offset `start` on. -/
def layOut (start len : Nat) (fields : List Field) : List Byte :=
  (List.range len).map (fun i => fieldByte fields (start + i))

/-- The byte at offset `off`, 0 beyond the end. -/
def byteAt (bytes : List Byte) (off : Nat) : Nat := (bytes.getD off 0#8).toNat

/-- The field of `size` bytes at offset `off` (R167). -/
def readLE (bytes : List Byte) (off : Nat) : Nat → Nat
  | 0 => 0
  | size + 1 => byteAt bytes off + 256 * readLE bytes (off + 1) size

/-- The `n` one-byte fields from offset `off` on. -/
def byteFields (bytes : List Byte) (off n : Nat) : List Nat := (List.range n).map (fun i => byteAt bytes (off + i))

/-- Every byte of the offsets `off` ... `off + len - 1` is zero. -/
def zeroBytes (bytes : List Byte) (off len : Nat) : Bool :=
  (List.range len).all (fun i => decide (byteAt bytes (off + i) = 0))

end Sys2Proof.Machine
end

