-- ==== Sys2Proof/Machine/Operands.lean ====
section
/-! DEFINITION. The requests as the host writes them: their kinds and owners (R160, Table 10-2), the fields of each kind
(Tables 10-1, 10-4, 10-13), its reserved bytes, and the codes of enumerated fields (Table 10-11). -/

namespace Sys2Proof.Machine

/-- The request kinds (Table 10-2). -/
inductive Kind where
  | route | confirm | answer | release | crankback | queryCall | setCallTimers
  | loadDestinations | loadRouteLists | setBandMap | setHolidays | switchPlan
  | setGroup | blockCircuits | unblockCircuits
  | setSupervision | setGap | clearGap
  | setCalendar | alignMinute
  | setCarrier | loadTariff | cancelTariff | closePeriod
  deriving DecidableEq, Repr

/-- The unit that owns a kind (R160). -/
inductive Owner where
  | routeSelector | contextTable | planStore | groupTable | supervisionUnit | calendarUnit | carrierTable
  deriving DecidableEq, Repr

/-- The kind byte of a kind (Table 10-2). -/
def Kind.code : Kind → Nat
  | .route => 0x01
  | .confirm => 0x02
  | .answer => 0x03
  | .release => 0x04
  | .crankback => 0x05
  | .queryCall => 0x06
  | .setCallTimers => 0x07
  | .loadDestinations => 0x10
  | .loadRouteLists => 0x11
  | .setBandMap => 0x12
  | .setHolidays => 0x13
  | .switchPlan => 0x14
  | .setGroup => 0x20
  | .blockCircuits => 0x21
  | .unblockCircuits => 0x22
  | .setSupervision => 0x30
  | .setGap => 0x31
  | .clearGap => 0x32
  | .setCalendar => 0x40
  | .alignMinute => 0x41
  | .setCarrier => 0x50
  | .loadTariff => 0x51
  | .cancelTariff => 0x52
  | .closePeriod => 0x53

/-- Every kind, in the order of Table 10-2. -/
def Kind.every : List Kind :=
  [.route, .confirm, .answer, .release, .crankback, .queryCall, .setCallTimers,
   .loadDestinations, .loadRouteLists, .setBandMap, .setHolidays, .switchPlan,
   .setGroup, .blockCircuits, .unblockCircuits,
   .setSupervision, .setGap, .clearGap,
   .setCalendar, .alignMinute,
   .setCarrier, .loadTariff, .cancelTariff, .closePeriod]

/-- The kind of a request half, if its kind byte is one of Table 10-2. -/
def kindOf (req : List Byte) : Option Kind := Kind.every.find? (fun k => decide (k.code = byteAt req 0))

/-- The owner of a kind (R160). -/
def Kind.owner : Kind → Owner
  | .route => .routeSelector
  | .confirm | .answer | .release | .crankback | .queryCall | .setCallTimers => .contextTable
  | .loadDestinations | .loadRouteLists | .setBandMap | .setHolidays | .switchPlan => .planStore
  | .setGroup | .blockCircuits | .unblockCircuits => .groupTable
  | .setSupervision | .setGap | .clearGap => .supervisionUnit
  | .setCalendar | .alignMinute => .calendarUnit
  | .setCarrier | .loadTariff | .cancelTariff | .closePeriod => .carrierTable

/-- The named bytes of a kind's request after the common header, as offset and length (Tables 10-4, 10-13). -/
def Kind.named : Kind → List (Nat × Nat)
  | .route => [(8, 1), (9, 1), (16, 16)]
  | .confirm | .answer | .release | .crankback | .queryCall => [(8, 4)]
  | .setCallTimers => [(8, 2), (10, 2)]
  | .loadDestinations => [(8, 1), (9, 1), (10, 2), (12, 4)]
  | .loadRouteLists => [(8, 1), (10, 2), (12, 4)]
  | .setBandMap => [(8, 1), (12, 4)]
  | .setHolidays => [(8, 1), (10, 2), (12, 4)]
  | .switchPlan | .alignMinute => []
  | .setGroup => [(8, 2), (10, 1), (11, 1), (12, 2), (14, 2), (16, 2), (18, 2), (20, 2)]
  | .blockCircuits | .unblockCircuits => [(8, 2), (10, 2)]
  | .setSupervision => [(8, 1), (9, 1), (10, 2)]
  | .setGap => [(8, 1), (10, 2), (12, 2), (16, 12)]
  | .clearGap => [(8, 1), (16, 12)]
  | .setCalendar => [(8, 7)]
  | .setCarrier => [(8, 1), (9, 1), (10, 2)]
  | .loadTariff => [(8, 1), (9, 1), (10, 1), (12, 4), (16, 6)]
  | .cancelTariff => [(8, 1), (9, 1)]
  | .closePeriod => [(8, 1), (9, 1), (12, 4)]

/-- Every reserved byte of the request half is zero: all but the kind, the tag and the kind's named bytes (R2, R167). -/
def reservedClear (k : Kind) (req : List Byte) : Bool :=
  (List.range 64).all fun i =>
    ((0, 1) :: (4, 4) :: k.named).any (fun p => decide (p.1 ≤ i ∧ i < p.1 + p.2)) || decide (byteAt req i = 0)

/-- The tag (Table 10-1). -/
def tagOf (req : List Byte) : Nat := readLE req 4 4

/-- A handle: epoch, generation, context index (R82, Table 10-4). -/
structure Handle where
  epoch : Nat
  generation : Nat
  index : Nat
  deriving DecidableEq, Repr

/-- The handle of a call-handle request, at offset 8. -/
def handleOf (req : List Byte) : Handle :=
  { epoch := byteAt req 8, generation := byteAt req 9, index := readLE req 10 2 }

/-- The 4 bytes of a handle as one field value. -/
def Handle.value (h : Handle) : Nat := h.epoch + 256 * h.generation + 65536 * h.index

/-- A plan bank by its code (Table 10-11). -/
def bankOfCode (n : Nat) : Option Bank := if n = 0 then some .a else if n = 1 then some .b else none

/-- The code of a plan bank (Table 10-11). -/
def Bank.code : Bank → Nat
  | .a => 0
  | .b => 1

/-- A step kind by its code (Table 10-11). -/
def kindOfCode (n : Nat) : Option StepKind :=
  if n = 1 then some .direct else if n = 2 then some .overflow else if n = 3 then some .pool else none

/-- The code of a step kind (Table 10-11). -/
def StepKind.code : StepKind → Nat
  | .direct => 1
  | .overflow => 2
  | .pool => 3

/-- A direction by its code (Table 10-11). -/
def directionOfCode (n : Nat) : Option Direction := if n = 0 then some .inbound else if n = 1 then some .outbound else none

/-- The code of a gap origin (Table 10-11). -/
def GapOrigin.code : GapOrigin → Nat
  | .software => 0
  | .automatic => 1

/-- The code of a congestion state (Table 10-8). -/
def Congestion.code : Congestion → Nat
  | .clear => 0
  | .watch => 1
  | .congested => 2
  | .blocked => 3

/-- The code of an engine state (R168). -/
def Engine.code : Engine → Nat
  | .halted => 0
  | .running => 1
  | .draining => 2
  | .faulted => 3

/-- The code of a start kind (R168). -/
def StartKind.code : StartKind → Nat
  | .cold => 0
  | .warm => 1

/-- The code of a fault kind (R168). -/
def FaultKind.code : FaultKind → Nat
  | .none => 0
  | .strip => 1
  | .body => 2
  | .answer => 3
  | .mirror => 4

/-- The code of a reference state (Table 10-7). -/
def Reference.code : Reference → Nat
  | .locked => 0
  | .freeRunning => 1

/-- The effective time of a LOAD TARIFF, at offset 16 (Table 10-13). -/
def effectiveTimeOf (req : List Byte) : EffectiveTime :=
  { year := byteAt req 16, month := byteAt req 17, day := byteAt req 18, hour := byteAt req 19, minute := byteAt req 20,
    second := byteAt req 21 }

/-- The 6 bytes of an effective time as one field value (Table 10-13). -/
def EffectiveTime.value (t : EffectiveTime) : Nat :=
  t.year + 256 * (t.month + 256 * (t.day + 256 * (t.hour + 256 * (t.minute + 256 * t.second))))

/-- The 8 bytes of a calendar as one field value (Table 10-7). -/
def Calendar.value (c : Calendar) : Nat :=
  c.year + 256 * (c.month + 256 * (c.day + 256 * (c.weekday + 256 * (c.hour + 256 * (c.minute + 256 *
    (c.second + 256 * c.tenth))))))

/-- Whether the first `n` digits at offset `off` are all 0..9. -/
def digitsValid (req : List Byte) (off n : Nat) : Bool := (byteFields req off n).all (fun d => decide (d ≤ 9))

end Sys2Proof.Machine
end

