-- ==== Sys2Proof/Machine/Answers.lean ====
section
/-! DEFINITION. Answer codes (R166) and answer halves (Table 10-3). -/

namespace Sys2Proof.Machine

/-- The answer codes (R166). -/
inductive Code where
  | ok | format | range | unknownCall | wrongState | tooLate | noRoute | allBusy | gapped | noContext | exhausted
  | bankActive | bankDraining | loadInProgress | tableFull | memory | abortedByReset | notPending
  deriving DecidableEq, Repr

/-- The value of an answer code (R166). -/
def Code.value : Code → Nat
  | .ok => 0
  | .format => 1
  | .range => 2
  | .unknownCall => 3
  | .wrongState => 4
  | .tooLate => 5
  | .noRoute => 6
  | .allBusy => 7
  | .gapped => 8
  | .noContext => 9
  | .exhausted => 10
  | .bankActive => 11
  | .bankDraining => 12
  | .loadInProgress => 13
  | .tableFull => 14
  | .memory => 15
  | .abortedByReset => 16
  | .notPending => 17

/-- The 64 bytes of an answer half: the common header with the kind and tag of the request echoed, then the fields of
the kind and code, every other byte zero (R2, Table 10-3). -/
def answerHalf (code : Code) (req : List Byte) (detail : Nat) (fields : List Field) : List Byte :=
  layOut 64 64 (⟨64, 1, code.value⟩ :: ⟨65, 1, byteAt req 0⟩ :: ⟨66, 2, detail⟩ :: ⟨68, 4, tagOf req⟩ :: fields)

end Sys2Proof.Machine
end

