-- ==== Sys2Proof/Machine/Update.lean ====
section
/-! DEFINITION. One update per field of State, so that a meaning names what it changes and a proof reads the other fields
through the lemmas of Laws/State.lean. -/

namespace Sys2Proof.Machine

/-- `s` with its `plan` replaced. -/
def State.setPlan (s : State) (x : PlanStore) : State := { s with plan := x }

/-- `s` with its `groups` replaced. -/
def State.setGroups (s : State) (x : Table Group) : State := { s with groups := x }

/-- `s` with its `supervision` replaced. -/
def State.setSupervision (s : State) (x : Supervision) : State := { s with supervision := x }

/-- `s` with its `routeJob` replaced. -/
def State.setRouteJob (s : State) (x : Option RouteJob) : State := { s with routeJob := x }

/-- `s` with its `contexts` replaced. -/
def State.setContexts (s : State) (x : ContextTable) : State := { s with contexts := x }

/-- `s` with its `clock` replaced. -/
def State.setClock (s : State) (x : ClockUnit) : State := { s with clock := x }

/-- `s` with its `carriers` replaced. -/
def State.setCarriers (s : State) (x : Table Carrier) : State := { s with carriers := x }

/-- `s` with its `carrierJob` replaced. -/
def State.setCarrierJob (s : State) (x : Option CarrierJob) : State := { s with carrierJob := x }

/-- `s` with its `backup` replaced. -/
def State.setBackup (s : State) (x : Backup) : State := { s with backup := x }

/-- `s` with its `intake` replaced. -/
def State.setIntake (s : State) (x : Intake) : State := { s with intake := x }

/-- `s` with its `mirror` replaced. -/
def State.setMirror (s : State) (x : Mirror) : State := { s with mirror := x }

/-- `s` with its `port` replaced. -/
def State.setPort (s : State) (x : Port) : State := { s with port := x }

/-- `s` with its `regs` replaced. -/
def State.setRegs (s : State) (x : Regs) : State := { s with regs := x }

/-- `s` with its `power` replaced. -/
def State.setPower (s : State) (x : Power) : State := { s with power := x }

/-- `s` with its `mem` replaced. -/
def State.setMem (s : State) (x : List Host.Cell) : State := { s with mem := x }

/-- `s` with its `failures` replaced. -/
def State.setFailures (s : State) (x : Nat) : State := { s with failures := x }

/-- `s` with its `pending` replaced. -/
def State.setPending (s : State) (x : List Instr) : State := { s with pending := x }

end Sys2Proof.Machine
end

