-- ==== Sys2Proof/Machine/Flags.lean ====
section
/-! DEFINITION. The ATTENTION bits and the ATTN line (R171), saturating counts (spec/00_scope.md), and tick comparison
(R50). -/

namespace Sys2Proof.Machine

/-- The ATTENTION bits (R168). -/
inductive AttentionBit where
  | answers
  | events
  | fault
  deriving DecidableEq, Repr

/-- Whether a bit of ATTENTION is set. -/
def Regs.attention (r : Regs) : AttentionBit → Bool
  | .answers => r.answers
  | .events => r.events
  | .fault => r.fault

/-- The registers with one bit of ATTENTION set. -/
def Regs.setAttention (r : Regs) : AttentionBit → Regs
  | .answers => { r with answers := true }
  | .events => { r with events := true }
  | .fault => { r with fault := true }

/-- Whether any bit of ATTENTION is set. -/
def Regs.anyAttention (r : Regs) : Bool := r.answers || r.events || r.fault

/-- A cause sets its bit and asserts the line: in LATCHED mode because a bit is set, in PULSE mode by a pulse, which a
cause that finds its bit set does not give (R171). -/
def raiseBit (b : AttentionBit) (s : State) : State :=
  if s.regs.attention b then s else s.setRegs { s.regs.setAttention b with attnLine := true }

/-- A status event sets EVENTS and carries nothing beyond that (R171). -/
def statusEvent (s : State) : State := raiseBit .events s

/-- The top of a 32-bit count. -/
def top32 : Nat := 4294967295

/-- The top of an accumulator (R145). -/
def top48 : Nat := 281474976710655

/-- A saturating count raised by `n` (spec/00_scope.md, Units, Ranges and Notation). -/
def addSat (top x n : Nat) : Nat := min top (x + n)

/-- Tick `t` is reached at tick `now` (R50). -/
def reached (now t : Tick) : Bool := decide ((now - t).toNat < 2147483648)

/-- The tick counter at the event (spec/00_scope.md, "Now"). -/
def State.now (s : State) : Tick := s.clock.tick

/-- The main supply is present and no reset is in progress: the blocks outside the Backup Domain run (R114, R175). -/
def State.up (s : State) : Bool := s.power.main && s.power.reset.isNone

end Sys2Proof.Machine
end

