-- ==== Sys2Proof/Machine/Table.lean ====
section
/-! DEFINITION. Sparse tables by index and the record of the bytes stored in host memory, in one canonical form: indices
strictly rising, and nothing listed that equals what an unlisted index reads as. -/

namespace Sys2Proof.Machine

/-- What a table lists at index `k`, if anything. -/
def Table.find {α : Type} : Table α → Nat → Option α
  | [], _ => none
  | (j, v) :: t, k => if j = k then some v else Table.find t k

/-- What a table holds at index `k`, `d` where it lists nothing. -/
def Table.read {α : Type} (t : Table α) (d : α) (k : Nat) : α := (Table.find t k).getD d

/-- `t` with nothing listed at `k`. -/
def Table.remove {α : Type} : Table α → Nat → Table α
  | [], _ => []
  | (j, v) :: t, k => if j = k then Table.remove t k else (j, v) :: Table.remove t k

/-- `t` with `v` placed at `k`, before the first larger index. -/
def Table.insert {α : Type} : Table α → Nat → α → Table α
  | [], k, v => [(k, v)]
  | (j, w) :: t, k, v => if k < j then (k, v) :: (j, w) :: t else (j, w) :: Table.insert t k v

/-- `t` with `v` listed at `k` in place of what it listed there. -/
def Table.put {α : Type} (t : Table α) (k : Nat) (v : α) : Table α := Table.insert (Table.remove t k) k v

/-- `t` holding `v` at `k`, where an index not listed holds `d`: writing `d` leaves nothing listed. -/
def Table.write {α : Type} [DecidableEq α] (t : Table α) (d : α) (k : Nat) (v : α) : Table α :=
  if v = d then Table.remove t k else Table.put t k v

/-- `t` with every listed value replaced by `f` of it. -/
def Table.mapValues {α : Type} (f : α → α) : Table α → Table α
  | [] => []
  | (j, v) :: t => (j, f v) :: Table.mapValues f t

/-- The indices of `t` strictly rise. -/
def Table.rising {α : Type} : Table α → Bool
  | [] => true
  | [_] => true
  | (j, _) :: (k, w) :: t => decide (j < k) && Table.rising ((k, w) :: t)

/-- The canonical form of a table whose unlisted indices hold `d`. -/
def Table.canonical {α : Type} [DecidableEq α] (t : Table α) (d : α) : Bool :=
  Table.rising t && t.all (fun e => decide (e.2 ≠ d))

/-- The canonical form of the record of stored bytes: an address not listed is one the part has stored nothing at, so
every listed byte differs from that. -/
def Memory.wf (m : List Host.Cell) : Bool := Table.rising m

/-- The byte the part last stored at address `a`, none where it has stored nothing. -/
def Memory.byte (m : List Host.Cell) (a : Nat) : Option Byte := Table.find m a

/-- `bytes` stored from address `a` on, addresses taken modulo 2^32 (DESIGN CHOICE, notes/assumptions/10.md). -/
def Memory.store : List Host.Cell → Word → List Byte → List Host.Cell
  | m, _, [] => m
  | m, a, b :: bs => Memory.store (Table.put m a.toNat b) (a + 1#32) bs

end Sys2Proof.Machine
end

