-- ==== Sys2Proof/Machine/Port.lean ====
section
/-! DEFINITION. The Memory Port's queues, rotation and bursts (R173), and where the exchange area lies (R155). -/

namespace Sys2Proof.Machine

/-- The transfers a requester has asked for, oldest first. -/
def Port.queue (p : Port) : Requester → List Transfer
  | .intake => p.intake
  | .mirror => p.mirror
  | .plan => p.plan
  | .carrier => p.carrier

/-- The port with a requester's transfers replaced. -/
def Port.setQueue (p : Port) (r : Requester) (ts : List Transfer) : Port :=
  match r with
  | .intake => { p with intake := ts }
  | .mirror => { p with mirror := ts }
  | .plan => { p with plan := ts }
  | .carrier => { p with carrier := ts }

/-- The rotation, beginning after the requester served last, and with the Intake Unit until the first burst (R173). -/
def rotation : Option Requester → List Requester
  | none => [.intake, .mirror, .plan, .carrier]
  | some .intake => [.mirror, .plan, .carrier, .intake]
  | some .mirror => [.plan, .carrier, .intake, .mirror]
  | some .plan => [.carrier, .intake, .mirror, .plan]
  | some .carrier => [.intake, .mirror, .plan, .carrier]

/-- The first requester of the rotation that has a transfer waiting. -/
def Port.nextServed (p : Port) : Option Requester :=
  (rotation p.last).find? (fun r => !(p.queue r).isEmpty)

/-- The burst length in bytes of a burst size code: 8 in SINGLE mode, then 32, 64, 128 (R168, R173). -/
def burstBytes (code : Nat) : Nat :=
  if code = 0 then 8 else if code = 1 then 32 else if code = 2 then 64 else 128

/-- The bytes of a transfer's next burst: up to the next multiple of the burst length with which it was begun (R169, R173);
a transfer not begun has no burst. -/
def Transfer.burstLength (t : Transfer) : Nat :=
  match t.burst with
  | some b => min t.left (b - t.addr.toNat % b)
  | none => 0

/-- A read of strip codes, which ends with its burst (DEDUCED, notes/assumptions/11.md). -/
def Transfer.readsStrip (t : Transfer) : Bool :=
  match t.purpose with
  | .strip _ | .sweepStrip => true
  | _ => false

/-- A transfer begins with the burst length in force, which it keeps; a strip read is cut to its one burst (R169). -/
def Transfer.begin (b : Nat) (t : Transfer) : Transfer :=
  match t.burst with
  | some _ => t
  | none =>
    let t1 := { t with burst := some b }
    if t.readsStrip then { t1 with left := t1.burstLength } else t1

/-- The port serves the next requester of the rotation, and begins its transfer if that has not begun (R169, R173). -/
def Port.serve (b : Nat) (p : Port) : Port :=
  match p.nextServed with
  | some r =>
    match p.queue r with
    | t :: ts => { p.setQueue r (t.begin b :: ts) with serving := some r }
    | [] => { p with serving := none }
  | none => { p with serving := none }

/-- The beats of a burst of `n` bytes from address `a`: the 8-byte units it touches (R173). -/
def beatCount (a n : Nat) : Nat := (a % 8 + n + 7) / 8

/-- The bytes of a burst of `n` bytes from address `a` that lie before beat `beat` (R173). -/
def bytesBefore (a n beat : Nat) : Nat := if beat = 0 then 0 else min n (8 * beat - a % 8)

/-- A read of `len` bytes from `addr`. -/
def readTransfer (purpose : Purpose) (addr : Word) (len : Nat) : Transfer :=
  { purpose, write := false, addr, left := len, data := [], burst := none }

/-- A write of `bytes` from `addr` on. -/
def writeTransfer (purpose : Purpose) (addr : Word) (bytes : List Byte) : Transfer :=
  { purpose, write := true, addr, left := bytes.length, data := bytes, burst := none }

/-- The burst length in force (R168, R169). -/
def burstInForce (s : State) : Nat := burstBytes s.regs.burst

/-- A requester asks for a transfer, which takes its place behind its earlier ones; an idle port begins a burst at once
(R173). -/
def ask (r : Requester) (t : Transfer) (s : State) : State :=
  let p := s.port.setQueue r (s.port.queue r ++ [t])
  s.setPort (if p.serving.isSome then p else p.serve (burstInForce s))

/-- The number of slots N (R155). -/
def slotCount (s : State) : Nat := 2 ^ s.regs.sizeExp

/-- The address of a byte offset in the exchange area (R155). -/
def areaAddr (s : State) (off : Nat) : Word := s.regs.base + BitVec.ofNat 32 off

/-- The offset of a slot body (R155). -/
def bodyOffset (slot : Nat) : Nat := 4096 + 128 * slot

/-- The offset of the status mirror (R155). -/
def mirrorOffset (s : State) : Nat := 4096 + 128 * slotCount s

end Sys2Proof.Machine
end

