-- ==== Sys2Proof/Machine/Intake.lean ====
section
/-! DEFINITION. The Intake Unit: the in-hand list and the requests it hands to their owners (R157, R160), answer writes
(R161), scan passes (R158, R159), faults and recovery (R162, R172), and the abort sweep (R176). -/

namespace Sys2Proof.Machine

/-! ### Engine state -/

/-- The registers with the engine in a new state. -/
def setEngine (e : Engine) (s : State) : State := s.setRegs { s.regs with engine := e }

/-- A DRAINING engine whose in-hand list is empty, with no mirror write and no abort sweep in progress, enters HALTED
(R170). -/
def checkHalt (s : State) : State :=
  if s.regs.engine = .draining ∧ s.intake.inHand = [] ∧ s.mirror.marks = none ∧ s.intake.sweep.active = false then
    setEngine .halted s
  else s

/-! ### Answers (R161) -/

/-- The in-hand entry of a slot. -/
def Intake.entryOf (k : Intake) (slot : Nat) : Option Entry := k.inHand.find? (fun e => decide (e.slot = slot))

/-- The answer half of a slot whose answer is formed. -/
def Intake.answerOf (k : Intake) (slot : Nat) : Option (List Byte) :=
  match k.entryOf slot with
  | some ⟨_, .answerFormed _ a⟩ => some a
  | _ => none

/-- The in-hand list with the phase of one slot's entry replaced. -/
def Intake.setPhase (k : Intake) (slot : Nat) (p : Phase) : Intake :=
  { k with inHand := k.inHand.map (fun e => if e.slot = slot then { e with phase := p } else e) }

/-- In RUNNING or DRAINING, the answer at the head of formed order is written, one at a time: its half first (R161). While
an abort sweep is made, held answers wait for it (R176). -/
def startAnswerWrite (s : State) : State :=
  if (s.regs.engine = .running ∨ s.regs.engine = .draining) ∧ s.intake.writing = false ∧ s.intake.sweep.active = false then
    match s.intake.formed with
    | [] => s
    | slot :: _ =>
      match s.intake.answerOf slot with
      | none => s
      | some a =>
        ask .intake (writeTransfer (.answerHalf slot) (areaAddr s (bodyOffset slot + 64)) a)
          (s.setIntake { s.intake with writing := true })
  else s

/-- An owner hands over the answer half of a request: the entry becomes ANSWER FORMED at the end of formed order (R161). -/
def formAnswer (slot : Nat) (req answer : List Byte) (s : State) : State :=
  let k := s.intake.setPhase slot (.answerFormed req answer)
  startAnswerWrite (s.setIntake { k with formed := k.formed ++ [slot] })

/-- A request answered with a code, a detail and the fields of its kind and code. -/
def reply (slot : Nat) (req : List Byte) (code : Code) (detail : Nat) (fields : List Field) (s : State) : State :=
  formAnswer slot req (answerHalf code req detail fields) s

/-! ### Requests with their owners (R160) -/

/-- An owner takes its next request: the Route Selector when no ROUTE is between its stages (R60), the Carrier Table when
it serves none and the close record is empty (R127, R149), the others always. -/
def ownerReady (o : Owner) (s : State) : Bool :=
  match o with
  | .routeSelector => s.routeJob.isNone
  | .carrierTable => s.carrierJob.isNone && s.backup.closeRecord.isNone
  | .contextTable | .planStore | .groupTable | .supervisionUnit | .calendarUnit => true

/-- The request of an entry that waits for owner `o`. -/
def Entry.waitsFor (e : Entry) (o : Owner) : Option (Nat × List Byte) :=
  match e.phase with
  | .withOwner req false => if (kindOf req).map Kind.owner = some o then some (e.slot, req) else none
  | _ => none

/-- The request that an owner serves next: the first in taking order that waits for it (R160). -/
def nextRequest (o : Owner) (s : State) : Option (Nat × List Byte) := s.intake.inHand.findSome? (fun e => e.waitsFor o)

/-- The slot and request half of the request of kind `k` that its owner serves now: the part is up, the owner takes a
request, and its next one is of that kind. Otherwise there is no such event (notes/assumptions/1.md). -/
def served (k : Kind) (s : State) : Option (Nat × List Byte) :=
  if s.up ∧ ownerReady k.owner s then
    match nextRequest k.owner s with
    | some (slot, req) => if kindOf req = some k then some (slot, req) else none
    | none => none
  else none

/-- A request command: the owner serves its next request by `f`; where there is none of that kind, nothing changes. -/
def serve (k : Kind) (f : Nat → List Byte → State → State) (s : State) : Result :=
  match served k s with
  | some (slot, req) => .next (f slot req s)
  | none => .next s

/-- The owner has begun a request and holds it across events. -/
def markBegun (slot : Nat) (req : List Byte) (s : State) : State :=
  s.setIntake (s.intake.setPhase slot (.withOwner req true))

/-- A request half that has been read is handed to the owner of its kind, or answered FORMAT when its kind byte holds none
(R160). -/
def dispatch (slot : Nat) (req : List Byte) (s : State) : State :=
  match kindOf req with
  | some _ => s.setIntake (s.intake.setPhase slot (.withOwner req false))
  | none => reply slot req .format 0 [] s

/-! ### Scan passes (R158, R159) -/

/-- The scan timer is restarted with the interval in force (R158, R169). -/
def restartTimer (s : State) : State := s.setIntake { s.intake with timer := some s.regs.interval }

/-- The pass asks for the strip burst that holds its next slot, to slot N - 1 and not past the last slot it examines; the
burst ends at the next multiple of the burst length (R159, R173). -/
def askStrip (p : Pass) (s : State) : State :=
  ask .intake (readTransfer (.strip p.next) (areaAddr s p.next) (min p.left (slotCount s - p.next)))
    (s.setIntake { s.intake with pass := some { p with codes := [] } })

/-- A scan pass begins at the resume point and examines N slots (R159); a resume point beyond the last slot begins at slot
0 (DESIGN CHOICE, notes/assumptions/13.md). -/
def startPass (s : State) : State :=
  let r := if s.intake.resume < slotCount s then s.intake.resume else 0
  askStrip { next := r, left := slotCount s, codes := [], taking := none } s

/-- A pass falls due: it starts at once, or after the recovery in progress (R158, R172). -/
def passFallsDue (s : State) : State :=
  if s.intake.recovery.isSome then s.setIntake { s.intake with passDue := true } else startPass s

/-- A pass ends: the resume point is set, the scan timer restarts, and a rescan request starts a new pass (R158). -/
def endPass (resume : Nat) (s : State) : State :=
  let s1 := restartTimer (s.setIntake { s.intake with pass := none, resume := resume })
  if s1.intake.rescan then passFallsDue (s1.setIntake { s1.intake with rescan := false }) else s1

/-- A slot is taken: an UNREAD entry joins the in-hand list and TAKEN is written to the strip (R159). -/
def takeSlot (slot : Nat) (p : Pass) (s : State) : State :=
  ask .intake (writeTransfer (.taken slot) (areaAddr s slot) [2#8])
    (s.setIntake { s.intake with
      inHand := s.intake.inHand ++ [{ slot := slot, phase := .unread }]
      pass := some { p with taking := some slot } })

/-- The pass with its next slot examined. -/
def Pass.advance (p : Pass) (slots : Nat) : Pass := { p with next := (p.next + 1) % slots, left := p.left - 1 }

/-- The pass works through the codes of a burst in slot order (R159): a POSTED slot not in hand is taken, or stops the
pass when 64 requests are in hand; every other slot is passed over. -/
def examineCodes : List Byte → Pass → State → State
  | [], p, s => if p.left = 0 then endPass 0 s else askStrip p s
  | c :: rest, p, s =>
    if c = 1#8 ∧ s.intake.entryOf p.next = none then
      if s.intake.inHand.length < 64 then
        takeSlot p.next { p.advance (slotCount s) with codes := rest } s
      else endPass p.next s
    else examineCodes rest (p.advance (slotCount s)) s

/-- A pass made due during a sweep or recovery starts (R172, R176). -/
def launchDuePass (s : State) : State :=
  if s.intake.passDue then
    let s1 := s.setIntake { s.intake with passDue := false }
    if s.regs.engine = .running ∧ s.intake.pass = none then startPass s1 else s1
  else s

/-! ### Recovery (R172) -/

/-- Step 2 of the recovery: TAKEN is written again for the next UNREAD entry; after the last, scanning begins. -/
def recoverUnread (slots : List Nat) (s : State) : State :=
  match slots with
  | [] => launchDuePass (s.setIntake { s.intake with recovery := none })
  | slot :: _ =>
    ask .intake (writeTransfer (.taken slot) (areaAddr s slot) [2#8])
      (s.setIntake { s.intake with recovery := some (.unread slots) })

/-- The slots of the UNREAD entries, in taking order. -/
def Intake.unreadSlots (k : Intake) : List Nat :=
  (k.inHand.filter (fun e => decide (e.phase = .unread))).map (fun e => e.slot)

/-- The recovery goes on: step 1 while held answers are left, then step 2; without a recovery, the next formed answer is
written (R161, R172). -/
def proceedAnswers (s : State) : State :=
  match s.intake.recovery with
  | some (.answers 0) => startAnswerWrite (recoverUnread s.intake.unreadSlots s)
  | _ => startAnswerWrite s

/-- The recovery begins with the answers held now (R172). -/
def startRecovery (s : State) : State :=
  s.setIntake { s.intake with recovery := some (.answers s.intake.formed.length) }

/-! ### Abort sweep (R176) -/

/-- The intake with its sweep replaced. -/
def setSweep (w : Sweep) (s : State) : State := s.setIntake { s.intake with sweep := w }

/-- The sweep is complete: nothing is owed; in RUNNING the scan timer starts, and the recovery and a due pass follow
(R158, R172, R176). -/
def finishSweep (s : State) : State :=
  let s1 := setSweep { owed := false, next := 0, active := false, codes := [] } s
  if s1.regs.engine = .running then
    let s2 := restartTimer s1
    let s3 := s2.setIntake { s2.intake with rescan := false, passDue := s2.intake.passDue || s2.intake.rescan }
    let s4 := proceedAnswers s3
    if s4.intake.recovery.isSome then s4 else launchDuePass s4
  else checkHalt (proceedAnswers s1)

/-- A sweep stopped by DRAINING stays owed from the slot at which it stands (R176). -/
def stopSweep (s : State) : State :=
  checkHalt (proceedAnswers (setSweep { s.intake.sweep with active := false, codes := [] } s))

/-- The sweep asks for the strip burst that holds its next slot, in the area as it is placed now (DESIGN CHOICE,
notes/assumptions/38.md). -/
def askSweepStrip (s : State) : State :=
  let n := s.intake.sweep.next
  ask .intake (readTransfer .sweepStrip (areaAddr s n) (slotCount s - n)) s

/-- The sweep works through strip codes: a TAKEN slot is swept, beginning with its request header, every other is passed
over; in DRAINING it stops between slots (R176). A strip burst being read at the RUN 0 ends first, and none of its codes is
worked through (DESIGN CHOICE, notes/assumptions/37.md). -/
def sweepCodes : List Byte → State → State
  | [], s =>
    if slotCount s ≤ s.intake.sweep.next then finishSweep s
    else if s.regs.engine = .draining then stopSweep s
    else askSweepStrip s
  | c :: rest, s =>
    if s.regs.engine = .draining then stopSweep s
    else if c = 2#8 then
      ask .intake (readTransfer .sweepHeader (areaAddr s (bodyOffset s.intake.sweep.next)) 8)
        (setSweep { s.intake.sweep with codes := rest } s)
    else sweepCodes rest (setSweep { s.intake.sweep with next := s.intake.sweep.next + 1 } s)

/-- The owed sweep is made, or resumed from the slot at which it stands (R176). -/
def startSweep (s : State) : State :=
  sweepCodes [] (setSweep { s.intake.sweep with active := true, codes := [] } s)

/-! ### Completed transfers -/

/-- TAKEN is written; the request half is read (R159, R162). -/
def takenWritten (slot : Nat) (s : State) : State :=
  ask .intake (readTransfer (.requestHalf slot) (areaAddr s (bodyOffset slot)) 64) s

/-- A request half has been read: it is dispatched (R160), and the pass or the recovery goes on (R159, R172). -/
def requestRead (slot : Nat) (req : List Byte) (s : State) : State :=
  let s1 := dispatch slot req s
  match s1.intake.pass with
  | some p =>
    if p.taking = some slot then examineCodes p.codes { p with taking := none } s1 else s1
  | none =>
    match s1.intake.recovery with
    | some (.unread (x :: rest)) => if x = slot then recoverUnread rest s1 else s1
    | _ => s1

/-- A strip burst has been read: its codes are examined (R159). -/
def stripRead (codes : List Byte) (s : State) : State :=
  match s.intake.pass with
  | some p => examineCodes codes p s
  | none => s

/-- The answer half is stored; ANSWERED follows (R161, step 2). -/
def answerHalfWritten (slot : Nat) (s : State) : State :=
  ask .intake (writeTransfer (.answered slot) (areaAddr s slot) [3#8]) s

/-- The Carrier Table is told that a CLOSE PERIOD's OK answer is written: the close is settled (R152). -/
def settleClose (s : State) : State := (s.setBackup { s.backup with closeRecord := none }).setCarrierJob none

/-- Whether the answer of a slot is the OK answer of a CLOSE PERIOD (R161). -/
def Intake.isCloseOk (k : Intake) (slot : Nat) : Bool :=
  match k.entryOf slot with
  | some ⟨_, .answerFormed req a⟩ => decide (kindOf req = some .closePeriod ∧ byteAt a 0 = 0)
  | _ => false

/-- The intake without a slot's entry, its answer written (R161, step 4). -/
def Intake.dropWritten (k : Intake) (slot : Nat) : Intake :=
  { k with
    inHand := k.inHand.filter (fun e => decide (e.slot ≠ slot))
    formed := k.formed.filter (fun i => decide (i ≠ slot))
    writing := false
    recovery := match k.recovery with
      | some (.answers (n + 1)) => some (.answers n)
      | other => other }

/-- ANSWERED is written: the ANSWERS bit is set, the entry leaves the in-hand list, a close is settled, and the next
answer or the recovery goes on (R161, R170, R172). -/
def answeredWritten (slot : Nat) (s : State) : State :=
  let s1 := raiseBit .answers s
  let s2 := if s1.intake.isCloseOk slot then settleClose s1 else s1
  checkHalt (proceedAnswers (s2.setIntake (s2.intake.dropWritten slot)))

/-- The header of a slot being swept has been read: its ABORTED_BY_RESET answer is written (R176), with no field of the
request beyond the header, so without a group index too (DESIGN CHOICE, notes/assumptions/34.md). -/
def sweepHeaderRead (header : List Byte) (s : State) : State :=
  ask .intake (writeTransfer .sweepAnswer (areaAddr s (bodyOffset s.intake.sweep.next + 64))
    (answerHalf .abortedByReset header 0 [])) s

/-- The swept slot's answer half is stored; ANSWERED follows (R176). -/
def sweepAnswerWritten (s : State) : State :=
  ask .intake (writeTransfer .sweepAnswered (areaAddr s s.intake.sweep.next) [3#8]) s

/-- The swept slot is ANSWERED: the ANSWERS bit is set and the sweep goes on (R176). -/
def sweepAnsweredWritten (s : State) : State :=
  let s1 := raiseBit .answers s
  sweepCodes s1.intake.sweep.codes (setSweep { s1.intake.sweep with next := s1.intake.sweep.next + 1 } s1)

/-! ### Faults (R162, R170) -/

/-- The resume point when a pass is ended between slots: the first slot it did not examine, 0 when it examined all (R159). -/
def Pass.stopPoint (p : Pass) : Nat := if p.left = 0 then 0 else p.next

/-- The resume point at a fault: a pass whose own taking of a slot failed resumes at the next slot, any other at the first
slot it did not examine (R159, R162). Without a pass, as in the recovery or after a RUN 0, the point stays (DESIGN CHOICE,
notes/assumptions/36.md). -/
def Intake.faultResume (k : Intake) (failed : Option Nat) : Nat :=
  match k.pass with
  | none => k.resume
  | some p => if p.taking.isSome && decide (p.taking = failed) then p.next else p.stopPoint

/-- A generation count brought to even: it rises by 1 when it is odd, as it is from the snapshot to the closing write, for
which it has risen already (R163, R164). -/
def toEven (g : Tick) : Tick := if g.getLsbD 0 then g + 1#32 else g

/-- The engine enters FAULTED (R170): RUN becomes 0, FAULT is set, kind and slot are stored, the pass ends, the rescan
request is cleared, the scan timer stops, and no exchange-area transfer is left (R172). A pass made due during the recovery is
dropped (DESIGN CHOICE, notes/assumptions/42.md). A mirror write in progress is not
completed, and the generation count comes to even (R164; notes/assumptions/14.md). -/
def enterFault (kind : FaultKind) (slot : Nat) (failed : Option Nat) (s : State) : State :=
  let s1 := raiseBit .fault
    (s.setRegs { s.regs with run := false, engine := .faulted, faultKind := kind, faultSlot := slot })
  let s2 := s1.setIntake { s1.intake with
    pass := none, resume := s1.intake.faultResume failed, rescan := false, passDue := false, timer := none,
    recovery := none, writing := false, sweep := { s1.intake.sweep with active := false, codes := [] } }
  let s3 := s2.setPort { s2.port with intake := [], mirror := [] }
  match s3.mirror.marks with
  | some _ => s3.setMirror { generation := toEven s3.mirror.generation, marks := none }
  | none => s3

end Sys2Proof.Machine
end

