-- ==== Sys2Proof/Machine/Ops.lean ====
section
/-! DEFINITION. The named reads and writes of the machine's records (banks, groups, contexts, carriers, settlements), and
the retained alternates that other blocks clear (R21). -/

namespace Sys2Proof.Machine

/-! ### Banks -/

/-- A bank of the Plan Store. -/
def PlanStore.bank (p : PlanStore) : Bank → BankData
  | .a => p.bankA
  | .b => p.bankB

/-- The Plan Store with one bank replaced. -/
def PlanStore.setBank (p : PlanStore) : Bank → BankData → PlanStore
  | .a, d => { p with bankA := d }
  | .b, d => { p with bankB := d }

/-- The bank that the selector does not name. -/
def Bank.other : Bank → Bank
  | .a => .b
  | .b => .a

/-- A bank of the machine. -/
def State.bank (s : State) (k : Bank) : BankData := s.plan.bank k

/-- The machine with one bank replaced. -/
def putBank (k : Bank) (d : BankData) (s : State) : State := s.setPlan (s.plan.setBank k d)

/-- One destination entry of a bank changed (R4). -/
def changeDest (k : Bank) (index : Nat) (f : Dest → Dest) (s : State) : State :=
  putBank k { s.bank k with dests := (s.bank k).dests.modify index f } s

/-- A bank's provisional count changed (R8). -/
def changeProvisional (k : Bank) (f : Nat → Nat) (s : State) : State :=
  putBank k { s.bank k with provisional := f (s.bank k).provisional } s

/-- The route list at an index, no steps when it is absent (R6). -/
def BankData.routeList (d : BankData) (i : Nat) : List RouteStep := Table.read d.lists [] i

/-- A bank with every retained alternate that `p` selects made empty (R21). -/
def BankData.clearRetained (p : Option Nat → Bool) (d : BankData) : BankData :=
  { d with dests := d.dests.map (fun e => if p e.retained then { e with retained := none } else e) }

/-- Every retained alternate equal to `g`, in both banks, is made empty (R21, R48). -/
def clearRetainedGroup (g : Nat) (s : State) : State :=
  let p : Option Nat → Bool := fun r => decide (r = some g)
  s.setPlan { s.plan with bankA := s.plan.bankA.clearRetained p, bankB := s.plan.bankB.clearRetained p }

/-! ### Groups -/

/-- A group's record (R23, R24). -/
def State.group (s : State) (g : Nat) : Group := Table.read s.groups Group.unconfigured g

/-- The machine with a group's record replaced. -/
def putGroup (g : Nat) (r : Group) (s : State) : State := s.setGroups (Table.write s.groups Group.unconfigured g r)

/-- free = size - busy - blocked, 0 when busy + blocked reaches size (R23). -/
def Group.free (r : Group) : Nat := r.size - (r.busy + r.blocked)

/-- available = size - blocked (R23). -/
def Group.available (r : Group) : Nat := r.size - r.blocked

/-! ### Carriers -/

/-- A carrier's record outside the Backup Domain (R117). -/
def State.carrier (s : State) (c : Nat) : Carrier := Table.read s.carriers Carrier.reset c

/-- The machine with a carrier's record replaced. -/
def putCarrier (c : Nat) (r : Carrier) (s : State) : State := s.setCarriers (Table.write s.carriers Carrier.reset c r)

/-- A carrier's record in the Backup Domain (R145). -/
def State.settlement (s : State) (c : Nat) : Settlement := Table.read s.backup.settlements Settlement.zero c

/-- The machine with a carrier's Backup Domain record replaced. -/
def putSettlement (c : Nat) (r : Settlement) (s : State) : State :=
  s.setBackup { s.backup with settlements := Table.write s.backup.settlements Settlement.zero c r }

/-- A carrier's open-handover count (R117). -/
def State.openHandovers (s : State) (c : Nat) : Nat := (s.settlement c).openHandovers

/-- The tariff sets of one direction of a carrier (R117). -/
def Carrier.tariffs (r : Carrier) : Direction → Tariffs
  | .inbound => r.inbound
  | .outbound => r.outbound

/-- A carrier with the tariff sets of one direction replaced. -/
def Carrier.setTariffs (r : Carrier) : Direction → Tariffs → Carrier
  | .inbound, t => { r with inbound := t }
  | .outbound, t => { r with outbound := t }

/-- The band record for band `b` of a carrier's active set in a direction, if that set is present (R121). -/
def State.bandRecord (s : State) (c : Nat) (d : Direction) (b : Nat) : Option BandRecord :=
  match ((s.carrier c).tariffs d).active with
  | some records => records[b]?
  | none => none

/-! ### Contexts -/

/-- A context (R80, R81). -/
def State.context (s : State) (i : Nat) : Context := Table.read s.contexts.table Context.reset i

/-- The machine with a context replaced. -/
def putContext (i : Nat) (c : Context) (s : State) : State :=
  s.setContexts { s.contexts with table := Table.write s.contexts.table Context.reset i c }

/-- A context becomes FREE and keeps nothing but its generation (R80, R87). -/
def freeContext (i : Nat) (s : State) : State :=
  putContext i { generation := (s.context i).generation, state := .free } s

/-- What a context that is not FREE holds (R80). -/
def CallState.call? : CallState → Option Call
  | .free => none
  | .provisional c _ => some c
  | .confirmed c => some c
  | .answered c _ => some c
  | .expired c _ => some c

/-- PROVISIONAL, CONFIRMED or ANSWERED (R80). -/
def CallState.live : CallState → Bool
  | .provisional _ _ => true
  | .confirmed _ => true
  | .answered _ _ => true
  | .free => false
  | .expired _ _ => false

end Sys2Proof.Machine
end

