-- ==== Sys2Proof/WellFormed.lean ====
section
/-! DEFINITION. Which commands are well formed: an operand that names a carrier, a context, a gap code or a beat lies in
the range the spec gives it. -/

namespace Sys2Proof

/-- A gap code: 1..12 digits, each 0..9 (R50). -/
def wellFormedCode (code : List Nat) : Bool :=
  decide (1 ≤ code.length) && decide (code.length ≤ 12) && code.all (fun d => decide (d ≤ 9))

/-- A reply to a burst: a burst is at most 128 bytes, so at most 16 beats (R173). -/
def BurstReply.wellFormed : BurstReply → Bool
  | .done data => decide (data.length ≤ 128)
  | .busError beat => decide (beat < 16)

/-- The operands of a command lie in the ranges the spec gives them. -/
def Instr.wellFormed : Instr → Bool
  | .tariffActivation carrier _ => decide (1 ≤ carrier) && decide (carrier ≤ 255)
  | .gapEntryLapse code => wellFormedCode code
  | .confirmationExpiry index => decide (index < 16384)
  | .longCallMark index => decide (index < 16384)
  | .memoryBurstDone reply => reply.wellFormed
  | .route => true
  | .routeWalk => true
  | .routeReports => true
  | .confirm => true
  | .answer => true
  | .release => true
  | .crankback => true
  | .queryCall => true
  | .setCallTimers => true
  | .loadDestinations => true
  | .loadRouteLists => true
  | .setBandMap => true
  | .setHolidays => true
  | .bankLoadHead => true
  | .switchPlan => true
  | .setGroup => true
  | .blockCircuits => true
  | .unblockCircuits => true
  | .setSupervision => true
  | .setGap => true
  | .clearGap => true
  | .setCalendar => true
  | .alignMinute => true
  | .setCarrier => true
  | .loadTariff => true
  | .cancelTariff => true
  | .closePeriod => true
  | .frameSlot _ => true
  | .referenceLoss => true
  | .referenceLock => true
  | .tickAdvance => true
  | .tenthAdvance => true
  | .periodEnd => true
  | .scanTimerExpiry => true
  | .runOne => true
  | .runZero => true
  | .softReset => true
  | .attnMode _ => true
  | .scanInterval _ => true
  | .burstSize _ => true
  | .areaBase _ => true
  | .areaSize _ => true
  | .nudge _ => true
  | .attention _ => true
  | .registerWriteIgnored _ _ => true
  | .attnPulseEnd => true
  | .powerOn => true
  | .resetLineAsserted => true
  | .resetLineReleased => true
  | .resetEnd => true
  | .backupTenthAdvance => true
  | .mainSupplyLoss => true
  | .backupSupplyFailure => true

end Sys2Proof
end

