-- ==== Sys2Proof/Machine/Calendar.lean ====
section
/-! DEFINITION. Boundary events on answered calls (R93 to R96), the calendar and the band (R101 to R108), the
pending-tariff compare and activations (R111, R112, R125), and SET CALENDAR and ALIGN MINUTE (R105, R106). -/

namespace Sys2Proof.Machine

/-! ### Rates and boundary events -/

/-- The inbound rate of a call for band `b`: that of the origin carrier's active inbound set, 0 when the direction is not
priced or the set is absent (R86). -/
def inboundRate (s : State) (c : Call) (b : Nat) : Nat :=
  if c.origin = 0 then 0 else ((s.bandRecord c.origin .inbound b).map BandRecord.rate).getD 0

/-- The owner of a call's current group. -/
def callOwner (s : State) (c : Call) : Nat := (s.group c.group).owner

/-- The outbound rate of a call for band `b`: that of the owner's active outbound set, 0 when the direction is not priced
or the set is absent (R86). -/
def outboundRate (s : State) (c : Call) (b : Nat) : Nat :=
  if callOwner s c = 0 then 0 else ((s.bandRecord (callOwner s c) .outbound b).map BandRecord.rate).getD 0

/-- A segment that starts now, with the band in force and the rates just read (R86, R94). -/
def segmentNow (s : State) (c : Call) : Segment :=
  { start := s.now, band := s.clock.band, inRate := inboundRate s c s.clock.band, outRate := outboundRate s c s.clock.band }

/-- The longest priced duration, 24 hours of ticks (R96, R132). -/
def longCall : Nat := 864000

/-- A boundary event at a segment's start (R94, R95): a last segment that started now is replaced, a seventh segment sets
MERGED, otherwise the segment is appended. -/
def addSegment (g : Segment) (a : Answered) : Answered :=
  match a.segments.getLast? with
  | none => { a with segments := [g] }
  | some last =>
    if last.start = g.start then { a with segments := a.segments.dropLast ++ [g] }
    else if a.segments.length < 6 then { a with segments := a.segments ++ [g] }
    else { a with merged := true }

/-- A boundary event on one context: an ANSWERED context that `reaches` selects is treated, unless LONG is set or its
long-call mark's tick has come (R93, R94, R96). -/
def boundaryOn (s : State) (reaches : Call → Bool) (c : Context) : Context :=
  match c.state with
  | .answered call a =>
    if reaches call = true ∧ a.long = false ∧ (s.now - a.tick).toNat < longCall then
      { c with state := .answered call (addSegment (segmentNow s call) a) }
    else c
  | _ => c

/-- A boundary event at the Context Table (R93). -/
def boundaryEvent (reaches : Call → Bool) (s : State) : State :=
  s.setContexts { s.contexts with table := Table.mapValues (boundaryOn s reaches) s.contexts.table }

/-! ### The calendar (R101, R102) -/

/-- The length of a month (R102). -/
def monthLength (year month : Nat) : Nat :=
  if month = 2 then (if year % 4 = 0 then 29 else 28)
  else if month = 4 ∨ month = 6 ∨ month = 9 ∨ month = 11 then 30
  else 31

/-- The day carry (R102). -/
def dayCarry (c : Calendar) : Calendar :=
  let c1 := { c with weekday := if c.weekday = 6 then 0 else c.weekday + 1 }
  if c.day < monthLength c.year c.month then { c1 with day := c.day + 1 }
  else if c.month = 12 then { c1 with day := 1, month := 1, year := if c.year = 99 then 0 else c.year + 1 }
  else { c1 with day := 1, month := c.month + 1 }

/-- The minute rises by 1, with the carries into hour and day (R101). -/
def minuteCarry (c : Calendar) : Calendar :=
  if c.minute = 59 then
    if c.hour = 23 then dayCarry { c with minute := 0, hour := 0 } else { c with minute := 0, hour := c.hour + 1 }
  else { c with minute := c.minute + 1 }

/-- The second rises by 1, with the carries (R101). -/
def secondCarry (c : Calendar) : Calendar :=
  if c.second = 59 then minuteCarry { c with second := 0 } else { c with second := c.second + 1 }

/-- A tenth is added, with the carries (R101). -/
def addTenth (c : Calendar) : Calendar :=
  if c.tenth = 9 then secondCarry { c with tenth := 0 } else { c with tenth := c.tenth + 1 }

/-- Whether adding a tenth is a second carry (R101). -/
def isSecondCarry (c : Calendar) : Bool := decide (c.tenth = 9)

/-- Whether adding a tenth is a half-hour carry: it brings the minute to 30 or to 0 (R101). -/
def isHalfHourCarry (c : Calendar) : Bool :=
  decide (c.tenth = 9 ∧ c.second = 59 ∧ ((addTenth c).minute = 30 ∨ (addTenth c).minute = 0))

/-! ### Band evaluation (R107, R108) -/

/-- The first cell of the day class of a calendar in a bank's band map (R7, R107). -/
def dayClassCell (d : BankData) (c : Calendar) : Nat :=
  if (c.month, c.day) ∈ d.holidays ∨ c.weekday = 6 then 97 else if c.weekday = 5 then 49 else 1

/-- The half-hour index (R7). -/
def halfHour (c : Calendar) : Nat := 2 * c.hour + (if 30 ≤ c.minute then 1 else 0)

/-- The band found at a band evaluation (R107). -/
def bandFound (s : State) : Nat :=
  if s.backup.clockSet then
    let d := s.bank s.plan.active
    Table.read d.bandMap 0 (dayClassCell d s.backup.calendar + halfHour s.backup.calendar)
  else 0

/-- A band evaluation: the band found replaces the current band, and a different one is signalled as one boundary event to
every answered context (R93, R107, R108). -/
def evaluateBand (s : State) : State :=
  let s1 := s.setClock { s.clock with band := bandFound s }
  if bandFound s = s.clock.band then s1 else boundaryEvent (fun _ => true) s1

/-! ### Activations and the compare (R111, R112, R125) -/

/-- Field by field, the first that differs decides: whether the first list comes before or equals the second (R111). -/
def fieldsReached : List Nat → List Nat → Bool
  | x :: xs, y :: ys => if x = y then fieldsReached xs ys else decide (x < y)
  | _, _ => true

/-- Whether an effective time is reached by the calendar (R111). -/
def timeReached (t : EffectiveTime) (c : Calendar) : Bool :=
  fieldsReached [t.year, t.month, t.day, t.hour, t.minute, t.second] [c.year, c.month, c.day, c.hour, c.minute, c.second]

/-- Which calls an activation of carrier `c`'s set reaches (R93). -/
def activationReaches (s : State) (c : Nat) (d : Direction) (call : Call) : Bool :=
  match d with
  | .inbound => decide (call.origin = c)
  | .outbound => decide (callOwner s call = c)

/-- A carrier's tariff sets in one direction replaced. -/
def putTariffs (c : Nat) (d : Direction) (t : Tariffs) (s : State) : State :=
  putCarrier c ((s.carrier c).setTariffs d t) s

/-- An activation that leaves the direction's sets as `t`: a status event, and a boundary event to the calls it reaches
(R125). -/
def activate (c : Nat) (d : Direction) (t : Tariffs) (s : State) : State :=
  let s1 := statusEvent (putTariffs c d t s)
  boundaryEvent (activationReaches s1 c d) s1

/-- The pending set of a direction is activated if a compare has handed it over (R112, R125). -/
def takeHanded (c : Nat) (d : Direction) (s : State) : State :=
  match ((s.carrier c).tariffs d).pending with
  | some p => if p.handed then activate c d { active := some p.records, pending := none } s else s
  | none => s

/-- Whether a compare finds a pending set due now: it is reached (R112), and was not handed over before, for a set is found
due once (DESIGN CHOICE, notes/assumptions/24.md). -/
def pendingDue (cal : Calendar) (t : Tariffs) : Bool :=
  match t.pending with
  | some p => !p.handed && timeReached p.time cal
  | none => false

/-- A direction's sets after a compare (R112); a set handed over stays so when the calendar moves back (DESIGN CHOICE,
notes/assumptions/24.md). -/
def handOver (cal : Calendar) (t : Tariffs) : Tariffs :=
  match t.pending with
  | some p => if timeReached p.time cal then { t with pending := some { p with handed := true } } else t
  | none => t

/-- The number of pending sets that a compare finds due (R105, R112). -/
def dueCount (s : State) : Nat :=
  (s.carriers.map (fun e => bit (pendingDue s.backup.calendar e.2.inbound) + bit (pendingDue s.backup.calendar e.2.outbound))).sum

/-- The pending-tariff compare: every pending set whose effective time is reached is handed over for activation (R112). -/
def compareTariffs (s : State) : State :=
  s.setCarriers (Table.mapValues
    (fun r => { r with inbound := handOver s.backup.calendar r.inbound, outbound := handOver s.backup.calendar r.outbound })
    s.carriers)

/-- TARIFF_ACTIVATION: the set that a compare handed over is activated (R112, R125). -/
def execTariffActivation (c : Nat) (d : Direction) (s : State) : Result :=
  if (Instr.tariffActivation c d).wellFormed = false then .fault .illFormed
  else .next (if s.up then takeHanded c d s else s)

/-! ### SET CALENDAR and ALIGN MINUTE -/

/-- The calendar replaced, with the calendar divider cleared, the band evaluated and the compare made, in one event (R105,
R106). -/
def moveCalendar (cal : Calendar) (s : State) : State :=
  let s1 := s.setBackup { s.backup with calendar := cal, clockSet := true }
  compareTariffs (evaluateBand (s1.setClock { s1.clock with calDivider := 0 }))

/-- The number of the first field out of range, 0 when all are in range; each field is given with its least and greatest
value. -/
def firstOutOfRange (from_ : Nat) : List (Nat × Nat × Nat) → Nat
  | [] => 0
  | (x, lo, hi) :: rest => if lo ≤ x ∧ x ≤ hi then firstOutOfRange (from_ + 1) rest else from_

/-- The number of a SET CALENDAR's first field out of range (R105, Table 10-12). -/
def calendarField (req : List Byte) : Nat :=
  firstOutOfRange 1
    [(byteAt req 8, 0, 99), (byteAt req 9, 1, 12), (byteAt req 10, 1, 31), (byteAt req 11, 0, 6), (byteAt req 12, 0, 23),
     (byteAt req 13, 0, 59), (byteAt req 14, 0, 59)]

/-- The calendar that a SET CALENDAR writes (R105). -/
def calendarOf (req : List Byte) : Calendar :=
  { year := byteAt req 8, month := byteAt req 9, day := byteAt req 10, weekday := byteAt req 11, hour := byteAt req 12,
    minute := byteAt req 13, second := byteAt req 14, tenth := 0 }

/-- The pending sets that the compare of a moved calendar finds due (R105, R106). -/
def dueAt (cal : Calendar) (s : State) : Nat := dueCount (s.setBackup { s.backup with calendar := cal })

/-- SET CALENDAR at the Calendar Unit (R105). -/
def serveSetCalendar (slot : Nat) (req : List Byte) (s : State) : State :=
  if reservedClear .setCalendar req = false then reply slot req .format 0 [] s
  else if calendarField req ≠ 0 then reply slot req .range (calendarField req) [] s
  else
    let cal := calendarOf req
    let s1 := moveCalendar cal s
    reply slot req .ok 0
      [⟨72, 8, cal.value⟩, ⟨80, 1, bit s.backup.clockSet⟩, ⟨81, 1, s1.clock.band⟩,
       ⟨82, 1, bit (decide (s1.clock.band ≠ s.clock.band))⟩, ⟨84, 2, dueAt cal s⟩] s1

/-- SET_CALENDAR (R105). -/
def execSetCalendar (s : State) : Result := serve .setCalendar serveSetCalendar s

/-- The calendar after an alignment to the nearest minute (R106). -/
def alignedMinute (c : Calendar) : Calendar :=
  if c.second < 30 then { c with second := 0, tenth := 0 } else minuteCarry { c with second := 0, tenth := 0 }

/-- ALIGN MINUTE at the Calendar Unit (R106). -/
def serveAlignMinute (slot : Nat) (req : List Byte) (s : State) : State :=
  if reservedClear .alignMinute req = false then reply slot req .format 0 [] s
  else if s.backup.clockSet = false then reply slot req .wrongState 0 [] s
  else
    let cal := alignedMinute s.backup.calendar
    let s1 := moveCalendar cal s
    reply slot req .ok 0
      [⟨72, 8, cal.value⟩, ⟨80, 1, s.backup.calendar.second⟩, ⟨81, 1, s1.clock.band⟩,
       ⟨82, 1, bit (decide (s1.clock.band ≠ s.clock.band))⟩, ⟨84, 2, dueAt cal s⟩] s1

/-- ALIGN_MINUTE (R106). -/
def execAlignMinute (s : State) : Result := serve .alignMinute serveAlignMinute s

end Sys2Proof.Machine
end

