-- ==== Sys2Proof/Machine/Plans.lean ====
section
/-! DEFINITION. The Plan Store: the bank loads and their queue (R9 to R18) and SWITCH PLAN (R19). -/

namespace Sys2Proof.Machine

/-! ### The load queue (R9, R10) -/

/-- What a bank load's own fields say: its kind, its bank and its record count, none when a field is refused (R9, the table
of section 1.3). -/
structure LoadFields where
  kind : LoadKind
  bank : Bank
  count : Nat
  deriving DecidableEq, Repr

/-- The mode of a LOAD DESTINATIONS by its code (Table 10-11). -/
def modeOfCode (n : Nat) : Option LoadMode := if n = 0 then some .replaceAll else if n = 1 then some .merge else none

/-- The fields of a LOAD DESTINATIONS. -/
def destinationsFields (req : List Byte) : Option LoadFields :=
  match bankOfCode (byteAt req 8), modeOfCode (byteAt req 9) with
  | some k, some m =>
    let n := readLE req 10 2
    if 1 ≤ n ∧ n ≤ 256 then some { kind := .destinations m, bank := k, count := n } else none
  | _, _ => none

/-- The fields of a LOAD ROUTE LISTS. -/
def routeListsFields (req : List Byte) : Option LoadFields :=
  match bankOfCode (byteAt req 8) with
  | some k =>
    let n := readLE req 10 2
    if 1 ≤ n ∧ n ≤ 256 then some { kind := .routeLists, bank := k, count := n } else none
  | none => none

/-- The fields of a SET BAND MAP. -/
def bandMapFields (req : List Byte) : Option LoadFields :=
  (bankOfCode (byteAt req 8)).map (fun k => { kind := .bandMap, bank := k, count := 144 })

/-- The fields of a SET HOLIDAYS. -/
def holidaysFields (req : List Byte) : Option LoadFields :=
  match bankOfCode (byteAt req 8) with
  | some k =>
    let n := readLE req 10 2
    if n ≤ 32 then some { kind := .holidays, bank := k, count := n } else none
  | none => none

/-- A bank load at the Plan Store: its own fields are checked, and it is appended to the load queue (R9). -/
def serveLoad (k : Kind) (fields : List Byte → Option LoadFields) (slot : Nat) (req : List Byte) (s : State) : State :=
  if reservedClear k req = false then reply slot req .format 0 [] s
  else if readLE req 12 4 % 8 ≠ 0 then reply slot req .format 0 [] s
  else match fields req with
    | none => reply slot req .range 0 [] s
    | some f =>
      let l : Load := { slot := slot, request := req, kind := f.kind, bank := f.bank,
                        addr := BitVec.ofNat 32 (readLE req 12 4), count := f.count }
      markBegun slot req (s.setPlan { s.plan with queue := s.plan.queue ++ [l] })

/-- LOAD_DESTINATIONS (R9). -/
def execLoadDestinations (s : State) : Result :=
  serve .loadDestinations (serveLoad .loadDestinations destinationsFields) s

/-- LOAD_ROUTE_LISTS (R9). -/
def execLoadRouteLists (s : State) : Result := serve .loadRouteLists (serveLoad .loadRouteLists routeListsFields) s

/-- SET_BAND_MAP (R9). -/
def execSetBandMap (s : State) : Result := serve .setBandMap (serveLoad .setBandMap bandMapFields) s

/-- SET_HOLIDAYS (R9). -/
def execSetHolidays (s : State) : Result := serve .setHolidays (serveLoad .setHolidays holidaysFields) s

/-- The head load is answered and removed from the queue (R9). -/
def finishLoad (l : Load) (code : Code) (record : Nat) (fields : List Field) (s : State) : State :=
  reply l.slot l.request code record fields
    (s.setPlan { s.plan with queue := s.plan.queue.tail, headBegun := false })

/-! ### Staging copies (R12 to R15) -/

/-- The records of a load block, in block order (Table 10-15). -/
def recordsOf (size count : Nat) (bytes : List Byte) : List (List Byte) :=
  (List.range count).map (fun i => (bytes.drop (size * i)).take size)

/-- The first bad record, with its code and its number, counted from `n`. -/
def firstBad (bad : List Byte → Option Code) : Nat → List (List Byte) → Option (Code × Nat)
  | _, [] => none
  | n, r :: rs => match bad r with
    | some c => some (c, n)
    | none => firstBad bad (n + 1) rs

/-- What is wrong with a destination record (R12). -/
def badDestination (r : List Byte) : Option Code :=
  if zeroBytes r 1 1 = false then some .format
  else if byteAt r 0 < 1 ∨ 12 < byteAt r 0 then some .range
  else if digitsValid r 4 (byteAt r 0) = false then some .range
  else if 2047 < readLE r 2 2 then some .range
  else none

/-- The destination entry of a good record (R16). -/
def destinationOf (r : List Byte) : Dest :=
  { code := byteFields r 4 (byteAt r 0), routeList := readLE r 2 2, retained := none, exhaust := 0 }

/-- A step of a route list record: group index and kind code (Table 10-15). -/
def rawSteps (r : List Byte) : List (Nat × Nat) :=
  (List.range (byteAt r 2)).map (fun i => (readLE r (8 + 3 * i) 2, byteAt r (10 + 3 * i)))

/-- The POOL steps of some kind codes form one run (R6, R13). -/
def onePool (kinds : List Nat) : Bool :=
  let fromPool := kinds.dropWhile (fun k => decide (k ≠ 3))
  (fromPool.dropWhile (fun k => decide (k = 3))).all (fun k => decide (k ≠ 3))

/-- What is wrong with a route list record, the conditions in the order of R13's two tables. -/
def badRouteList (r : List Byte) : Option Code :=
  if zeroBytes r 3 5 = false then some .format
  else if 8 < byteAt r 2 then some .format
  else if 2047 < readLE r 0 2 then some .range
  else if (rawSteps r).any (fun p => decide (p.2 < 1 ∨ 3 < p.2)) then some .format
  else if (rawSteps r).any (fun p => decide (1023 < p.1)) then some .range
  else if ¬ ((rawSteps r).map Prod.fst).Nodup then some .format
  else if (rawSteps r).tail.any (fun p => decide (p.2 = 1)) then some .format
  else if onePool ((rawSteps r).map Prod.snd) = false then some .format
  else none

/-- The steps of a good route list record. -/
def stepsOf (r : List Byte) : List RouteStep :=
  (rawSteps r).map (fun p => { group := p.1, kind := (kindOfCode p.2).getD .direct })

/-- What is wrong with a band cell (R14). -/
def badCell (r : List Byte) : Option Code :=
  if 16 ≤ byteAt r 0 then some .format else if 7 < byteAt r 0 then some .range else none

/-- What is wrong with a holiday record (R15). -/
def badHoliday (r : List Byte) : Option Code :=
  if zeroBytes r 2 2 = false then some .format
  else if byteAt r 0 < 1 ∨ 12 < byteAt r 0 then some .range
  else if byteAt r 1 < 1 ∨ 31 < byteAt r 1 then some .range
  else none

/-! ### Applies (R14 to R17) -/

/-- A table after one destination record: an entry with its code is replaced, otherwise one is added at the end (R16). -/
def upsertDest (d : Dest) : List Dest → List Dest
  | [] => [d]
  | e :: es => if e.code = d.code then d :: es else e :: upsertDest d es

/-- The table that the apply of destination records produces (R12, R16). -/
def appliedDests (mode : LoadMode) (old : List Dest) (records : List (List Byte)) : List Dest :=
  (records.map destinationOf).foldl (fun t d => upsertDest d t)
    (match mode with | .replaceAll => [] | .merge => old)

/-- The route lists after the records' apply: the last record naming an index prevails, one of no steps makes it absent
(R17). -/
def appliedLists (old : Table (List RouteStep)) (records : List (List Byte)) : Table (List RouteStep) :=
  records.foldl (fun t r => Table.write t [] (readLE r 0 2) (stepsOf r)) old

/-- The band map of 144 cells, cell n from record n (R7, R14). -/
def appliedMap (records : List (List Byte)) : Table Nat :=
  ((records.zipIdx 1).map (fun p => (p.2, byteAt p.1 0))).filter (fun e => decide (e.2 ≠ 0))

/-- A month-day in its place in ascending order, dropped when it is already there (R15). -/
def insertHoliday (h : Nat × Nat) : List (Nat × Nat) → List (Nat × Nat)
  | [] => [h]
  | k :: ks =>
    if h = k then k :: ks
    else if h.1 < k.1 ∨ (h.1 = k.1 ∧ h.2 < k.2) then h :: k :: ks
    else k :: insertHoliday h ks

/-- The distinct month-days of the records in ascending order (R15). -/
def appliedHolidays (records : List (List Byte)) : List (Nat × Nat) :=
  records.foldl (fun t r => insertHoliday (byteAt r 0, byteAt r 1) t) []

/-- The bytes that a load reads (R11). -/
def Load.bytes (l : Load) : Nat :=
  match l.kind with
  | .destinations _ => 16 * l.count
  | .routeLists => 32 * l.count
  | .bandMap => 144
  | .holidays => 4 * l.count

/-- The apply of a load: the target bank changed, with every retained alternate made empty (R14 to R17, R21). -/
def applyLoad (l : Load) (d : BankData) (s : State) : State :=
  putBank l.bank (d.clearRetained (fun _ => true)) s

/-- The head load's block is complete: it is validated, and applied only if the whole copy is good (R12 to R17). -/
def loadRead (l : Load) (bytes : List Byte) (s : State) : State :=
  let d := s.bank l.bank
  match l.kind with
  | .destinations mode =>
    let records := recordsOf 16 l.count bytes
    match firstBad badDestination 1 records with
    | some (c, n) => finishLoad l c n [] s
    | none =>
      let dests := appliedDests mode d.dests records
      if 8192 < dests.length then finishLoad l .tableFull 0 [] s
      else finishLoad l .ok 0 [⟨72, 2, l.count⟩, ⟨74, 2, dests.length⟩] (applyLoad l { d with dests := dests } s)
  | .routeLists =>
    let records := recordsOf 32 l.count bytes
    match firstBad badRouteList 1 records with
    | some (c, n) => finishLoad l c n [] s
    | none =>
      let lists := appliedLists d.lists records
      finishLoad l .ok 0 [⟨72, 2, l.count⟩, ⟨74, 2, lists.length⟩] (applyLoad l { d with lists := lists } s)
  | .bandMap =>
    let records := recordsOf 1 144 bytes
    match firstBad badCell 1 records with
    | some (c, n) => finishLoad l c n [] s
    | none => finishLoad l .ok 0 [] (applyLoad l { d with bandMap := appliedMap records } s)
  | .holidays =>
    let records := recordsOf 4 l.count bytes
    match firstBad badHoliday 1 records with
    | some (c, n) => finishLoad l c n [] s
    | none =>
      let days := appliedHolidays records
      finishLoad l .ok 0 [⟨72, 1, days.length⟩] (applyLoad l { d with holidays := days } s)

/-- The head load begins its block read; a load of no bytes goes straight to validation (R11). -/
def beginLoad (l : Load) (s : State) : State :=
  if l.bytes = 0 then loadRead l [] s
  else ask .plan (readTransfer .loadBlock l.addr l.bytes) (s.setPlan { s.plan with headBegun := true })

/-- The load at the head of the queue is checked against its target bank, then answered or begun (R10). -/
def startHead (l : Load) (s : State) : State :=
  if l.bank = s.plan.active then finishLoad l .bankActive 0 [] s
  else if 0 < (s.bank l.bank).provisional then finishLoad l .bankDraining 0 [] s
  else beginLoad l s

/-- BANK_LOAD_HEAD: a bank load has become the head of the load queue (R10). -/
def execBankLoadHead (s : State) : Result :=
  match s.plan.queue with
  | [] => .next s
  | l :: _ => .next (if s.up ∧ s.plan.headBegun = false then startHead l s else s)

/-- The Memory Port has read the head load's block (R11). -/
def loadBlockRead (bytes : List Byte) (s : State) : State :=
  match s.plan.queue with
  | [] => s
  | l :: _ => loadRead l bytes s

/-- A bus error on the head load's block: it is answered MEMORY and the bank is unchanged (R11). -/
def loadBlockFailed (s : State) : State :=
  match s.plan.queue with
  | [] => s
  | l :: _ => finishLoad l .memory 0 [] s

/-! ### SWITCH PLAN (R19) -/

/-- SWITCH PLAN at the Plan Store: refused while a load is in hand; otherwise the selector changes and the band is
evaluated in the same event (R19). -/
def serveSwitchPlan (slot : Nat) (req : List Byte) (s : State) : State :=
  if reservedClear .switchPlan req = false then reply slot req .format 0 [] s
  else if s.plan.queue ≠ [] then reply slot req .loadInProgress 0 [] s
  else
    let k := s.plan.active.other
    reply slot req .ok 0 [⟨72, 1, k.code⟩] (evaluateBand (s.setPlan { s.plan with active := k }))

/-- SWITCH_PLAN (R19). -/
def execSwitchPlan (s : State) : Result := serve .switchPlan serveSwitchPlan s

end Sys2Proof.Machine
end

