-- ==== Sys2Proof/Machine/Carriers.lean ====
section
/-! DEFINITION. SET CARRIER (R119), LOAD TARIFF (R122 to R124) and CANCEL TARIFF (R126). -/

namespace Sys2Proof.Machine

/-- SET CARRIER at the Carrier Table (R119). -/
def serveSetCarrier (slot : Nat) (req : List Byte) (s : State) : State :=
  let c := byteAt req 8
  let ceiling := readLE req 10 2
  let r := s.carrier c
  if reservedClear .setCarrier req = false then reply slot req .format 0 [] s
  else if c = 0 ∨ 1 < byteAt req 9 then reply slot req .range 0 [] s
  else
    reply slot req .ok 0
      [⟨72, 1, c⟩, ⟨74, 2, r.ceiling⟩, ⟨76, 2, ceiling⟩, ⟨78, 2, s.openHandovers c⟩, ⟨80, 4, r.refusals⟩]
      (putCarrier c { r with ceiling := ceiling, refusals := if byteAt req 9 = 1 then 0 else r.refusals } s)

/-- SET_CARRIER (R119). -/
def execSetCarrier (s : State) : Result := serve .setCarrier serveSetCarrier s

/-! ### LOAD TARIFF -/

/-- The timing of a LOAD TARIFF is TIMED (Table 10-11). -/
def isTimed (req : List Byte) : Bool := decide (byteAt req 10 = 1)

/-- The number of a LOAD TARIFF's first field out of range, 0 when all are in range; the effective time is read only with
TIMED (R122, Table 10-12). -/
def tariffField (req : List Byte) : Nat :=
  firstOutOfRange 1
    ([(byteAt req 8, 1, 255), (byteAt req 9, 0, 1), (byteAt req 10, 0, 1)] ++
      if isTimed req then
        [(byteAt req 16, 0, 99), (byteAt req 17, 1, 12), (byteAt req 18, 1, 31), (byteAt req 19, 0, 23),
         (byteAt req 20, 0, 59), (byteAt req 21, 0, 59)]
      else [])

/-- LOAD TARIFF at the Carrier Table: its own fields are checked and its block read begins (R122, R123). -/
def serveLoadTariff (slot : Nat) (req : List Byte) (s : State) : State :=
  if reservedClear .loadTariff req = false then reply slot req .format 0 [] s
  else if readLE req 12 4 % 8 ≠ 0 then reply slot req .format 0 [] s
  else if tariffField req ≠ 0 then reply slot req .range (tariffField req) [] s
  else if isTimed req = true ∧ s.backup.clockSet = false then reply slot req .wrongState 0 [] s
  else
    ask .carrier (readTransfer .tariffBlock (BitVec.ofNat 32 (readLE req 12 4)) 256)
      (markBegun slot req (s.setCarrierJob (some (.tariff slot req))))

/-- LOAD_TARIFF (R122). -/
def execLoadTariff (s : State) : Result := serve .loadTariff serveLoadTariff s

/-- A band record as written in a load block (Table 10-15). -/
def writtenRecord (r : List Byte) : BandRecord :=
  { setup := readLE r 0 4, rate := readLE r 4 4, minimum := readLE r 8 4, initial := readLE r 12 2,
    subsequent := readLE r 14 2, surcharge := readLE r 16 2 }

/-- A band record as stored: each field at the nearer end of its range when it is outside (R121). -/
def BandRecord.clamped (w : BandRecord) : BandRecord :=
  { setup := min w.setup 9999999, rate := min w.rate 999999, minimum := min w.minimum 9999999,
    initial := max 1 (min w.initial 3600), subsequent := max 1 (min w.subsequent 600), surcharge := min w.surcharge 500 }

/-- The six clamp marks of a record, in the order S, R, M, I1, I2, P (R123, Table 10-14). -/
def clampMarks (w : BandRecord) : List Bool :=
  let v := w.clamped
  [decide (v.setup ≠ w.setup), decide (v.rate ≠ w.rate), decide (v.minimum ≠ w.minimum), decide (v.initial ≠ w.initial),
   decide (v.subsequent ≠ w.subsequent), decide (v.surcharge ≠ w.surcharge)]

/-- Marks as the bits of a number, the first in bit 0. -/
def markBits : List Bool → Nat
  | [] => 0
  | m :: ms => bit m + 2 * markBits ms

/-- What is wrong with a tariff block record (R123). -/
def badTariffRecord (r : List Byte) : Option Code := if zeroBytes r 18 14 = false then some .format else none

/-- The fields of an OK answer to LOAD TARIFF (R124, Table 10-14). -/
def tariffAnswer (outcome : Nat) (replaced : Option EffectiveTime) (held : Bool) (marks : List Bool) : List Field :=
  [⟨72, 1, outcome⟩, ⟨73, 1, bit replaced.isSome + 2 * bit held⟩, ⟨74, 1, marks.count true⟩,
   ⟨76, 6, (replaced.map EffectiveTime.value).getD 0⟩, ⟨82, 6, markBits marks⟩]

/-- The direction that a checked LOAD TARIFF or CANCEL TARIFF names. -/
def directionOf (req : List Byte) : Direction := if byteAt req 9 = 0 then .inbound else .outbound

/-- The apply of a tariff load whose block is good (R124): activated when IMMEDIATE or already reached, otherwise held as the
direction's pending set. A set that a compare has handed over is activated before it (R113). -/
def applyTariff (slot : Nat) (req : List Byte) (records : List BandRecord) (marks : List Bool) (s : State) : State :=
  let c := byteAt req 8
  let d := directionOf req
  let s1 := takeHanded c d s
  let t := (s1.carrier c).tariffs d
  if isTimed req = false ∨ timeReached (effectiveTimeOf req) s1.backup.calendar = true then
    reply slot req .ok 0 (tariffAnswer 0 none t.pending.isSome marks) (activate c d { t with active := some records } s1)
  else
    reply slot req .ok 0 (tariffAnswer 1 (t.pending.map PendingSet.time) true marks)
      (putTariffs c d { t with pending := some { time := effectiveTimeOf req, records := records, handed := false } } s1)

/-- The Memory Port has read the tariff block: it is checked, clamped and applied (R123, R124). -/
def tariffBlockRead (bytes : List Byte) (s : State) : State :=
  match s.carrierJob with
  | some (.tariff slot req) =>
    let records := recordsOf 32 8 bytes
    let s1 := s.setCarrierJob none
    match firstBad badTariffRecord 1 records with
    | some (code, n) => reply slot req code n [] s1
    | none =>
      let written := records.map writtenRecord
      applyTariff slot req (written.map BandRecord.clamped) (written.flatMap clampMarks) s1
  | _ => s

/-- A bus error on the tariff block: the load is answered MEMORY and the carrier's sets are unchanged (R123). -/
def tariffBlockFailed (s : State) : State :=
  match s.carrierJob with
  | some (.tariff slot req) => reply slot req .memory 0 [] (s.setCarrierJob none)
  | _ => s

/-! ### CANCEL TARIFF -/

/-- CANCEL TARIFF at the Carrier Table (R126). A set that a compare has handed over is activated before it (R113). -/
def serveCancelTariff (slot : Nat) (req : List Byte) (s : State) : State :=
  if reservedClear .cancelTariff req = false then reply slot req .format 0 [] s
  else if byteAt req 8 = 0 ∨ 1 < byteAt req 9 then reply slot req .range 0 [] s
  else
    let c := byteAt req 8
    let d := directionOf req
    let s1 := takeHanded c d s
    let t := (s1.carrier c).tariffs d
    match t.pending with
    | some p => reply slot req .ok 0 [⟨72, 6, p.time.value⟩] (putTariffs c d { t with pending := none } s1)
    | none => reply slot req .notPending 0 [] s1

/-- CANCEL_TARIFF (R126). -/
def execCancelTariff (s : State) : Result := serve .cancelTariff serveCancelTariff s

end Sys2Proof.Machine
end

