-- ==== Sys2Proof/Machine/Settlement.lean ====
section
/-! DEFINITION. The settlement part of the Carrier Table: accumulation (R146), the carry of open handovers (R148), CLOSE
PERIOD (R149 to R151) and the close record (R152, R153). -/

namespace Sys2Proof.Machine

/-- A saturating field and its mark after an addition: one past the top leaves the top and sets the mark (R146). -/
def satAdd (top x : Nat) (mark : Bool) (n : Nat) : Nat × Bool := if top < x + n then (top, true) else (x + n, mark)

/-- The marks of some sums that are clear in `u` and set in `v`: each raises a status event (R146). -/
def newMarks (u v : Sums) : Nat :=
  bit (v.satReceivable && !u.satReceivable) + bit (v.satPayable && !u.satPayable) +
    bit (v.satInCount && !u.satInCount) + bit (v.satOutCount && !u.satOutCount)

/-- `n` status events. -/
def statusEvents : Nat → State → State
  | 0, s => s
  | n + 1, s => statusEvents n (statusEvent s)

/-- A carrier's sums replaced, with a status event for each mark that goes from clear to set (R146). -/
def putSums (c : Nat) (v : Sums) (s : State) : State :=
  let r := s.settlement c
  statusEvents (newMarks r.sums v) (putSettlement c { r with sums := v } s)

/-- A carrier's sums after one total of a direction (R146). -/
def Sums.addTotal (u : Sums) (d : Direction) (total : Nat) : Sums :=
  match d with
  | .inbound =>
    let a := satAdd top48 u.receivable u.satReceivable total
    let n := satAdd top32 u.inCount u.satInCount 1
    { u with receivable := a.1, satReceivable := a.2, inCount := n.1, satInCount := n.2 }
  | .outbound =>
    let a := satAdd top48 u.payable u.satPayable total
    let n := satAdd top32 u.outCount u.satOutCount 1
    { u with payable := a.1, satPayable := a.2, outCount := n.1, satOutCount := n.2 }

/-- A total handed to the Carrier Table is accumulated (R146). -/
def accumulate (c : Nat) (d : Direction) (total : Nat) (s : State) : State :=
  putSums c ((s.settlement c).sums.addTotal d total) s

/-- A carrier's sums with those of a close added back (R153). -/
def Sums.restore (u taken : Sums) : Sums :=
  let r := satAdd top48 u.receivable u.satReceivable taken.receivable
  let p := satAdd top48 u.payable u.satPayable taken.payable
  let i := satAdd top32 u.inCount u.satInCount taken.inCount
  let o := satAdd top32 u.outCount u.satOutCount taken.outCount
  { receivable := r.1, payable := p.1, inCount := i.1, outCount := o.1,
    satReceivable := r.2 || taken.satReceivable, satPayable := p.2 || taken.satPayable,
    satInCount := i.2 || taken.satInCount, satOutCount := o.2 || taken.satOutCount,
    unsettled := addSat 65535 u.unsettled taken.unsettled }

/-- The close record's values are added back into the carriers it names, in ascending order of index (R153). -/
def restoreSums : Table Sums → State → State
  | [], s => s
  | (c, v) :: rest, s => restoreSums rest (putSums c ((s.settlement c).sums.restore v) s)

/-- A full close record is emptied by restoration (R152, R153). -/
def restoreClose (s : State) : State :=
  match s.backup.closeRecord with
  | some r => restoreSums r.taken (s.setBackup { s.backup with closeRecord := none })
  | none => s

/-- A carrier's record after its open handovers are carried into its unsettled count (R148). -/
def Settlement.carry (r : Settlement) : Settlement :=
  { sums := { r.sums with unsettled := addSat 65535 r.sums.unsettled r.openHandovers }, openHandovers := 0 }

/-- Every carrier's open-handover count is carried into its unsettled count (R148). -/
def carryUnsettled (s : State) : State :=
  s.setBackup { s.backup with settlements := Table.mapValues Settlement.carry s.backup.settlements }

/-! ### CLOSE PERIOD -/

/-- The four saturation marks as bits (Tables 10-9, 10-10). -/
def Sums.marks (u : Sums) : Nat :=
  bit u.satReceivable + 2 * bit u.satPayable + 4 * bit u.satInCount + 8 * bit u.satOutCount

/-- A carrier's values laid out as one result entry from offset `off` (Table 10-10). -/
def resultEntry (off c : Nat) (u : Sums) : List Field :=
  [⟨off, 1, c⟩, ⟨off + 1, 1, u.marks⟩, ⟨off + 2, 2, u.unsettled⟩, ⟨off + 4, 4, u.inCount⟩, ⟨off + 8, 8, u.receivable⟩,
   ⟨off + 16, 8, u.payable⟩, ⟨off + 24, 4, u.outCount⟩]

/-- The result block of a CLOSE PERIOD of all carriers: 256 entries of 32 bytes, entry 0 of carrier index 0 and values 0
(chapter 9, Table 10-10). -/
def resultBlock (taken : Table Sums) : List Byte :=
  (List.range 256).flatMap (fun c => layOut 0 32 (resultEntry 0 c (if c = 0 then Sums.zero else Table.read taken Sums.zero c)))

/-- Carriers with any saturation mark set in what a close took (R151). -/
def markedCarriers (taken : Table Sums) : Nat := (taken.filter (fun e => decide (e.2.marks ≠ 0))).length

/-- A carrier's record with its sums taken (R150). -/
def Settlement.taken (r : Settlement) : Settlement := { r with sums := Sums.zero }

/-- CLOSE PERIOD with ONE: the values are placed in the close record, the fields zeroed, and the answer formed, in one
event (R150). The record stays full until the answer is written (R152). -/
def closeOne (slot : Nat) (req : List Byte) (c : Nat) (s : State) : State :=
  let u := (s.settlement c).sums
  let s1 := putSettlement c (s.settlement c).taken s
  let s2 := s1.setBackup { s1.backup with closeRecord := some { scope := .one c, taken := [(c, u)] } }
  reply slot req .ok 0 (resultEntry 72 c u) (s2.setCarrierJob (some (.close slot req s.now)))

/-- The sums of every carrier that holds any (R151). -/
def allSums (t : Table Settlement) : Table Sums :=
  (t.map (fun e => (e.1, e.2.sums))).filter (fun e => decide (e.2 ≠ Sums.zero))

/-- The Backup Domain records of every carrier with their sums taken (R151). -/
def takenSettlements (t : Table Settlement) : Table Settlement :=
  (Table.mapValues Settlement.taken t).filter (fun e => decide (e.2 ≠ Settlement.zero))

/-- CLOSE PERIOD with ALL: the snapshot of every carrier, and the write of the result block is asked for (R151). -/
def closeAll (slot : Nat) (req : List Byte) (addr : Word) (s : State) : State :=
  let taken := allSums s.backup.settlements
  let s1 := s.setBackup { s.backup with
    settlements := takenSettlements s.backup.settlements
    closeRecord := some { scope := .all addr, taken := taken } }
  ask .carrier (writeTransfer .resultBlock addr (resultBlock taken))
    (markBegun slot req (s1.setCarrierJob (some (.close slot req s.now))))

/-- CLOSE PERIOD at the Carrier Table (R149). -/
def serveClosePeriod (slot : Nat) (req : List Byte) (s : State) : State :=
  let scope := byteAt req 8
  let c := byteAt req 9
  let addr := readLE req 12 4
  if reservedClear .closePeriod req = false then reply slot req .format 0 [] s
  else if 1 < scope then reply slot req .range 0 [] s
  else if scope = 0 then
    if c = 0 then reply slot req .range 0 [] s else closeOne slot req c s
  else if addr % 8 ≠ 0 then reply slot req .format 0 [] s
  else closeAll slot req (BitVec.ofNat 32 addr) s

/-- CLOSE_PERIOD (R149). -/
def execClosePeriod (s : State) : Result := serve .closePeriod serveClosePeriod s

/-- The result block is written: the OK answer is formed (R151). The job stays until the answer is written (R152). -/
def resultWritten (s : State) : State :=
  match s.carrierJob, s.backup.closeRecord with
  | some (.close slot req tick), some r =>
    reply slot req .ok 0 [⟨72, 4, tick.toNat⟩, ⟨76, 1, markedCarriers r.taken⟩] s
  | _, _ => s

/-- A bus error on the result block: the close is restored and answered MEMORY (R151, R153). -/
def resultFailed (s : State) : State :=
  match s.carrierJob with
  | some (.close slot req _) => reply slot req .memory 0 [] ((restoreClose s).setCarrierJob none)
  | _ => s

end Sys2Proof.Machine
end

