-- ==== Sys2Proof/Machine/Mirror.lean ====
section
/-! DEFINITION. The Mirror Writer: the content of the status mirror (Tables 10-7 to 10-9), the snapshot and the stages of a
mirror write (R163, R164). -/

namespace Sys2Proof.Machine

/-- The number of live contexts (R99). -/
def liveCount (s : State) : Nat := (s.contexts.table.filter (fun e => e.2.state.live)).length

/-- The fields of the mirror header after the generation count, at a period end at tick `pe` (Table 10-7). -/
def mirrorHeader (pe : Tick) (s : State) : List Field :=
  [⟨4, 8, s.backup.calendar.value⟩, ⟨12, 1, bit s.backup.clockSet⟩, ⟨13, 1, s.clock.reference.code⟩,
   ⟨14, 1, s.regs.engine.code⟩, ⟨15, 1, s.plan.active.code⟩, ⟨16, 1, s.regs.startKind.code⟩, ⟨17, 1, s.backup.epoch⟩,
   ⟨18, 2, s.supervision.gaps.length⟩, ⟨20, 2, liveCount s⟩, ⟨22, 2, s.contexts.expired.length⟩, ⟨24, 4, pe.toNat⟩]

/-- A group's entry (Table 10-8). -/
def mirrorGroup (r : Group) : List Byte :=
  layOut 0 8 [⟨0, 1, r.congestion.code⟩, ⟨1, 1, bit r.changed⟩, ⟨2, 2, r.occupancy⟩, ⟨4, 2, r.free⟩]

/-- The tariff presence marks of a carrier (Table 10-9). -/
def presenceMarks (r : Carrier) : Nat :=
  bit r.inbound.active.isSome + 2 * bit r.inbound.pending.isSome + 4 * bit r.outbound.active.isSome +
    8 * bit r.outbound.pending.isSome

/-- A carrier's entry (Table 10-9). -/
def mirrorCarrier (r : Carrier) (t : Settlement) : List Byte :=
  layOut 0 64
    [⟨0, 8, t.sums.receivable⟩, ⟨8, 8, t.sums.payable⟩, ⟨16, 4, t.sums.inCount⟩, ⟨20, 4, t.sums.outCount⟩,
     ⟨24, 4, r.refusals⟩, ⟨28, 2, t.openHandovers⟩, ⟨30, 2, t.sums.unsettled⟩, ⟨32, 1, t.sums.marks⟩,
     ⟨33, 1, presenceMarks r⟩]

/-- The mirror's bytes after its generation field: the rest of the header, the group array, and the carrier array with
its entry 0 all zero (Tables 10-7 to 10-9). -/
def mirrorContent (pe : Tick) (s : State) : List Byte :=
  layOut 4 124 (mirrorHeader pe s) ++
  (List.range 1024).flatMap (fun g => mirrorGroup (s.group g)) ++
  (List.range 256).flatMap (fun c => if c = 0 then layOut 0 64 [] else mirrorCarrier (s.carrier c) (s.settlement c))

/-- The 4 bytes of a generation count. -/
def generationBytes (g : Tick) : List Byte := layOut 0 4 [⟨0, 4, g.toNat⟩]

/-- A write of the generation field asked for (R163, steps 2 and 4). -/
def askGeneration (p : Purpose) (s : State) : State :=
  ask .mirror (writeTransfer p (areaAddr s (mirrorOffset s)) (generationBytes s.mirror.generation)) s

/-- The groups whose changed mark is set. -/
def changedGroups (s : State) : List Nat := (s.groups.filter (fun e => e.2.changed)).map (fun e => e.1)

/-- The response to a period end at tick `pe`: in RUNNING or DRAINING with no write in progress, the snapshot is taken, the
generation count rises to odd, and the opening and body writes are asked for (R163, R164). Memory holds the odd count from the
opening write on (DEDUCED, notes/assumptions/41.md). -/
def startMirror (pe : Tick) (s : State) : State :=
  if (s.regs.engine = .running ∨ s.regs.engine = .draining) ∧ s.mirror.marks = none then
    let s1 := s.setMirror { generation := s.mirror.generation + 1#32, marks := some (changedGroups s) }
    ask .mirror (writeTransfer .mirrorBody (areaAddr s (mirrorOffset s + 4)) (mirrorContent pe s))
      (askGeneration .mirrorOpen s1)
  else s

/-- The body is written: the generation count rises to even and the closing write is asked for (R163, step 4). -/
def mirrorBodyWritten (s : State) : State :=
  askGeneration .mirrorClose (s.setMirror { s.mirror with generation := s.mirror.generation + 1#32 })

/-- The changed marks of some groups are cleared (R163, step 5). -/
def clearMarks : List Nat → State → State
  | [], s => s
  | g :: gs, s => clearMarks gs (putGroup g { s.group g with changed := false } s)

/-- The closing write is made: the marks of the copy are cleared, but for groups that changed state since, and the write
has ended (R163, R170). -/
def mirrorClosed (s : State) : State :=
  match s.mirror.marks with
  | some gs => checkHalt ((clearMarks gs s).setMirror { s.mirror with marks := none })
  | none => s

end Sys2Proof.Machine
end

