-- ==== Sys2Proof/Machine/Burst.lean ====
section
/-! DEFINITION. MEMORY_BURST_DONE: the Memory Port completes or fails the burst it carries, tells the requester when the
transfer ends, and serves the next requester (R173). -/

namespace Sys2Proof.Machine

/-- The machine with the transfers of a requester replaced. -/
def setTransfers (r : Requester) (ts : List Transfer) (s : State) : State := s.setPort (s.port.setQueue r ts)

/-- A transfer whose burst is done: what it has still to do, with the bytes read added or the bytes written dropped. -/
def Transfer.afterBurst (t : Transfer) (read : List Byte) : Transfer :=
  { t with
    addr := t.addr + BitVec.ofNat 32 t.burstLength
    left := t.left - t.burstLength
    data := if t.write then t.data.drop t.burstLength else t.data ++ read }

/-- The first `n` bytes of a writing transfer reach host memory; a reading transfer stores nothing. -/
def storeBytes (t : Transfer) (n : Nat) (s : State) : State :=
  if t.write then s.setMem (Memory.store s.mem t.addr (t.data.take n)) else s

/-- Whether the failing beat of a write reached host memory. The generation field holds the odd count after a mirror write
that a fault has ended, so that of the opening write did and that of the closing write did not (R163, R164). For any other
write it is a free value (R162; DESIGN CHOICE, notes/assumptions/35.md). -/
def failingBeatReached (p : Purpose) (s : State) : Bool :=
  match p with
  | .mirrorOpen => true
  | .mirrorClose => false
  | _ => Config.failingBeatStored s.failures

/-- Beat `beat` of a burst has failed: of a writing transfer the beats before it reach host memory, and the failing beat
itself as `failingBeatReached` says (R173). -/
def storeFailed (t : Transfer) (beat : Nat) (s : State) : State :=
  let beats := if failingBeatReached t.purpose s then beat + 1 else beat
  if t.write then
    (storeBytes t (bytesBefore t.addr.toNat t.burstLength beats) s).setFailures (s.failures + 1)
  else s

/-- A transfer is complete: its requester goes on, with the bytes read (R11, R123, R151, R159 to R163, R176). -/
def completed (p : Purpose) (bytes : List Byte) (s : State) : State :=
  match p with
  | .strip _ => stripRead bytes s
  | .taken slot => takenWritten slot s
  | .requestHalf slot => requestRead slot bytes s
  | .answerHalf slot => answerHalfWritten slot s
  | .answered slot => answeredWritten slot s
  | .sweepStrip => sweepCodes bytes s
  | .sweepHeader => sweepHeaderRead bytes s
  | .sweepAnswer => sweepAnswerWritten s
  | .sweepAnswered => sweepAnsweredWritten s
  | .mirrorOpen => s
  | .mirrorBody => mirrorBodyWritten s
  | .mirrorClose => mirrorClosed s
  | .loadBlock => loadBlockRead bytes s
  | .tariffBlock => tariffBlockRead bytes s
  | .resultBlock => resultWritten s

/-- A transfer has failed: an exchange-area transfer faults the engine with its kind and slot (R162, R164, R176), a block's
failure is reported to its requester (R11, R123, R151). -/
def transferFailed (p : Purpose) (s : State) : State :=
  match p with
  | .strip first => enterFault .strip first none s
  | .taken slot => enterFault .strip slot (some slot) s
  | .requestHalf slot => enterFault .body slot (some slot) s
  | .answerHalf slot => enterFault .answer slot none s
  | .answered slot => enterFault .answer slot none s
  | .sweepStrip => enterFault .strip s.intake.sweep.next none s
  | .sweepHeader => enterFault .body s.intake.sweep.next none s
  | .sweepAnswer => enterFault .answer s.intake.sweep.next none s
  | .sweepAnswered => enterFault .answer s.intake.sweep.next none s
  | .mirrorOpen => enterFault .mirror 0 none s
  | .mirrorBody => enterFault .mirror 0 none s
  | .mirrorClose => enterFault .mirror 0 none s
  | .loadBlock => loadBlockFailed s
  | .tariffBlock => tariffBlockFailed s
  | .resultBlock => resultFailed s

/-- The burst that the port carries: its requester, its transfer and the transfers behind it. -/
def carried (s : State) : Option (Requester × Transfer × List Transfer) :=
  match s.port.serving with
  | none => none
  | some r => match s.port.queue r with
    | [] => none
    | t :: ts => some (r, t, ts)

/-- Whether a reply is one to the transfer's burst: as many bytes as it reads, none when it writes, or a beat it has. -/
def replyFits (t : Transfer) : BurstReply → Bool
  | .done data => decide (data.length = if t.write then 0 else t.burstLength)
  | .busError beat => decide (beat < beatCount t.addr.toNat t.burstLength)

/-- The burst is over: the transfer goes on, is complete, or has failed; the bytes of the beats carried out are stored, and of
the failing beat what `storeFailed` says (R173). -/
def endBurst (r : Requester) (t : Transfer) (ts : List Transfer) (reply : BurstReply) (s : State) : State :=
  match reply with
  | .done data =>
    let s1 := storeBytes t t.burstLength s
    if t.burstLength = t.left then completed t.purpose (t.data ++ data) (setTransfers r ts s1)
    else setTransfers r (t.afterBurst data :: ts) s1
  | .busError beat =>
    transferFailed t.purpose (setTransfers r ts (storeFailed t beat s))

/-- The port serves the next requester of the rotation after `r`, with the burst size in force for a transfer that begins
(R169, R173). -/
def serveNext (r : Requester) (s : State) : State :=
  s.setPort ({ s.port with last := some r }.serve (burstInForce s))

/-- MEMORY_BURST_DONE (R173). -/
def execMemoryBurstDone (reply : BurstReply) (s : State) : Result :=
  if (Instr.memoryBurstDone reply).wellFormed = false then .fault .illFormed
  else match carried s with
    | none => .next s
    | some (r, t, ts) =>
      if replyFits t reply then .next (serveNext r (endBurst r t ts reply s)) else .fault .replyMismatch

end Sys2Proof.Machine
end

