-- ==== Sys2Proof/Machine/Groups.lean ====
section
/-! DEFINITION. The Group Table: seizure requests, admissibility, grant and return (R25 to R30), and SET GROUP, BLOCK
CIRCUITS and UNBLOCK CIRCUITS (R31 to R37). -/

namespace Sys2Proof.Machine

/-- A candidate of a seizure request (R25). -/
structure Candidate where
  group : Nat
  step : Nat
  kind : StepKind
  deriving DecidableEq, Repr

/-- How an examination ends (R27): admissible, or refused under the condition of that number. -/
inductive Verdict where
  | admissible
  | refused1
  | refused5
  | refused2
  | refused3
  | refused4
  deriving DecidableEq, Repr

/-- Condition 3: state and reservation (R27). -/
def stateAdmits (r : Group) (k : StepKind) : Bool :=
  match k with
  | .direct => decide (r.congestion ≠ .blocked)
  | .overflow | .pool =>
    decide ((r.congestion = .clear ∨ r.congestion = .watch) ∧ r.reservation < r.free)

/-- Condition 4: the owner's ceiling (R27). -/
def ceilingAdmits (s : State) (c : Nat) : Bool :=
  decide (c = 0 ∨ (s.carrier c).ceiling = 65535 ∨ s.openHandovers c < (s.carrier c).ceiling)

/-- The examination of a candidate for a call with the given attempt history, in the order 1, 5, 2, 3, 4 (R27). -/
def examine (s : State) (history : List Nat) (c : Candidate) : Verdict :=
  let r := s.group c.group
  if r.inService = false ∨ r.congestion = .blocked then .refused1
  else if c.group ∈ history then .refused5
  else if r.free < 1 then .refused2
  else if stateAdmits r c.kind = false then .refused3
  else if ceilingAdmits s r.owner = false then .refused4
  else .admissible

/-- Additions to a group's A and F belong to the period of their tick; at the end tick before the period end they are held
apart (R28, R42). -/
def countExamination (g a f : Nat) (s : State) : State :=
  let r := s.group g
  if reached s.now s.supervision.periodEnd then
    putGroup g { r with heldA := addSat top32 r.heldA a, heldF := addSat top32 r.heldF f } s
  else
    putGroup g { r with attempts := addSat top32 r.attempts a, refusals := addSat top32 r.refusals f } s

/-- The ceiling-refusal count of a carrier rises by 1 (R120). -/
def countCeilingRefusal (c : Nat) (s : State) : State :=
  putCarrier c { s.carrier c with refusals := addSat top32 (s.carrier c).refusals 1 } s

/-- What an examination adds to the counts (R28). -/
def countVerdict (g : Nat) (v : Verdict) (s : State) : State :=
  match v with
  | .refused1 => s
  | .refused5 => s
  | .refused2 => countExamination g 1 1 s
  | .refused3 => countExamination g 1 1 s
  | .refused4 => countCeilingRefusal (s.group g).owner (countExamination g 1 0 s)
  | .admissible => countExamination g 1 0 s

/-- A carrier's open-handover count changed; carrier 0 has none (R29, R30). -/
def changeOpen (c : Nat) (f : Nat → Nat) (s : State) : State :=
  if c = 0 then s
  else putSettlement c { s.settlement c with openHandovers := f (s.settlement c).openHandovers } s

/-- The grant of a seizure on a group (R29, steps 1 and 2). -/
def grantSeizure (g : Nat) (s : State) : State :=
  let r := s.group g
  changeOpen r.owner (fun n => n + 1) (putGroup g { r with busy := r.busy + 1 } s)

/-- The return of a seizure on a group (R30). -/
def returnSeizure (g : Nat) (s : State) : State :=
  let r := s.group g
  changeOpen r.owner (fun n => n - 1) (putGroup g { r with busy := r.busy - 1 } s)

/-- A seizure request, served whole: the candidates are examined in order, each examination counts, and the first
admissible one is granted (R25). -/
def seize (history : List Nat) : List Candidate → State → Option Candidate × State
  | [], s => (none, s)
  | c :: cs, s =>
    let v := examine s history c
    let s1 := countVerdict c.group v s
    if v = .admissible then (some c, grantSeizure c.group s1) else seize history cs s1

/-! ### SET GROUP, BLOCK CIRCUITS, UNBLOCK CIRCUITS -/

/-- The fields of the answer that all three requests carry, read after the request (R32, Table 10-14). -/
def groupAnswer (g : Nat) (r : Group) : List Field :=
  [⟨72, 2, g⟩, ⟨79, 1, r.congestion.code⟩, ⟨88, 2, r.busy⟩, ⟨90, 2, r.blocked⟩, ⟨92, 2, r.free⟩]

/-- The fields that SET GROUP's answer carries besides (R32, Table 10-14). -/
def setGroupAnswer (r : Group) : List Field :=
  [⟨74, 1, bit r.inService⟩, ⟨75, 1, r.owner⟩, ⟨76, 2, r.size⟩, ⟨78, 1, r.reservation⟩, ⟨80, 2, r.watchOn⟩,
   ⟨82, 2, r.clearBelow⟩, ⟨84, 2, r.congestOn⟩]

/-- A threshold as stored: 0 selects the default, and a value above 1000 becomes 1000 (R33). -/
def thresholdOf (field default : Nat) : Nat := if field = 0 then default else min field 1000

/-- A group's record after a SET GROUP that has passed its checks (R33). -/
def configured (req : List Byte) (r : Group) : Group :=
  let size := min (readLE req 12 2) 4095
  let watchOn := thresholdOf (readLE req 16 2) 850
  { r with
    inService := decide (byteAt req 10 = 1)
    owner := byteAt req 11
    size := size
    blocked := min r.blocked size
    reservation := min (readLE req 14 2) 255
    watchOn := watchOn
    clearBelow := min (thresholdOf (readLE req 18 2) 700) watchOn
    congestOn := thresholdOf (readLE req 20 2) 200 }

/-- SET GROUP at the Group Table (R31 to R34). -/
def serveSetGroup (slot : Nat) (req : List Byte) (s : State) : State :=
  let g := readLE req 8 2
  let refuse (c : Code) : State := reply slot req c 0 [⟨72, 2, g⟩] s
  if reservedClear .setGroup req = false then refuse .format
  else if 1023 < g ∨ 1 < byteAt req 10 then refuse .range
  else if byteAt req 11 ≠ (s.group g).owner ∧ 0 < (s.group g).busy then refuse .wrongState
  else
    let r := configured req (s.group g)
    reply slot req .ok 0 (groupAnswer g r ++ setGroupAnswer r) (putGroup g r s)

/-- The change that BLOCK CIRCUITS (R36) or UNBLOCK CIRCUITS (R37) makes to a group's blocked count. -/
def serveBlocking (k : Kind) (applied : Group → Nat → Nat) (after : Group → Nat → Group)
    (slot : Nat) (req : List Byte) (s : State) : State :=
  let g := readLE req 8 2
  if reservedClear k req = false then reply slot req .format 0 [⟨72, 2, g⟩] s
  else if 1023 < g then reply slot req .range 0 [⟨72, 2, g⟩] s
  else
    let n := applied (s.group g) (readLE req 10 2)
    let r := after (s.group g) n
    reply slot req .ok 0 (⟨86, 2, n⟩ :: groupAnswer g r) (putGroup g r s)

/-- SET_GROUP (R33). -/
def execSetGroup (s : State) : Result := serve .setGroup serveSetGroup s

/-- BLOCK_CIRCUITS: the count is clamped so that blocked + count does not exceed size, and added (R36). -/
def execBlockCircuits (s : State) : Result :=
  serve .blockCircuits
    (serveBlocking .blockCircuits (fun r n => min n (r.size - r.blocked)) (fun r n => { r with blocked := r.blocked + n })) s

/-- UNBLOCK_CIRCUITS: the count is clamped to the blocked count, and subtracted (R37). -/
def execUnblockCircuits (s : State) : Result :=
  serve .unblockCircuits
    (serveBlocking .unblockCircuits (fun r n => min n r.blocked) (fun r n => { r with blocked := r.blocked - n })) s

end Sys2Proof.Machine
end

