-- ==== Sys2Proof/Machine/Pricing.lean ====
section
/-! DEFINITION. The Pricing Unit's arithmetic (R132 to R139). -/

namespace Sys2Proof.Machine

/-- The least integer not below n / d. -/
def ceilDiv (n d : Nat) : Nat := (n + d - 1) / d

/-- The answered ticks D (R132). -/
def answeredTicks (now : Tick) (a : Answered) : Nat := if a.long then longCall else min (now - a.tick).toNat longCall

/-- The billable seconds B (R133). -/
def billableSeconds (d : Nat) : Nat := max 1 (ceilDiv d 10)

/-- The billed seconds Bb (R134). -/
def billedSeconds (t : Terms) (b : Nat) : Nat :=
  if b ≤ t.initial then t.initial else t.initial + ceilDiv (b - t.initial) t.subsequent * t.subsequent

/-- The segment ticks d_k from the offsets, up to the end of the last segment: D with the rounding excess (R135). -/
def segmentTicks : List Nat → Nat → List Nat
  | [], _ => []
  | [o], e => [e - o]
  | o :: p :: os, e => (p - o) :: segmentTicks (p :: os) e

/-- The segment amount a_k (R136). -/
def segmentAmount (ticks rate : Nat) : Nat := (ticks * rate + 300) / 600

/-- The time charge T: the sum of the segment amounts (R137). -/
def timeCharge (ticks rates : List Nat) : Nat := (List.zipWith segmentAmount ticks rates).sum

/-- The base (R137). -/
def baseCharge (t : Terms) (time : Nat) : Nat := max (t.setup + time) t.minimum

/-- The surcharge U (R138). -/
def surchargeOf (t : Terms) (alternate : Bool) (base : Nat) : Nat :=
  if alternate then (base * t.surcharge + 500) / 1000 else 0

/-- The price of one direction: its billed seconds, base and surcharge. -/
structure Price where
  billed : Nat
  base : Nat
  surcharge : Nat
  deriving DecidableEq, Repr

/-- The total (R139). -/
def Price.total (p : Price) : Nat := min (p.base + p.surcharge) top32

/-- Whether the total is capped (R139). -/
def Price.capped (p : Price) : Bool := decide (top32 < p.base + p.surcharge)

/-- The offsets of the segments from the answer (R135). -/
def Answered.offsets (a : Answered) : List Nat := a.segments.map (fun g => (g.start - a.tick).toNat)

/-- The price of one direction of a call of D answered ticks (R132 to R138). The last segment runs to Bb x 10, which is D
with the rounding excess (R135). -/
def priceDirection (t : Terms) (alternate : Bool) (d : Nat) (offsets rates : List Nat) : Price :=
  let billed := billedSeconds t (billableSeconds d)
  let time := timeCharge (segmentTicks offsets (10 * billed)) rates
  let base := baseCharge t time
  { billed := billed, base := base, surcharge := surchargeOf t alternate base }

/-- The inbound price of an answered call released now, when that direction is priced (R131). -/
def inboundPrice (now : Tick) (c : Call) (a : Answered) : Option Price :=
  a.inTerms.map (fun t => priceDirection t c.alternate (answeredTicks now a) a.offsets (a.segments.map Segment.inRate))

/-- The outbound price of an answered call released now, when that direction is priced (R131). -/
def outboundPrice (now : Tick) (c : Call) (a : Answered) : Option Price :=
  a.outTerms.map (fun t => priceDirection t c.alternate (answeredTicks now a) a.offsets (a.segments.map Segment.outRate))

end Sys2Proof.Machine
end

