-- ==== Sys2Proof/Machine/Contexts.lean ====
section
/-! DEFINITION. The Context Table: CONFIRM, ANSWER, RELEASE, QUERY CALL, SET CALL TIMERS, expiry and the long-call mark
(R82 to R92, R96, R97). CRANKBACK is in Routing.lean. -/

namespace Sys2Proof.Machine

/-- The context that a handle names, when it matches a live or EXPIRED one (R82). -/
def matchHandle (s : State) (h : Handle) : Option Context :=
  let c := s.context h.index
  if h.epoch = s.backup.epoch ∧ h.index < 16384 ∧ c.state ≠ .free ∧ h.generation = c.generation then some c else none

/-- A call-handle request: the reserved fields and the handle are checked, then the request's own rule is applied to the
state of the context (R83). -/
def callRequest (k : Kind) (rule : Nat → List Byte → Nat → Context → State → State)
    (slot : Nat) (req : List Byte) (s : State) : State :=
  if reservedClear k req = false then reply slot req .format 0 [] s
  else match matchHandle s (handleOf req) with
    | none => reply slot req .unknownCall 0 [] s
    | some c => rule slot req (handleOf req).index c s

/-- A context leaves the expired list. -/
def dropExpired (i : Nat) (s : State) : State :=
  s.setContexts { s.contexts with expired := s.contexts.expired.filter (fun j => decide (j ≠ i)) }

/-- TOO_LATE: an EXPIRED context is freed, with the group last held and the ticks since the expiry in the answer (R90). -/
def tooLate (slot : Nat) (req : List Byte) (i : Nat) (call : Call) (deadline : Tick) (s : State) : State :=
  reply slot req .tooLate 0 [⟨72, 2, call.group⟩, ⟨76, 4, (s.now - deadline).toNat⟩] (freeContext i (dropExpired i s))

/-! ### CONFIRM -/

/-- Whether a CONFIRM retains the current group: the step kind is POOL and the group is CLEAR or WATCH (R20, R84). -/
def confirmRetains (s : State) (call : Call) : Bool :=
  decide (call.kind = .pool ∧ ((s.group call.group).congestion = .clear ∨ (s.group call.group).congestion = .watch))

/-- The Plan Store retains the group of a call for its destination in its bank (R20). -/
def retainAlternate (call : Call) (s : State) : State :=
  changeDest call.bank call.dest (fun d => { d with retained := some call.group }) s

/-- CONFIRM by the state of the context (R84). -/
def confirmRule (slot : Nat) (req : List Byte) (i : Nat) (c : Context) (s : State) : State :=
  match c.state with
  | .provisional call _ =>
    let s1 := changeProvisional call.bank (fun n => n - 1) (putContext i { c with state := .confirmed call } s)
    let s2 := if confirmRetains s call then retainAlternate call s1 else s1
    reply slot req .ok 0 [⟨72, 2, call.group⟩, ⟨74, 1, call.step⟩, ⟨75, 1, bit (confirmRetains s call)⟩] s2
  | .expired call deadline => tooLate slot req i call deadline s
  | _ => reply slot req .wrongState 0 [] s

/-- CONFIRM (R84). -/
def execConfirm (s : State) : Result := serve .confirm (callRequest .confirm confirmRule) s

/-! ### ANSWER -/

/-- The null terms (R86). -/
def Terms.null : Terms := { setup := 0, minimum := 0, initial := 1, subsequent := 1, surcharge := 0 }

/-- The terms of a direction, from the current band's record of a carrier's active set; the null terms when it has none;
absent when the direction is not priced (R86). -/
def termsOf (s : State) (c : Nat) (d : Direction) : Option Terms :=
  if c = 0 then none
  else match s.bandRecord c d s.clock.band with
    | some r => some { setup := r.setup, minimum := r.minimum, initial := r.initial, subsequent := r.subsequent,
                       surcharge := r.surcharge }
    | none => some Terms.null

/-- What an ANSWER records: the answer tick, the terms snapshot, segment 1 and the flags (R85, R86, R97). -/
def answeredNow (s : State) (call : Call) : Answered :=
  { tick := s.now
    inTerms := termsOf s call.origin .inbound
    outTerms := termsOf s (callOwner s call) .outbound
    segments := [segmentNow s call]
    merged := false
    long := false
    timeUnset := !s.backup.clockSet
    freeRunning := decide (s.clock.reference ≠ .locked) }

/-- ANSWER by the state of the context (R85). -/
def answerRule (slot : Nat) (req : List Byte) (i : Nat) (c : Context) (s : State) : State :=
  match c.state with
  | .confirmed call =>
    let a := answeredNow s call
    reply slot req .ok 0
      [⟨72, 4, a.tick.toNat⟩, ⟨76, 1, s.clock.band⟩, ⟨77, 1, bit a.inTerms.isSome + 2 * bit a.outTerms.isSome⟩,
       ⟨78, 1, bit a.timeUnset + 2 * bit a.freeRunning⟩]
      (putContext i { c with state := .answered call a } s)
  | .expired call deadline => tooLate slot req i call deadline s
  | _ => reply slot req .wrongState 0 [] s

/-- ANSWER (R85). -/
def execAnswer (s : State) : Result := serve .answer (callRequest .answer answerRule) s

/-! ### RELEASE -/

/-- A direction's total, 0 when it is not priced (R131, R139). -/
def totalOf (p : Option Price) : Nat := (p.map Price.total).getD 0

/-- The band of a segment by its place, 0 beyond the last (R140). -/
def segmentBand (a : Answered) (k : Nat) : Nat := ((a.segments[k]?).map Segment.band).getD 0

/-- The flags of an answered release (R141, Table 10-6). -/
def releaseFlags (a : Answered) (pin pout : Option Price) : Nat :=
  bit pin.isSome + 2 * bit pout.isSome + 8 * bit a.merged + 16 * bit a.long + 32 * bit a.timeUnset + 64 * bit a.freeRunning +
    128 * bit (pin.any (fun p => decide (0 < p.surcharge)) || pout.any (fun p => decide (0 < p.surcharge))) +
    256 * bit (pin.any Price.capped || pout.any Price.capped)

/-- The charge record of an answered release (R140, Table 10-6). -/
def chargeRecord (s : State) (call : Call) (a : Answered) : List Field :=
  let pin := inboundPrice s.now call a
  let pout := outboundPrice s.now call a
  [⟨72, 4, totalOf pin⟩, ⟨76, 4, totalOf pout⟩, ⟨80, 4, answeredTicks s.now a⟩, ⟨84, 4, (pin.map Price.billed).getD 0⟩,
   ⟨88, 4, (pout.map Price.billed).getD 0⟩, ⟨92, 2, call.group⟩, ⟨94, 1, call.origin⟩, ⟨95, 1, callOwner s call⟩,
   ⟨96, 1, a.segments.length⟩, ⟨97, 1, segmentBand a 0⟩, ⟨98, 1, segmentBand a 1⟩, ⟨99, 1, segmentBand a 2⟩,
   ⟨100, 1, segmentBand a 3⟩, ⟨101, 1, segmentBand a 4⟩, ⟨102, 1, segmentBand a 5⟩, ⟨104, 2, releaseFlags a pin pout⟩]

/-- The charge record of an unanswered release: zero amounts and UNANSWERED set (R143). -/
def unansweredRecord (s : State) (call : Call) : List Field :=
  [⟨92, 2, call.group⟩, ⟨94, 1, call.origin⟩, ⟨95, 1, callOwner s call⟩, ⟨104, 2, 4⟩]

/-- The total of a priced direction is handed to the Carrier Table, whatever it is; a direction not priced hands nothing
(R142). -/
def handTotal (c : Nat) (d : Direction) (p : Option Price) (s : State) : State :=
  match p with
  | some x => accumulate c d x.total s
  | none => s

/-- RELEASE by the state of the context (R87): the seizure is returned, an answered call is priced and accumulated, and
the context is freed. -/
def releaseRule (slot : Nat) (req : List Byte) (i : Nat) (c : Context) (s : State) : State :=
  match c.state with
  | .provisional call _ =>
    reply slot req .ok 0 (unansweredRecord s call)
      (freeContext i (changeProvisional call.bank (fun n => n - 1) (returnSeizure call.group s)))
  | .confirmed call =>
    reply slot req .ok 0 (unansweredRecord s call) (freeContext i (returnSeizure call.group s))
  | .answered call a =>
    let s1 := returnSeizure call.group s
    let s2 := handTotal call.origin .inbound (inboundPrice s.now call a) s1
    let s3 := handTotal (callOwner s call) .outbound (outboundPrice s.now call a) s2
    reply slot req .ok 0 (chargeRecord s call a) (freeContext i s3)
  | .expired call deadline => tooLate slot req i call deadline s
  | .free => reply slot req .unknownCall 0 [] s

/-- RELEASE (R87). -/
def execRelease (s : State) : Result := serve .release (callRequest .release releaseRule) s

/-! ### QUERY CALL -/

/-- The attempt history, 2 bytes per group in order, 0 beyond its length (Table 10-14). -/
def historyFields (h : List Nat) : List Field :=
  [⟨92, 1, h.length⟩, ⟨96, 2, h.getD 0 0⟩, ⟨98, 2, h.getD 1 0⟩, ⟨100, 2, h.getD 2 0⟩, ⟨102, 2, h.getD 3 0⟩]

/-- The fields of a QUERY CALL answer that every state carries (R88, Table 10-14). -/
def queryFields (s : State) (code timer : Nat) (call : Call) : List Field :=
  [⟨72, 1, code⟩, ⟨73, 1, call.kind.code⟩, ⟨74, 2, call.group⟩, ⟨76, 1, call.step⟩, ⟨77, 1, bit call.alternate⟩,
   ⟨78, 1, call.origin⟩, ⟨79, 1, call.bank.code⟩, ⟨80, 4, (s.now - call.grantTick).toNat⟩, ⟨84, 4, timer⟩] ++
    historyFields call.history

/-- The fields that only an ANSWERED context carries (R88, Table 10-14). -/
def queryAnswered (s : State) (a : Answered) : List Field :=
  [⟨88, 4, if a.long then longCall else (s.now - a.tick).toNat⟩, ⟨93, 1, a.segments.length⟩,
   ⟨94, 1, bit a.merged + 2 * bit a.long + 4 * bit a.timeUnset + 8 * bit a.freeRunning⟩]

/-- Ticks until a deadline, 0 once it is reached (R88). -/
def ticksUntil (now deadline : Tick) : Nat := if reached now deadline then 0 else (deadline - now).toNat

/-- QUERY CALL by the state of the context, which it does not change (R88). -/
def queryRule (slot : Nat) (req : List Byte) (_i : Nat) (c : Context) (s : State) : State :=
  match c.state with
  | .provisional call deadline => reply slot req .ok 0 (queryFields s 1 (ticksUntil s.now deadline) call) s
  | .confirmed call => reply slot req .ok 0 (queryFields s 2 0 call) s
  | .answered call a => reply slot req .ok 0 (queryFields s 3 0 call ++ queryAnswered s a) s
  | .expired call deadline => reply slot req .ok 0 (queryFields s 4 (s.now - deadline).toNat call) s
  | .free => reply slot req .unknownCall 0 [] s

/-- QUERY_CALL (R88). -/
def execQueryCall (s : State) : Result := serve .queryCall (callRequest .queryCall queryRule) s

/-! ### The expired list -/

/-- The contexts of some indices are freed. -/
def freeAll : List Nat → State → State
  | [], s => s
  | i :: is, s => freeAll is (freeContext i s)

/-- Heads of the expired list are freed until its length is within the limit (R91). -/
def trimExpired (s : State) : State :=
  let n := s.contexts.expired.length - s.contexts.limit
  freeAll (s.contexts.expired.take n) (s.setContexts { s.contexts with expired := s.contexts.expired.drop n })

/-- SET CALL TIMERS at the Context Table (R92). -/
def serveSetCallTimers (slot : Nat) (req : List Byte) (s : State) : State :=
  if reservedClear .setCallTimers req = false then reply slot req .format 0 [] s
  else
    let window := max 20 (min (readLE req 8 2) 300)
    let limit := min (readLE req 10 2) 16384
    let s1 := s.setContexts { s.contexts with window := window, limit := limit }
    reply slot req .ok 0 [⟨72, 2, window⟩, ⟨74, 2, limit⟩, ⟨76, 2, s.contexts.expired.length - limit⟩] (trimExpired s1)

/-- SET_CALL_TIMERS (R92). -/
def execSetCallTimers (s : State) : Result := serve .setCallTimers serveSetCallTimers s

/-! ### Expiry and the long-call mark -/

/-- The expiry of a context whose deadline is reached (R89); any other is left as it is. -/
def expire (i : Nat) (s : State) : State :=
  match (s.context i).state with
  | .provisional call deadline =>
    if reached s.now deadline then
      let s1 := putContext i { generation := (s.context i).generation, state := .expired call deadline }
        (returnSeizure call.group s)
      let s2 := trimExpired (s1.setContexts { s1.contexts with expired := s1.contexts.expired ++ [i] })
      changeProvisional call.bank (fun n => n - 1) s2
    else s
  | _ => s

/-- CONFIRMATION_EXPIRY (R89). -/
def execConfirmationExpiry (i : Nat) (s : State) : Result :=
  if (Instr.confirmationExpiry i).wellFormed = false then .fault .illFormed
  else .next (if s.up then expire i s else s)

/-- LONG is set in an ANSWERED context whose long-call mark is reached (R96). -/
def markLong (i : Nat) (s : State) : State :=
  match (s.context i).state with
  | .answered call a =>
    if reached s.now (a.tick + BitVec.ofNat 32 longCall) then
      putContext i { generation := (s.context i).generation, state := .answered call { a with long := true } } s
    else s
  | _ => s

/-- LONG_CALL_MARK (R96). -/
def execLongCallMark (i : Nat) (s : State) : Result :=
  if (Instr.longCallMark i).wellFormed = false then .fault .illFormed
  else .next (if s.up then markLong i s else s)

end Sys2Proof.Machine
end

