-- ==== Sys2Proof/Machine/Supervision.lean ====
section
/-! DEFINITION. The Supervision Unit: SET SUPERVISION (R41), the evaluation of a group at a period end (R43 to R48), and
the gap table (R50 to R58). -/

namespace Sys2Proof.Machine

/-- The Supervision Unit with its gap table replaced. -/
def putGaps (gaps : List GapEntry) (s : State) : State := s.setSupervision { s.supervision with gaps := gaps }

/-- A value clamped to a range (R2). -/
def clampTo (lo hi n : Nat) : Nat := max lo (min n hi)

/-- SET SUPERVISION at the Supervision Unit (R41). -/
def serveSetSupervision (slot : Nat) (req : List Byte) (s : State) : State :=
  if reservedClear .setSupervision req = false then reply slot req .format 0 [] s
  else
    let u := { s.supervision with
      period := clampTo 1 60 (byteAt req 8)
      threshold := min (byteAt req 9) 15
      interval := clampTo 1 600 (readLE req 10 2) }
    reply slot req .ok 0
      [⟨72, 1, u.period⟩, ⟨73, 1, u.threshold⟩, ⟨74, 2, u.interval⟩, ⟨76, 4, u.periodEnd.toNat⟩] (s.setSupervision u)

/-- SET_SUPERVISION (R41). -/
def execSetSupervision (s : State) : Result := serve .setSupervision serveSetSupervision s

/-! ### Evaluation of a group (R44 to R47) -/

/-- The occupancy sample (R44). -/
def sample (r : Group) : Nat :=
  if r.available = 0 then 1000 else 1000 * min r.busy r.available / r.available

/-- The smoothed occupancy after a sample (R44). -/
def smooth (o s : Nat) : Nat := (3 * o + s + 2) / 4

/-- The refusal ratio (R45). -/
def refusalRatio (r : Group) : Nat := if r.attempts = 0 then 0 else 1000 * r.refusals / r.attempts

/-- The calm count after a period end that finds the group CONGESTED and usable (R47). -/
def calmAfter (r : Group) : Nat := if refusalRatio r < r.congestOn then r.calm + 1 else 0

/-- The congestion state after a period end: the first rule of R46 that applies, with O' already computed. -/
def nextCongestion (r : Group) (o : Nat) : Congestion :=
  if r.inService = false ∨ r.available = 0 then .blocked
  else match r.congestion with
    | .blocked => .clear
    | .clear =>
      if r.congestOn ≤ refusalRatio r then .congested
      else if r.watchOn ≤ o ∨ r.free ≤ r.reservation then .watch
      else .clear
    | .watch =>
      if r.congestOn ≤ refusalRatio r then .congested
      else if o < r.clearBelow ∧ r.reservation < r.free then .clear
      else .watch
    | .congested => if 2 ≤ calmAfter r then .watch else .congested

/-- A group's record after a period end (R44 to R48): O' is stored, the additions held apart become the new period's
counts (R42), and a change of state sets the changed mark. -/
def evaluateGroup (r : Group) : Group :=
  let o := smooth r.occupancy (sample r)
  let next := nextCongestion r o
  { r with
    occupancy := o
    congestion := next
    calm := if r.congestion = .congested ∧ next = .congested then calmAfter r else 0
    attempts := r.heldA
    refusals := r.heldF
    heldA := 0
    heldF := 0
    changed := r.changed || decide (next ≠ r.congestion) }

/-- The effects of a group's change of state (R48): a status event, retained alternates cleared on entry to CONGESTED or
BLOCKED, and a mirror write in progress leaves the mark set (R163, step 5). -/
def congestionChanged (g : Nat) (next : Congestion) (s : State) : State :=
  let s1 := statusEvent s
  let s2 := if next = .congested ∨ next = .blocked then clearRetainedGroup g s1 else s1
  match s2.mirror.marks with
  | some gs => s2.setMirror { s2.mirror with marks := some (gs.filter (fun i => decide (i ≠ g))) }
  | none => s2

/-- The period end evaluates one group (R43, step 2). -/
def evaluateOne (g : Nat) (s : State) : State :=
  let before := s.group g
  let after := evaluateGroup before
  let s1 := putGroup g after s
  if after.congestion = before.congestion then s1 else congestionChanged g after.congestion s1

/-- The period end evaluates every group (R43, step 2). -/
def evaluateGroups (s : State) : State := (List.range 1024).foldl (fun t g => evaluateOne g t) s

/-! ### Gap table -/

/-- The longest matching code: of the items whose code the digits begin with, the one of the longest code (R5, R51). -/
def longestMatch {α : Type} (code : α → List Nat) (digits : List Nat) : List α → Option α
  | [] => none
  | x :: xs =>
    let best := longestMatch code digits xs
    if (code x).isPrefixOf digits then
      match best with
      | some y => if (code y).length < (code x).length then some x else some y
      | none => some x
    else best

/-- The gap entry that judges a call (R51). -/
def matchingGap (s : State) (digits : List Nat) : Option GapEntry :=
  longestMatch GapEntry.code digits s.supervision.gaps

/-- The gap entry with exactly a code. -/
def gapWithCode (s : State) (code : List Nat) : Option GapEntry :=
  s.supervision.gaps.find? (fun e => decide (e.code = code))

/-- The gap table with the entry of a code changed by `f`. -/
def changeGap (code : List Nat) (f : GapEntry → GapEntry) (s : State) : State :=
  putGaps (s.supervision.gaps.map (fun e => if e.code = code then f e else e)) s

/-- The gap table without the entry of a code. -/
def removeGap (code : List Nat) (s : State) : State :=
  putGaps (s.supervision.gaps.filter (fun e => decide (e.code ≠ code))) s

/-- The table with an entry added. -/
def addGap (e : GapEntry) (s : State) : State := putGaps (s.supervision.gaps ++ [e]) s

/-- An entry after it admits a call (R51). -/
def GapEntry.admitCall (now : Tick) (e : GapEntry) : GapEntry :=
  { e with nextAdmission := now + BitVec.ofNat 32 e.interval, admitted := addSat top32 e.admitted 1 }

/-- An entry after it rejects a call (R51). -/
def GapEntry.reject (e : GapEntry) : GapEntry := { e with rejected := addSat top32 e.rejected 1 }

/-- Two measurement periods, in ticks (R39). -/
def twoPeriods (s : State) : Nat := 20 * s.supervision.period

/-- An AUTOMATIC entry's lifetime is renewed, if the table still holds one with that code (R57). -/
def renewGap (code : List Nat) (s : State) : State :=
  changeGap code (fun e => if e.origin = .automatic then { e with lifetime := twoPeriods s, lapsed := false } else e) s

/-- An AUTOMATIC entry is installed for a code that has none, if the table has room (R56). -/
def installGap (code : List Nat) (s : State) : State :=
  if gapWithCode s code = none ∧ s.supervision.gaps.length < 256 then
    statusEvent (addGap
      { code := code, origin := .automatic, interval := s.supervision.interval, lifetime := twoPeriods s,
        nextAdmission := s.now, admitted := 0, rejected := 0, lapsed := false } s)
  else s

/-- An entry replaced by a SET GAP (R54). -/
def GapEntry.replaceBy (interval lifetime : Nat) (e : GapEntry) : GapEntry :=
  { e with
    origin := .software
    interval := interval
    lifetime := lifetime
    lapsed := false
    nextAdmission :=
      if e.admitted = 0 ∨ interval ≤ e.interval then e.nextAdmission
      else e.nextAdmission + BitVec.ofNat 32 (interval - e.interval) }

/-- The code of a SET GAP or CLEAR GAP, if its digits are in range (R53, R55). -/
def gapCodeOf (req : List Byte) : Option (List Nat) :=
  let n := byteAt req 8
  if 1 ≤ n ∧ n ≤ 12 ∧ digitsValid req 16 n then some (byteFields req 16 n) else none

/-- SET GAP at the Supervision Unit (R53, R54). -/
def serveSetGap (slot : Nat) (req : List Byte) (s : State) : State :=
  if reservedClear .setGap req = false then reply slot req .format 0 [] s
  else match gapCodeOf req with
    | none => reply slot req .range 0 [] s
    | some code =>
      let interval := clampTo 1 600 (readLE req 10 2)
      let lifetime := min (readLE req 12 2) 36000
      match gapWithCode s code with
      | some e =>
        reply slot req .ok 0
          [⟨72, 2, interval⟩, ⟨74, 2, lifetime⟩, ⟨76, 1, 1⟩, ⟨77, 1, e.origin.code⟩, ⟨78, 2, s.supervision.gaps.length⟩,
           ⟨80, 4, e.admitted⟩, ⟨84, 4, e.rejected⟩]
          (changeGap code (GapEntry.replaceBy interval lifetime) s)
      | none =>
        if s.supervision.gaps.length < 256 then
          reply slot req .ok 0
            [⟨72, 2, interval⟩, ⟨74, 2, lifetime⟩, ⟨76, 1, 0⟩, ⟨78, 2, s.supervision.gaps.length + 1⟩]
            (addGap { code := code, origin := .software, interval := interval, lifetime := lifetime,
                      nextAdmission := s.now, admitted := 0, rejected := 0, lapsed := false } s)
        else reply slot req .tableFull 0 [] s

/-- SET_GAP (R53). -/
def execSetGap (s : State) : Result := serve .setGap serveSetGap s

/-- CLEAR GAP at the Supervision Unit (R55). -/
def serveClearGap (slot : Nat) (req : List Byte) (s : State) : State :=
  if reservedClear .clearGap req = false then reply slot req .format 0 [] s
  else match gapCodeOf req with
    | none => reply slot req .range 0 [] s
    | some code =>
      match gapWithCode s code with
      | some e =>
        reply slot req .ok 0
          [⟨72, 2, e.interval⟩, ⟨74, 2, e.lifetime⟩, ⟨76, 1, e.origin.code⟩, ⟨80, 4, e.admitted⟩, ⟨84, 4, e.rejected⟩]
          (removeGap code s)
      | none => reply slot req .notPending 0 [] s

/-- CLEAR_GAP (R55). -/
def execClearGap (s : State) : Result := serve .clearGap serveClearGap s

/-- An entry's lifetime after one advance of the tick counter (R52). -/
def GapEntry.countDown (e : GapEntry) : GapEntry :=
  if 0 < e.lifetime then { e with lifetime := e.lifetime - 1, lapsed := decide (e.lifetime = 1) } else e

/-- Every entry is counted down at an advance of the tick counter (R52). -/
def countDownGaps (s : State) : State := putGaps (s.supervision.gaps.map GapEntry.countDown) s

/-- The entries whose lifetime has counted down to 0 are removed (R52). -/
def removeLapsed (s : State) : State := putGaps (s.supervision.gaps.filter (fun e => !e.lapsed)) s

/-- The gap-table upkeep of a period end (R52): a next-admission tick that is reached becomes the period end's tick. -/
def gapUpkeep (tick : Tick) (s : State) : State :=
  putGaps (s.supervision.gaps.map (fun e => if reached s.now e.nextAdmission then { e with nextAdmission := tick } else e)) s

/-- GAP_ENTRY_LAPSE: the entry with this code is removed once its lifetime has counted down to 0 (R52). -/
def execGapEntryLapse (code : List Nat) (s : State) : Result :=
  if (Instr.gapEntryLapse code).wellFormed = false then .fault .illFormed
  else match gapWithCode s code with
    | some e => .next (if s.up ∧ e.lapsed then removeGap code s else s)
    | none => .next s

end Sys2Proof.Machine
end

