-- ==== Sys2Proof/Machine/Clock.lean ====
section
/-! DEFINITION. Time: frame slots and the reference monitor (R100, R109, R110), tick advances (R100), tenth advances
(R101, R114), and the period end (R40, R43). -/

namespace Sys2Proof.Machine

/-! ### The period end (R40, R43) -/

/-- The next period starts at the tick that ended the last one, and the Mirror Writer is signalled (R40, R43). -/
def startPeriod (pe : Tick) (s : State) : State :=
  startMirror pe (s.setSupervision { s.supervision with periodEnd := pe + BitVec.ofNat 32 (10 * s.supervision.period) })

/-- The period end: every group is evaluated, the gap table is kept up, the next period starts, and the Mirror Writer is
signalled (R40, R43). -/
def endPeriod (s : State) : State :=
  startPeriod s.supervision.periodEnd (gapUpkeep s.supervision.periodEnd (evaluateGroups s))

/-- The tick counter has reached the end tick of the period in progress (R40). -/
def periodDue (s : State) : Bool := reached s.now s.supervision.periodEnd

/-- PERIOD_END (R43). -/
def execPeriodEnd (s : State) : Result := .next (if s.up ∧ periodDue s then endPeriod s else s)

/-! ### The tick advance (R100) -/

/-- The activations that a compare has handed over and that have not been taken (R112), carrier by carrier. -/
def takeAllHanded : List Nat → State → State
  | [], s => s
  | c :: cs, s => takeAllHanded cs (takeHanded c .outbound (takeHanded c .inbound s))

/-- Every expiry that is due (R89). -/
def expireAll : List Nat → State → State
  | [], s => s
  | i :: is, s => expireAll is (expire i s)

/-- Every long-call mark that is due (R96). -/
def markAllLong : List Nat → State → State
  | [], s => s
  | i :: is, s => markAllLong is (markLong i s)

/-- The events due at the present tick that have not been taken are taken, in this order: gap entries removed, handed sets
activated, expiries, long-call marks, the period end (DESIGN CHOICE, notes/assumptions/6.md). -/
def settleTick (s : State) : State :=
  let s1 := removeLapsed s
  let s2 := takeAllHanded (s1.carriers.map (fun e => e.1)) s1
  let s3 := expireAll (s2.contexts.table.map (fun e => e.1)) s2
  let s4 := markAllLong (s3.contexts.table.map (fun e => e.1)) s3
  if periodDue s4 then endPeriod s4 else s4

/-- The tick counter rises by 1, the tick divider returns to 0, and gap lifetimes are counted down (R52, R100). -/
def tickRise (s : State) : State :=
  countDownGaps (s.setClock { s.clock with tick := s.clock.tick + 1#32, tickDivider := 0 })

/-- The tick divider has counted 800 slots (R100). -/
def tickDue (s : State) : Bool := decide (800 ≤ s.clock.tickDivider)

/-- The tick advance, after what was due at the tick that ends. -/
def advanceTick (s : State) : State := tickRise (settleTick s)

/-- TICK_ADVANCE (R100). -/
def execTickAdvance (s : State) : Result := .next (if s.up ∧ tickDue s then advanceTick s else s)

/-! ### The tenth advance (R101, R114) -/

/-- A RESET line or SOFT RESET reset is in progress with the main supply present: tenth advances go on (R114). A power-on
reset makes none (DESIGN CHOICE, notes/assumptions/23.md). -/
def State.resetCounting (s : State) : Bool :=
  s.power.main && (decide (s.power.reset = some .line) || decide (s.power.reset = some .soft))

/-- The calendar divider has counted 800 slots (R100). -/
def tenthDue (s : State) : Bool := decide (800 ≤ s.clock.calDivider)

/-- The tenth advance: a SET calendar adds a tenth with its carries; outside a reset a half-hour carry evaluates the band,
and then a second carry makes the compare (R101, R114). -/
def advanceTenth (s : State) : State :=
  let s1 := s.setClock { s.clock with calDivider := 0 }
  if s.backup.clockSet then
    let cal := s.backup.calendar
    let s2 := s1.setBackup { s1.backup with calendar := addTenth cal }
    if s.up then
      let s3 := if isHalfHourCarry cal then evaluateBand s2 else s2
      if isSecondCarry cal then compareTariffs s3 else s3
    else s2
  else s1

/-- TENTH_ADVANCE (R101). -/
def execTenthAdvance (s : State) : Result :=
  .next (if (s.up ∨ s.resetCounting) ∧ tenthDue s then advanceTenth s else s)

/-! ### The reference monitor (R109, R110) -/

/-- FREE_RUNNING is set in an ANSWERED context (R97, R110). -/
def markFreeRunning (c : Context) : Context :=
  match c.state with
  | .answered call a => { c with state := .answered call { a with freeRunning := true } }
  | _ => c

/-- The monitor is LOCKED and its missing run has come to 8 (R109). -/
def lossDue (s : State) : Bool := decide (s.clock.reference = .locked ∧ 8 ≤ s.clock.missingRun)

/-- The monitor is FREE_RUNNING and its present run has come to 64 (R109). -/
def lockDue (s : State) : Bool := decide (s.clock.reference = .freeRunning ∧ 64 ≤ s.clock.presentRun)

/-- The reference state changes: both runs become 0 and a status event is raised (R109, R110). -/
def changeReference (r : Reference) (s : State) : State :=
  statusEvent (s.setClock { s.clock with reference := r, presentRun := 0, missingRun := 0 })

/-- The reference is lost: besides, FREE_RUNNING is set in every ANSWERED context (R110). -/
def loseReference (s : State) : State :=
  let s1 := changeReference .freeRunning s
  s1.setContexts { s1.contexts with table := Table.mapValues markFreeRunning s1.contexts.table }

/-- REFERENCE_LOSS (R110). -/
def execReferenceLoss (s : State) : Result := .next (if s.up ∧ lossDue s then loseReference s else s)

/-- REFERENCE_LOCK (R110). -/
def execReferenceLock (s : State) : Result := .next (if s.up ∧ lockDue s then changeReference .locked s else s)

/-! ### Frame slots (R100, R109) -/

/-- A slot judged by the monitor (R109). -/
def judgeSlot (present : Bool) (c : ClockUnit) : ClockUnit :=
  match c.reference, present with
  | .locked, false => { c with missingRun := c.missingRun + 1 }
  | .locked, true => { c with missingRun := 0 }
  | .freeRunning, false => { c with presentRun := 0 }
  | .freeRunning, true => { c with presentRun := c.presentRun + 1 }

/-- What an earlier slot has made due and nobody has taken is taken: the change of reference, the tick advance, the tenth
advance (DESIGN CHOICE, notes/assumptions/6.md). -/
def settleSlot (s : State) : State :=
  let s1 := if lossDue s then loseReference s else if lockDue s then changeReference .locked s else s
  let s2 := if tickDue s1 then advanceTick s1 else s1
  if tenthDue s2 then advanceTenth s2 else s2

/-- A slot is judged and both dividers advance by one (R100, R109). -/
def countSlot (present : Bool) (s : State) : State :=
  let c := judgeSlot present s.clock
  s.setClock { c with tickDivider := c.tickDivider + 1, calDivider := c.calDivider + 1 }

/-- A slot during a RESET line or SOFT RESET reset: the calendar goes on, nothing else (R114). -/
def slotInReset (s : State) : State :=
  let s1 := if tenthDue s then advanceTenth s else s
  s1.setClock { s1.clock with calDivider := s1.clock.calDivider + 1 }

/-- FRAME_SLOT (R100, R109). -/
def execFrameSlot (present : Bool) (s : State) : Result :=
  .next (if s.up then countSlot present (settleSlot s) else if s.resetCounting then slotInReset s else s)

end Sys2Proof.Machine
end

