-- ==== Sys2Proof/Machine/Registers.lean ====
section
/-! DEFINITION. The register window: reads (R168, R169), writes (R158, R169 to R171), and the scan timer (R158). Writes are
ignored while a reset is in progress (R169). -/

namespace Sys2Proof.Machine

/-! ### Reads -/

/-- The registers (R168). -/
inductive Register where
  | ident
  | control
  | areaBase
  | areaSize
  | nudge
  | attention
  | status
  deriving DecidableEq, Repr

/-- The registers in the order of the window (R168). -/
def Register.every : List Register := [.ident, .control, .areaBase, .areaSize, .nudge, .attention, .status]

/-- The offset of a register in the window (R168). -/
def Register.offset : Register → Nat
  | .ident => 0x00
  | .control => 0x04
  | .areaBase => 0x08
  | .areaSize => 0x0C
  | .nudge => 0x10
  | .attention => 0x14
  | .status => 0x18

/-- The register at an offset of the window (R168); none elsewhere (DESIGN CHOICE, notes/assumptions/9.md). -/
def registerAt (off : Nat) : Option Register := Register.every.find? (fun r => decide (r.offset = off))

/-- CONTROL as read; SOFT RESET always reads 0 (R168, R169). -/
def Regs.controlWord (r : Regs) : Nat := bit r.run + 2 * bit r.pulse + 256 * r.interval + 65536 * r.burst

/-- ATTENTION as read (R168). -/
def Regs.attentionWord (r : Regs) : Nat := bit r.answers + 2 * bit r.events + 4 * bit r.fault

/-- STATUS as read (R168). -/
def Regs.statusWord (r : Regs) : Nat :=
  r.engine.code + 16 * r.startKind.code + 256 * r.faultKind.code + 65536 * r.faultSlot

/-- A register as read from the values `r` (R168). A bit that R168 does not name reads 0 (DESIGN CHOICE,
notes/assumptions/43.md). -/
def Regs.read (r : Regs) : Register → Word
  | .ident => BitVec.ofNat 32 (0x0712 * 65536 + Config.identRevision.toNat)
  | .control => BitVec.ofNat 32 r.controlWord
  | .areaBase => r.base
  | .areaSize => BitVec.ofNat 32 r.sizeExp
  | .nudge => 0xFFFFFFFF#32
  | .attention => BitVec.ofNat 32 r.attentionWord
  | .status => BitVec.ofNat 32 r.statusWord

/-- What a read of a register returns: the stored values, and the reset values while a reset is in progress (R169). -/
def readRegister (s : State) (reg : Register) : Word :=
  (if s.up then s.regs else Regs.reset s.regs.startKind).read reg

/-- The window as read at an offset (R168, R169). -/
def readWindow (s : State) (off : Nat) : Option Word := (registerAt off).map (readRegister s)

/-! ### The window as written (R168, R169) -/

/-- The commands as which a 32-bit write of a register arrives: one for each field of CONTROL, RUN last, but SOFT RESET
alone when it is written as 1 (R168, R169; the order is a DESIGN CHOICE, notes/assumptions/9.md). -/
def Register.written (v : Word) : Register → List Instr
  | .ident => [.registerWriteIgnored .ident v]
  | .control =>
    if v.getLsbD 2 then [.softReset]
    else [.attnMode (v.getLsbD 1), .scanInterval (v.extractLsb' 8 6), .burstSize (v.extractLsb' 16 2),
          if v.getLsbD 0 then .runOne else .runZero]
  | .areaBase => [.areaBase v]
  | .areaSize => [.areaSize v]
  | .nudge => [.nudge v]
  | .attention => [.attention v]
  | .status => [.registerWriteIgnored .status v]

/-- A write of the window at an offset: its commands join the queue (R168, R169). -/
def writeWindow (off : Nat) (v : Word) (s : State) : State :=
  s.setPending (s.pending ++ ((registerAt off).map (Register.written v)).getD [])

/-! ### RUN (R170) -/

/-- A write to a register by `f`, ignored while a reset is in progress (R169). -/
def registerWrite (f : State → State) (s : State) : Result := .next (if s.up then f s else s)

/-- The engine enters RUNNING: an owed abort sweep is made or resumed, or else `f` goes on and the scan timer starts (R158,
R170, R176). -/
def enterRunning (f : State → State) (s : State) : State :=
  if s.intake.sweep.owed then (if s.intake.sweep.active then s else startSweep s) else f (restartTimer s)

/-- A write of RUN 1 (R170). -/
def runOn (s : State) : State :=
  let s1 := s.setRegs { s.regs with run := true, engine := .running }
  match s.regs.engine with
  | .running => s1
  | .halted => enterRunning id s1
  | .draining => enterRunning id s1
  | .faulted => enterRunning proceedAnswers (startRecovery s1)

/-- RUN_ONE (R170). -/
def execRunOne (s : State) : Result := registerWrite runOn s

/-- A strip burst read of a pass. -/
def Transfer.isStrip (t : Transfer) : Bool :=
  match t.purpose with
  | .strip _ => true
  | _ => false

/-- The port without the strip burst of a pass that has ended; the port serves the next requester when it carried that
burst (DESIGN CHOICE, notes/assumptions/12.md). -/
def Port.dropStrip (b : Nat) (p : Port) : Port :=
  let p1 := { p with intake := p.intake.filter (fun t => !t.isStrip) }
  if p.serving = some .intake ∧ p.intake.head?.any Transfer.isStrip then { p1 with last := some .intake }.serve b else p1

/-- A pass in progress ends, its resume point the first slot it did not examine; the rescan request is cleared and the scan
timer stops (R158, R159). A pass made due during the recovery is dropped (DESIGN CHOICE, notes/assumptions/42.md). -/
def Intake.stopScanning (k : Intake) : Intake :=
  { k with
    pass := none
    resume := match k.pass with
      | some p => p.stopPoint
      | none => k.resume
    rescan := false
    passDue := false
    timer := none }

/-- A write of RUN 0 (R170). -/
def runOff (s : State) : State :=
  let s1 := s.setRegs { s.regs with run := false }
  if s.regs.engine = .running then
    checkHalt (setEngine .draining ((s1.setIntake s1.intake.stopScanning).setPort (s1.port.dropStrip (burstInForce s))))
  else s1

/-- RUN_ZERO (R170). -/
def execRunZero (s : State) : Result := registerWrite runOff s

/-! ### The other fields of CONTROL, the area, ATTENTION -/

/-- The ATTN line in LATCHED mode is asserted while any bit is set; a mode of PULSE leaves it as `line` (R171). -/
def Regs.latch (r : Regs) (line : Bool) : Regs := { r with attnLine := if r.pulse then line else r.anyAttention }

/-- ATTN_MODE: a change of mode applies to the line (R171). -/
def execAttnMode (pulse : Bool) (s : State) : Result :=
  registerWrite (fun s => if pulse = s.regs.pulse then s else s.setRegs ({ s.regs with pulse := pulse }.latch false)) s

/-- SCAN_INTERVAL, clamped to 1..32 units (R169). -/
def execScanInterval (units : BitVec 6) (s : State) : Result :=
  registerWrite (fun s => s.setRegs { s.regs with interval := max 1 (min units.toNat 32) }) s

/-- BURST_SIZE (R169). -/
def execBurstSize (code : BitVec 2) (s : State) : Result :=
  registerWrite (fun s => s.setRegs { s.regs with burst := code.toNat }) s

/-- AREA_BASE, stored only while HALTED, with bits 11..0 taken as 0 (R169). -/
def execAreaBase (value : Word) (s : State) : Result :=
  registerWrite (fun s => if s.regs.engine = .halted then s.setRegs { s.regs with base := value &&& 0xFFFFF000#32 } else s) s

/-- AREA_SIZE, stored only while HALTED, with k clamped to 6..12 (R169). -/
def execAreaSize (value : Word) (s : State) : Result :=
  registerWrite (fun s =>
    if s.regs.engine = .halted then s.setRegs { s.regs with sizeExp := max 6 (min (value.toNat % 16) 12) } else s) s

/-- ATTENTION: each bit written as 0 is cleared; in LATCHED mode the line follows the bits (R169, R171). -/
def execAttention (value : Word) (s : State) : Result :=
  registerWrite (fun s =>
    let r := { s.regs with
      answers := s.regs.answers && value.getLsbD 0
      events := s.regs.events && value.getLsbD 1
      fault := s.regs.fault && value.getLsbD 2 }
    s.setRegs (r.latch s.regs.attnLine)) s

/-- REGISTER_WRITE_IGNORED: a write to IDENT or STATUS (R169). -/
def execRegisterWriteIgnored (_reg : ReadOnlyReg) (_value : Word) (s : State) : Result := .next s

/-- ATTN_PULSE_END: in PULSE mode the line is deasserted (R171). -/
def execAttnPulseEnd (s : State) : Result :=
  .next (if s.up ∧ s.regs.pulse = true then s.setRegs { s.regs with attnLine := false } else s)

/-! ### Scanning (R158) -/

/-- The rescan request is set. -/
def requestRescan (s : State) : State := s.setIntake { s.intake with rescan := true }

/-- NUDGE: in RUNNING it starts a pass at once, or sets the rescan request while a pass or an abort sweep is in progress
(R158). -/
def execNudge (_value : Word) (s : State) : Result :=
  registerWrite (fun s =>
    if s.regs.engine = .running then
      if s.intake.sweep.active = true ∨ s.intake.pass.isSome = true then requestRescan s else passFallsDue s
    else s) s

/-- The scan timer runs out: a pass starts if none is in progress, after an abort sweep in progress (R158). -/
def scanTimerOut (s : State) : State :=
  let s1 := s.setIntake { s.intake with timer := none }
  if s1.intake.sweep.active then s1.setIntake { s1.intake with passDue := true }
  else if s1.intake.pass.isSome then s1
  else passFallsDue s1

/-- SCAN_TIMER_EXPIRY (R158). -/
def execScanTimerExpiry (s : State) : Result :=
  .next (if s.up = true ∧ s.regs.engine = .running ∧ s.intake.timer.isSome = true then scanTimerOut s else s)

end Sys2Proof.Machine
end

