-- ==== Sys2Proof/Machine/Routing.lean ====
section
/-! DEFINITION. The Route Selector: ROUTE with its walk and reports (R59 to R71), and CRANKBACK (R72 to R77). -/

namespace Sys2Proof.Machine

/-! ### The gap check (R59, R61) -/

/-- The dialled digits of a ROUTE. -/
def dialled (req : List Byte) : List Nat := byteFields req 16 (byteAt req 8)

/-- A ROUTE goes on to its walk, with the entry that admitted it (R61). -/
def admitRoute (slot : Nat) (req : List Byte) (through : Option (List Nat × GapOrigin)) (s : State) : State :=
  markBegun slot req (s.setRouteJob (some { slot := slot, request := req, stage := .admitted through }))

/-- ROUTE at the Route Selector: its fields are checked, and the gap check admits or rejects the call (R51, R59, R61). -/
def serveRoute (slot : Nat) (req : List Byte) (s : State) : State :=
  if reservedClear .route req = false then reply slot req .format 0 [] s
  else if byteAt req 8 < 1 ∨ 16 < byteAt req 8 then reply slot req .range 0 [] s
  else if digitsValid req 16 (byteAt req 8) = false then reply slot req .range 0 [] s
  else match matchingGap s (dialled req) with
    | none => admitRoute slot req none s
    | some e =>
      if reached s.now e.nextAdmission then
        admitRoute slot req (some (e.code, e.origin)) (changeGap e.code (GapEntry.admitCall s.now) s)
      else
        reply slot req .gapped 0 [⟨72, 1, e.code.length⟩, ⟨76, 2, (e.nextAdmission - s.now).toNat⟩]
          (changeGap e.code GapEntry.reject s)

/-- ROUTE (R61). -/
def execRoute (s : State) : Result := serve .route serveRoute s

/-! ### Lookup and allocation (R62 to R64) -/

/-- The destination lookup in a bank: the entry with the longest matching code and its destination index (R5). -/
def lookupDest (d : BankData) (digits : List Nat) : Option (Dest × Nat) :=
  longestMatch (fun e => e.1.code) (digits.take 12) d.dests.zipIdx

/-- The first of `fuel` indices from `i` on whose context is FREE. -/
def firstFreeFrom (s : State) : Nat → Nat → Option Nat
  | 0, _ => none
  | fuel + 1, i => if (s.context i).state = .free then some i else firstFreeFrom s fuel (i + 1)

/-- The FREE context with the lowest index (R63). -/
def firstFree (s : State) : Option Nat := firstFreeFrom s 16384 0

/-- A generation advanced, wrapping from 255 to 1 (R63). -/
def nextGeneration (g : Nat) : Nat := if g = 255 then 1 else g + 1

/-- A context taken for a new call: its generation advances, its previous content is discarded (R63, R64). -/
def takeContext (i : Nat) (s : State) : State :=
  putContext i { generation := nextGeneration (s.context i).generation, state := .free } s

/-- The context that a walk takes: the lowest FREE one, or the head of the expired list (R63, R64). -/
def allocate (s : State) : Option (Nat × State) :=
  match firstFree s with
  | some i => some (i, takeContext i s)
  | none =>
    match s.contexts.expired with
    | i :: _ => some (i, takeContext i (dropExpired i s))
    | [] => none

/-! ### The candidate list (R65 to R67, R74) -/

/-- The steps of a route list as candidates, numbered from 1 (R6, R65). -/
def candidatesOf (steps : List RouteStep) : List Candidate :=
  (steps.zipIdx 1).map (fun p => { group := p.1.group, step := p.2, kind := p.1.kind })

/-- The ranking rate of a group (R67). -/
def rankingRate (s : State) (g : Nat) : Nat :=
  let c := (s.group g).owner
  if c = 0 then 0
  else match s.bandRecord c .outbound s.clock.band with
    | some r => r.rate
    | none => 1000000

/-- A candidate placed before the first whose rate is not below its own. -/
def rankInsert (rate : Nat → Nat) (c : Candidate) : List Candidate → List Candidate
  | [] => [c]
  | d :: ds => if rate c.group ≤ rate d.group then c :: d :: ds else d :: rankInsert rate c ds

/-- Candidates in ascending order of rate, equal rates by step number (R66). -/
def rankSort (rate : Nat → Nat) : List Candidate → List Candidate
  | [] => []
  | c :: cs => rankInsert rate c (rankSort rate cs)

/-- The pool part: the retained alternate first, if there is one, then the others by rate (R66). -/
def orderPool (rate : Nat → Nat) (retained : Option Nat) (pool : List Candidate) : List Candidate :=
  pool.filter (fun c => decide (retained = some c.group)) ++
    rankSort rate (pool.filter (fun c => decide (retained ≠ some c.group)))

/-- The candidate list: the steps before the pool, the pool ordered, the steps after it (R65). -/
def arrange (rate : Nat → Nat) (retained : Option Nat) (cs : List Candidate) : List Candidate :=
  let isPool : Candidate → Bool := fun c => decide (c.kind = .pool)
  let fromPool := cs.dropWhile (fun c => !isPool c)
  cs.takeWhile (fun c => !isPool c) ++ orderPool rate retained (fromPool.takeWhile isPool) ++ fromPool.dropWhile isPool

/-! ### The walk (R68, R69) -/

/-- The confirmation deadline of a grant made now (R89). -/
def deadlineNow (s : State) : Tick := s.now + BitVec.ofNat 32 s.contexts.window

/-- The fields of an OK answer to ROUTE or CRANKBACK (R71, Table 10-5). -/
def grantFields (s : State) (i generation : Nat) (call : Call) : List Field :=
  [⟨72, 4, Handle.value { epoch := s.backup.epoch, generation := generation, index := i }⟩, ⟨76, 2, call.group⟩,
   ⟨78, 1, call.step⟩, ⟨79, 1, call.kind.code⟩, ⟨80, 1, bit call.alternate⟩, ⟨81, 1, call.history.length⟩]

/-- The ROUTE ends with an answer (R71). -/
def finishRoute (job : RouteJob) (code : Code) (fields : List Field) (s : State) : State :=
  reply job.slot job.request code 0 fields (s.setRouteJob none)

/-- The call of a context made PROVISIONAL by a ROUTE's grant (R68). -/
def grantedCall (s : State) (dest : Nat) (origin : Nat) (c : Candidate) : Call :=
  { bank := s.plan.active, dest := dest, origin := origin, group := c.group, step := c.step, kind := c.kind,
    alternate := decide (c.kind ≠ .direct), history := [c.group], grantTick := s.now }

/-- A granted walk: the context becomes PROVISIONAL, the bank's provisional count rises, the destination's exhaust count is
set to 0, and OK is answered (R68). -/
def walkGranted (job : RouteJob) (i dest : Nat) (c : Candidate) (s : State) : State :=
  let call := grantedCall s dest (byteAt job.request 9) c
  let generation := (s.context i).generation
  let s1 := putContext i { generation := generation, state := .provisional call (deadlineNow s) } s
  let s2 := changeDest call.bank dest (fun e => { e with exhaust := 0 }) (changeProvisional call.bank (fun n => n + 1) s1)
  finishRoute job .ok (grantFields s i generation call) s2

/-- A refused walk: the exhaust count rises, stopping at 15; the reports still to be made are noted, and without any the
answer is ALL_BUSY at once (R69, R70). The context is FREE again with its advanced generation. -/
def walkRefused (job : RouteJob) (through : Option (List Nat × GapOrigin)) (dest : Nat) (e : Dest) (s : State) : State :=
  let exhaust := min 15 (e.exhaust + 1)
  let s1 := changeDest s.plan.active dest (fun d => { d with exhaust := exhaust }) s
  let renew := match through with
    | some (code, .automatic) => some code
    | _ => none
  let install := if e.exhaust < 15 ∧ e.exhaust + 1 = s.supervision.threshold then some e.code else none
  if renew = none ∧ install = none then finishRoute job .allBusy [⟨72, 1, exhaust⟩] s1
  else s1.setRouteJob (some { job with
    stage := .walked renew install (answerHalf .allBusy job.request 0 [⟨72, 1, exhaust⟩]) })

/-- The walk of an admitted ROUTE, one event (R60, R62 to R69). -/
def walk (job : RouteJob) (through : Option (List Nat × GapOrigin)) (s : State) : State :=
  match lookupDest (s.bank s.plan.active) (dialled job.request) with
  | none => finishRoute job .noRoute [⟨72, 1, 0⟩] s
  | some (e, dest) =>
    let steps := (s.bank s.plan.active).routeList e.routeList
    if steps = [] then finishRoute job .noRoute [⟨72, 1, e.code.length⟩] s
    else match allocate s with
      | none => finishRoute job .noContext [] s
      | some (i, s1) =>
        match seize [] (arrange (rankingRate s1) e.retained (candidatesOf steps)) s1 with
        | (some c, s2) => walkGranted job i dest c s2
        | (none, s2) => walkRefused job through dest e s2

/-- ROUTE_WALK: the walk of the admitted ROUTE (R60). -/
def execRouteWalk (s : State) : Result :=
  match s.routeJob with
  | some ⟨slot, req, .admitted through⟩ =>
    .next (if s.up then walk ⟨slot, req, .admitted through⟩ through s else s)
  | _ => .next s

/-- The reports of a walk that ended ALL_BUSY, in order: renewal, then installation (R70). -/
def makeReports (renew install : Option (List Nat)) (s : State) : State :=
  let s1 := match renew with
    | some code => renewGap code s
    | none => s
  match install with
  | some code => installGap code s1
  | none => s1

/-- ROUTE_REPORTS: the reports are made and the answer is handed over (R70). -/
def execRouteReports (s : State) : Result :=
  match s.routeJob with
  | some ⟨slot, req, .walked renew install answer⟩ =>
    .next (if s.up then formAnswer slot req answer ((makeReports renew install s).setRouteJob none) else s)
  | _ => .next s

/-! ### CRANKBACK (R72 to R76) -/

/-- A destination entry of a bank (R4). -/
def State.dest (s : State) (k : Bank) (i : Nat) : Option Dest := (s.bank k).dests[i]?

/-- The candidates of a resumed walk: the steps above the current step, the retained alternate first only when the current
step lies outside the pool (R74). -/
def resumedCandidates (s : State) (call : Call) : List Candidate :=
  match s.dest call.bank call.dest with
  | none => []
  | some e =>
    let later := (candidatesOf ((s.bank call.bank).routeList e.routeList)).filter (fun c => decide (call.step < c.step))
    arrange (rankingRate s) (if call.kind = .pool then none else e.retained) later

/-- The retained alternate of a call's destination is made empty if it is the call's group (R21, R73). -/
def clearOwnRetained (call : Call) (s : State) : State :=
  changeDest call.bank call.dest (fun d => if d.retained = some call.group then { d with retained := none } else d) s

/-- A call ends at a failed CRANKBACK: its context is freed and its bank's provisional count falls (R73, R76). -/
def endCall (i : Nat) (call : Call) (s : State) : State :=
  freeContext i (changeProvisional call.bank (fun n => n - 1) s)

/-- The call after a successful CRANKBACK (R75). -/
def Call.movedTo (call : Call) (c : Candidate) : Call :=
  { call with group := c.group, step := c.step, kind := c.kind, alternate := decide (c.kind ≠ .direct),
              history := call.history ++ [c.group] }

/-- The continuation of a CRANKBACK on a PROVISIONAL context, one event (R73 to R76). -/
def crankContinue (slot : Nat) (req : List Byte) (i : Nat) (call : Call) (s : State) : State :=
  let s1 := clearOwnRetained call (returnSeizure call.group s)
  if 4 ≤ call.history.length then reply slot req .exhausted 0 [] (endCall i call s1)
  else match seize call.history (resumedCandidates s1 call) s1 with
    | (some c, s2) =>
      let generation := (s2.context i).generation
      reply slot req .ok 0 (grantFields s2 i generation (call.movedTo c))
        (putContext i { generation := generation, state := .provisional (call.movedTo c) (deadlineNow s2) } s2)
    | (none, s2) => reply slot req .allBusy 0 [⟨72, 1, call.history.length⟩] (endCall i call s2)

/-- CRANKBACK by the state of the context (R72). -/
def crankbackRule (slot : Nat) (req : List Byte) (i : Nat) (c : Context) (s : State) : State :=
  match c.state with
  | .provisional call _ => crankContinue slot req i call s
  | .expired call deadline => tooLate slot req i call deadline s
  | _ => reply slot req .wrongState 0 [] s

/-- CRANKBACK (R72). -/
def execCrankback (s : State) : Result := serve .crankback (callRequest .crankback crankbackRule) s

end Sys2Proof.Machine
end

