-- ==== Sys2Proof/Machine/Starts.lean ====
section
/-! DEFINITION. The supplies, the resets and the starts (R114, R115, R145, R148, R153, R174, R175). -/

namespace Sys2Proof.Machine

/-- Every block outside the Backup Domain in its reset state, with a start kind (R175). The Backup Domain, the supplies, the
bytes stored in host memory, the count of failed writes and the queue of commands stay. A tick or tenth advance that was due
and not taken is dropped with its divider (DESIGN CHOICE, notes/assumptions/33.md). A burst that the port carried has stored nothing (DESIGN CHOICE,
notes/assumptions/40.md), and EVENTS set by a restoration in an earlier reset that this one restarts is cleared (DESIGN CHOICE,
notes/assumptions/39.md). -/
def volatileReset (kind : StartKind) (s : State) : State :=
  { State.reset with
    backup := s.backup, regs := Regs.reset kind, power := s.power, mem := s.mem,
    failures := s.failures, pending := s.pending }

/-- The start kind of a warm reset: a power-on with the marker lost stays COLD when a reset falls during it (R175). -/
def laterKind (s : State) : StartKind :=
  if s.power.reset.isSome = true ∧ s.regs.startKind = .cold then .cold else .warm

/-- A warm reset is started: the blocks take their reset states, a full close record is undone, and open handovers are
carried (R148, R153, R174). The status events of the restoration are raised after the registers took their reset values
(R174). -/
def startWarm (kind : StartKind) (cause : ResetCause) (s : State) : State :=
  let s1 := carryUnsettled (restoreClose (volatileReset kind s))
  s1.setPower { s1.power with reset := some cause }

/-- A cold reset is started: the Backup Domain is zeroed, its marker written, the epoch 1 (R174). -/
def startCold (s : State) : State :=
  let s1 := (volatileReset .cold s).setBackup Backup.cold
  s1.setPower { s1.power with reset := some .power }

/-- An epoch advanced, wrapping from 255 to 1 (R174). -/
def nextEpoch (e : Nat) : Nat := if e = 255 then 1 else e + 1

/-- A reset ends: the Calendar Unit stands as R115 gives, a warm start's epoch is advanced, and one band evaluation is made
(R115, R174). A tenth advance that was due and not taken is dropped with its divider (DESIGN CHOICE,
notes/assumptions/33.md). -/
def endReset (s : State) : State :=
  let s1 := (s.setPower { s.power with reset := none }).setClock ClockUnit.reset
  let s2 := if s.regs.startKind = .warm then s1.setBackup { s1.backup with epoch := nextEpoch s1.backup.epoch } else s1
  evaluateBand s2

/-- POWER_ON: a COLD or WARM reset according to the continuity marker (R174). -/
def execPowerOn (s : State) : Result :=
  let s1 := s.setPower { s.power with main := true }
  .next (if s.backup.marker then startWarm .warm .power s1 else startCold s1)

/-- RESET_LINE_ASSERTED: a warm reset that lasts while the line is asserted (R174). -/
def execResetLineAsserted (s : State) : Result :=
  let s1 := s.setPower { s.power with line := true }
  .next (if s.power.main then startWarm (laterKind s) .line s1 else s1)

/-- RESET_LINE_RELEASED: a reset from the line ends (R174). Where the line was asserted during a power-on reset, the release
ends that whole reset (DESIGN CHOICE, notes/assumptions/22.md). -/
def execResetLineReleased (s : State) : Result :=
  let s1 := s.setPower { s.power with line := false }
  .next (if s.power.main = true ∧ s.power.reset = some .line then endReset s1 else s1)

/-- SOFT_RESET: a warm reset (R169, R174). -/
def execSoftReset (s : State) : Result := .next (if s.up then startWarm .warm .soft s else s)

/-- RESET_END: a power-on reset or a SOFT RESET ends; with the RESET line asserted it goes on as a reset from the line
(R174, R175). -/
def execResetEnd (s : State) : Result :=
  .next
    (if s.power.main = true ∧ (s.power.reset = some .power ∨ s.power.reset = some .soft) then
      if s.power.line then s.setPower { s.power with reset := some .line } else endReset s
    else s)

/-- BACKUP_TENTH_ADVANCE: while the main supply is absent and the backup supply holds, a SET calendar adds a tenth with its
carries; nothing is evaluated or compared (R114). -/
def execBackupTenthAdvance (s : State) : Result :=
  .next
    (if s.power.main = false ∧ s.backup.marker = true ∧ s.backup.clockSet = true then
      s.setBackup { s.backup with calendar := addTenth s.backup.calendar }
    else s)

/-- MAIN_SUPPLY_LOSS: the part goes down; only the Backup Domain keeps its content (R114, R145). The rest stands at its reset
values while the part is down (DESIGN CHOICE, notes/assumptions/20.md). -/
def execMainSupplyLoss (s : State) : Result :=
  let s1 := volatileReset s.regs.startKind s
  .next (if s.power.main then s1.setPower { s1.power with main := false, reset := none } else s)

/-- BACKUP_SUPPLY_FAILURE: while the main supply is absent, the Backup Domain loses its content and the continuity marker
(R145). What the lost content reads as is never seen (DESIGN CHOICE, notes/assumptions/20.md). -/
def execBackupSupplyFailure (s : State) : Result :=
  .next (if s.power.main then s else s.setBackup { Backup.cold with marker := false })

end Sys2Proof.Machine
end

