-- ==== Sys2Proof/Machine/Dispatch.lean ====
section
/-! DEFINITION. The dispatch of the commands: one arm per constructor of `Instr`, each one call of its meaning. -/

namespace Sys2Proof.Machine

/-- The effect of a command on everything but the queue of commands. -/
def exec (i : Instr) (s : State) : Host.Outcome State Fault Refusal :=
  match i with
  | .route => Sys2Proof.Machine.execRoute s
  | .routeWalk => Sys2Proof.Machine.execRouteWalk s
  | .routeReports => Sys2Proof.Machine.execRouteReports s
  | .confirm => Sys2Proof.Machine.execConfirm s
  | .answer => Sys2Proof.Machine.execAnswer s
  | .release => Sys2Proof.Machine.execRelease s
  | .crankback => Sys2Proof.Machine.execCrankback s
  | .queryCall => Sys2Proof.Machine.execQueryCall s
  | .setCallTimers => Sys2Proof.Machine.execSetCallTimers s
  | .loadDestinations => Sys2Proof.Machine.execLoadDestinations s
  | .loadRouteLists => Sys2Proof.Machine.execLoadRouteLists s
  | .setBandMap => Sys2Proof.Machine.execSetBandMap s
  | .setHolidays => Sys2Proof.Machine.execSetHolidays s
  | .bankLoadHead => Sys2Proof.Machine.execBankLoadHead s
  | .switchPlan => Sys2Proof.Machine.execSwitchPlan s
  | .setGroup => Sys2Proof.Machine.execSetGroup s
  | .blockCircuits => Sys2Proof.Machine.execBlockCircuits s
  | .unblockCircuits => Sys2Proof.Machine.execUnblockCircuits s
  | .setSupervision => Sys2Proof.Machine.execSetSupervision s
  | .setGap => Sys2Proof.Machine.execSetGap s
  | .clearGap => Sys2Proof.Machine.execClearGap s
  | .setCalendar => Sys2Proof.Machine.execSetCalendar s
  | .alignMinute => Sys2Proof.Machine.execAlignMinute s
  | .setCarrier => Sys2Proof.Machine.execSetCarrier s
  | .loadTariff => Sys2Proof.Machine.execLoadTariff s
  | .tariffActivation carrier direction => Sys2Proof.Machine.execTariffActivation carrier direction s
  | .cancelTariff => Sys2Proof.Machine.execCancelTariff s
  | .closePeriod => Sys2Proof.Machine.execClosePeriod s
  | .frameSlot present => Sys2Proof.Machine.execFrameSlot present s
  | .referenceLoss => Sys2Proof.Machine.execReferenceLoss s
  | .referenceLock => Sys2Proof.Machine.execReferenceLock s
  | .tickAdvance => Sys2Proof.Machine.execTickAdvance s
  | .tenthAdvance => Sys2Proof.Machine.execTenthAdvance s
  | .periodEnd => Sys2Proof.Machine.execPeriodEnd s
  | .gapEntryLapse code => Sys2Proof.Machine.execGapEntryLapse code s
  | .confirmationExpiry index => Sys2Proof.Machine.execConfirmationExpiry index s
  | .longCallMark index => Sys2Proof.Machine.execLongCallMark index s
  | .scanTimerExpiry => Sys2Proof.Machine.execScanTimerExpiry s
  | .memoryBurstDone reply => Sys2Proof.Machine.execMemoryBurstDone reply s
  | .runOne => Sys2Proof.Machine.execRunOne s
  | .runZero => Sys2Proof.Machine.execRunZero s
  | .softReset => Sys2Proof.Machine.execSoftReset s
  | .attnMode pulse => Sys2Proof.Machine.execAttnMode pulse s
  | .scanInterval units => Sys2Proof.Machine.execScanInterval units s
  | .burstSize code => Sys2Proof.Machine.execBurstSize code s
  | .areaBase value => Sys2Proof.Machine.execAreaBase value s
  | .areaSize value => Sys2Proof.Machine.execAreaSize value s
  | .nudge value => Sys2Proof.Machine.execNudge value s
  | .attention value => Sys2Proof.Machine.execAttention value s
  | .registerWriteIgnored reg value => Sys2Proof.Machine.execRegisterWriteIgnored reg value s
  | .attnPulseEnd => Sys2Proof.Machine.execAttnPulseEnd s
  | .powerOn => Sys2Proof.Machine.execPowerOn s
  | .resetLineAsserted => Sys2Proof.Machine.execResetLineAsserted s
  | .resetLineReleased => Sys2Proof.Machine.execResetLineReleased s
  | .resetEnd => Sys2Proof.Machine.execResetEnd s
  | .backupTenthAdvance => Sys2Proof.Machine.execBackupTenthAdvance s
  | .mainSupplyLoss => Sys2Proof.Machine.execMainSupplyLoss s
  | .backupSupplyFailure => Sys2Proof.Machine.execBackupSupplyFailure s

end Sys2Proof.Machine
end

