-- ==== Sys2Proof/Safety.lean ====
section
/-! DEFINITION. What the claims say of a machine: the invariants that every step keeps, and the names that the statements
share. -/

namespace Sys2Proof

/-! ### Commands and kinds -/

/-- The commands among whose effects is a new value of the tick counter: its advance, and the resets (R100, R115). -/
def Instr.movesTick : Instr → Bool
  | .tickAdvance | .frameSlot _ | .powerOn | .softReset | .resetLineAsserted | .resetLineReleased | .resetEnd
  | .mainSupplyLoss => true
  | _ => false

/-- The commands among whose effects is a new calendar: the host's two settings, the tenth advances, a cold start and the
loss of the Backup Domain (R101, R103, R105, R106, R114). -/
def Instr.movesCalendar : Instr → Bool
  | .setCalendar | .alignMinute | .tenthAdvance | .frameSlot _ | .powerOn | .backupTenthAdvance
  | .backupSupplyFailure => true
  | _ => false

/-- The command completes or fails a burst. -/
def Instr.isBurst : Instr → Bool
  | .memoryBurstDone _ => true
  | _ => false

end Sys2Proof

namespace Sys2Proof.Machine

/-- The command by which a request of a kind is served. -/
def Kind.command : Kind → Instr
  | .route => .route
  | .confirm => .confirm
  | .answer => .answer
  | .release => .release
  | .crankback => .crankback
  | .queryCall => .queryCall
  | .setCallTimers => .setCallTimers
  | .loadDestinations => .loadDestinations
  | .loadRouteLists => .loadRouteLists
  | .setBandMap => .setBandMap
  | .setHolidays => .setHolidays
  | .switchPlan => .switchPlan
  | .setGroup => .setGroup
  | .blockCircuits => .blockCircuits
  | .unblockCircuits => .unblockCircuits
  | .setSupervision => .setSupervision
  | .setGap => .setGap
  | .clearGap => .clearGap
  | .setCalendar => .setCalendar
  | .alignMinute => .alignMinute
  | .setCarrier => .setCarrier
  | .loadTariff => .loadTariff
  | .cancelTariff => .cancelTariff
  | .closePeriod => .closePeriod

/-! ### Invariants -/

/-- Every sparse table and the record of stored bytes have their canonical form, so that equal machines are equal data. -/
def State.Canonical (s : State) : Prop :=
  Memory.wf s.mem = true ∧ Table.canonical s.groups Group.unconfigured = true ∧
  Table.canonical s.contexts.table Context.reset = true ∧ Table.canonical s.carriers Carrier.reset = true ∧
  Table.canonical s.backup.settlements Settlement.zero = true ∧
  ∀ k, Table.canonical (s.bank k).lists [] = true ∧ Table.canonical (s.bank k).bandMap 0 = true

/-- The register window holds only values that R168 to R171 let it hold: the base a multiple of 4,096, k in 6..12, the scan
interval in 1..32, the burst size in 0..3, RUN 1 exactly while RUNNING, and in LATCHED mode the line asserted exactly while
a bit of ATTENTION is set. -/
def Regs.Legal (r : Regs) : Prop :=
  r.base.toNat % 4096 = 0 ∧ 6 ≤ r.sizeExp ∧ r.sizeExp ≤ 12 ∧ 1 ≤ r.interval ∧ r.interval ≤ 32 ∧ r.burst ≤ 3 ∧
  (r.run = true ↔ r.engine = .running) ∧ (r.pulse = false → r.attnLine = r.anyAttention)

/-- At most 64 requests are in hand, no two of the same slot (R157). -/
def Intake.Bounded (k : Intake) : Prop := k.inHand.length ≤ 64 ∧ (k.inHand.map Entry.slot).Nodup

/-- A group's record lies in the ranges of R23 and R42, and F does not exceed A. The range of busy follows from
`State.Conserved`. -/
def Group.Legal (r : Group) : Prop :=
  r.size ≤ 4095 ∧ r.blocked ≤ r.size ∧ r.owner ≤ 255 ∧ r.reservation ≤ 255 ∧ 1 ≤ r.watchOn ∧ r.watchOn ≤ 1000 ∧
  r.clearBelow ≤ r.watchOn ∧ 1 ≤ r.congestOn ∧ r.congestOn ≤ 1000 ∧ r.occupancy ≤ 1000 ∧ r.refusals ≤ r.attempts ∧ r.attempts ≤ top32 ∧
  r.heldF ≤ r.heldA ∧ r.heldA ≤ top32 ∧ r.calm ≤ 1

/-- A gap entry lies in the ranges of R50; an AUTOMATIC entry has a lifetime left, or is due for removal (R52). -/
def GapEntry.Legal (e : GapEntry) : Prop :=
  1 ≤ e.interval ∧ e.interval ≤ 600 ∧ e.lifetime ≤ 36000 ∧ e.admitted ≤ top32 ∧ e.rejected ≤ top32 ∧
  (e.origin = .automatic → 0 < e.lifetime ∨ e.lapsed = true)

/-- The Supervision Unit's parameters lie in the ranges of R39, and its gap table holds at most 256 entries, no two of the
same code (R50). -/
def Supervision.Legal (u : Supervision) : Prop :=
  1 ≤ u.period ∧ u.period ≤ 60 ∧ u.threshold ≤ 15 ∧ 1 ≤ u.interval ∧ u.interval ≤ 600 ∧ u.gaps.length ≤ 256 ∧
  (u.gaps.map GapEntry.code).Nodup ∧ ∀ e ∈ u.gaps, e.Legal

/-- The calendar fields lie in the ranges of R101. -/
def Calendar.Legal (c : Calendar) : Prop :=
  c.year ≤ 99 ∧ 1 ≤ c.month ∧ c.month ≤ 12 ∧ 1 ≤ c.day ∧ c.day ≤ 31 ∧ c.weekday ≤ 6 ∧ c.hour ≤ 23 ∧ c.minute ≤ 59 ∧
  c.second ≤ 59 ∧ c.tenth ≤ 9

/-- A carrier's sums lie in the ranges of R145. -/
def Sums.Legal (u : Sums) : Prop :=
  u.receivable ≤ top48 ∧ u.payable ≤ top48 ∧ u.inCount ≤ top32 ∧ u.outCount ≤ top32 ∧ u.unsettled ≤ 65535

/-- The Backup Domain lists each carrier once and every carrier's sums lie in their ranges (R145), a full close record does so
too (R152), and the epoch is 1..255 (R174). -/
def Backup.Legal (b : Backup) : Prop :=
  Table.rising b.settlements = true ∧ (∀ k, (Table.read b.settlements Settlement.zero k).sums.Legal) ∧
  (∀ r, b.closeRecord = some r → (r.taken.map Prod.fst).Nodup ∧ ∀ e ∈ r.taken, e.2.Legal) ∧
  1 ≤ b.epoch ∧ b.epoch ≤ 255

/-- A live context whose call holds a seizure that `p` selects. -/
def CallState.holds (p : Call → Bool) (c : CallState) : Bool :=
  c.live && c.call?.any p

/-- A PROVISIONAL context routed under bank `k`. -/
def CallState.provisionalIn (k : Bank) : CallState → Bool
  | .provisional call _ => decide (call.bank = k)
  | _ => false

/-- An EXPIRED context. -/
def CallState.isExpired : CallState → Bool
  | .expired _ _ => true
  | _ => false

/-- How many contexts are in a state that `p` selects; `p` selects no FREE one. -/
def contextsIn (s : State) (p : CallState → Bool) : Nat := (s.contexts.table.filter (fun e => p e.2.state)).length

/-- The live contexts whose current group is `g`. -/
def seizuresOn (s : State) (g : Nat) : Nat := contextsIn s (CallState.holds (fun call => decide (call.group = g)))

/-- The live contexts seized on groups that carrier `c` owns. -/
def seizuresOf (s : State) (c : Nat) : Nat := contextsIn s (CallState.holds (fun call => decide (callOwner s call = c)))

/-- Every seizure is counted where the manual counts it: a group's busy count is the number of live contexts on it (R30), a
carrier's open-handover count that of the live contexts on its groups (R29), a bank's provisional count that of its
PROVISIONAL contexts (R8), and the expired list holds exactly the EXPIRED contexts, each once (R91). The contexts are those of
indices 0..16,383 (R80). The open-handover count outlives a loss of main supply, so its clause is about a part that has it. -/
def State.Conserved (s : State) : Prop :=
  Table.rising s.contexts.table = true ∧ (∀ e ∈ s.contexts.table, e.1 < 16384) ∧
  Table.rising s.backup.settlements = true ∧
  (∀ g, (s.group g).busy = seizuresOn s g) ∧
  (s.power.main = true → ∀ c, c ≠ 0 → s.openHandovers c = seizuresOf s c) ∧
  (∀ k, (s.bank k).provisional = contextsIn s (CallState.provisionalIn k)) ∧
  s.contexts.expired.Nodup ∧ (∀ i, i ∈ s.contexts.expired ↔ (s.context i).state.isExpired = true)

/-- A code of a destination or of a gap entry: 1..12 digits, each 0..9 (R4, R50). -/
def CodeLegal (code : List Nat) : Prop := 1 ≤ code.length ∧ code.length ≤ 12 ∧ ∀ d ∈ code, d ≤ 9

/-- A destination entry lies in the ranges of R4. -/
def Dest.Legal (e : Dest) : Prop :=
  CodeLegal e.code ∧ e.routeList ≤ 2047 ∧ e.exhaust ≤ 15 ∧ ∀ g, e.retained = some g → g ≤ 1023

/-- A route list is one that R6 allows: 1..8 steps, no group twice, a DIRECT step only as step 1, the POOL steps in one run. -/
def RouteListLegal (steps : List RouteStep) : Prop :=
  1 ≤ steps.length ∧ steps.length ≤ 8 ∧ (steps.map RouteStep.group).Nodup ∧ (∀ x ∈ steps, x.group ≤ 1023) ∧
  (∀ x ∈ steps.tail, x.kind ≠ .direct) ∧
  ∃ pre pool post, steps = pre ++ pool ++ post ∧ (∀ x ∈ pre, x.kind ≠ .pool) ∧ (∀ x ∈ pool, x.kind = .pool) ∧
    ∀ x ∈ post, x.kind ≠ .pool

/-- A bank holds what R4, R6 and R7 let it hold: at most 8,192 destinations, no two of one code, legal route lists, bands
0..7 in the 144 cells, and at most 32 month-days in ascending order. -/
def BankData.Legal (b : BankData) : Prop :=
  b.dests.length ≤ 8192 ∧ (b.dests.map Dest.code).Nodup ∧ (∀ e ∈ b.dests, e.Legal) ∧
  (∀ e ∈ b.lists, e.1 ≤ 2047 ∧ RouteListLegal e.2) ∧ (∀ e ∈ b.bandMap, 1 ≤ e.1 ∧ e.1 ≤ 144 ∧ e.2 ≤ 7) ∧
  b.holidays.length ≤ 32 ∧ (∀ h ∈ b.holidays, 1 ≤ h.1 ∧ h.1 ≤ 12 ∧ 1 ≤ h.2 ∧ h.2 ≤ 31) ∧
  b.holidays.Pairwise (fun h k => h.1 < k.1 ∨ (h.1 = k.1 ∧ h.2 < k.2))

/-- What a call holds lies in the ranges of R80, and its attempt history is of 1..4 distinct groups with the current group
last (R77). -/
def Call.Legal (c : Call) : Prop :=
  c.dest ≤ 8191 ∧ c.origin ≤ 255 ∧ c.group ≤ 1023 ∧ 1 ≤ c.step ∧ c.step ≤ 8 ∧ c.alternate = decide (c.kind ≠ .direct) ∧
  1 ≤ c.history.length ∧ c.history.length ≤ 4 ∧ c.history.Nodup ∧ c.history.getLast? = some c.group

/-- An answered record holds 1..6 segments, the first at the answer tick, their starts ascending within 864,000 ticks of it
(R80, R94, R96). While LONG is clear, at most 864,000 ticks have passed and no segment starts after now. -/
def Answered.Legal (now : Tick) (a : Answered) : Prop :=
  1 ≤ a.segments.length ∧ a.segments.length ≤ 6 ∧ a.segments.head?.map Segment.start = some a.tick ∧
  a.segments.Pairwise (fun g h => (g.start - a.tick).toNat < (h.start - a.tick).toNat) ∧
  (∀ g ∈ a.segments, (g.start - a.tick).toNat < 864000) ∧
  (a.long = false → (now - a.tick).toNat ≤ 864000 ∧ ∀ g ∈ a.segments, (g.start - a.tick).toNat ≤ (now - a.tick).toNat)

/-- The Plan Store's banks and the calls are legal: every bank is, a SET HOLIDAYS that waits names at most 32 entries (R15),
every context's generation is 1..255 (R80), and every call and answered record that a context holds is legal. A part in a
reset or without supply holds no call (R81). The code of every gap entry, and of every one that a walk's report is to install,
is of 1..12 digits (R50, R70). -/
def State.CallsLegal (s : State) : Prop :=
  (∀ k, (s.bank k).Legal) ∧ (∀ l ∈ s.plan.queue, l.kind = .holidays → l.count ≤ 32) ∧
  (s.up = false → s.contexts.table = []) ∧
  (∀ i, 1 ≤ (s.context i).generation ∧ (s.context i).generation ≤ 255) ∧
  (∀ i call, (s.context i).state.call? = some call → call.Legal) ∧
  (∀ i call a, (s.context i).state = .answered call a → a.Legal s.now) ∧
  (∀ e ∈ s.supervision.gaps, CodeLegal e.code) ∧
  (∀ job renew code answer, s.routeJob = some job → job.stage = .walked renew (some code) answer → CodeLegal code)

/-- A band record lies in the ranges of R121. -/
def BandRecord.Legal (r : BandRecord) : Prop :=
  r.setup ≤ 9999999 ∧ r.rate ≤ 999999 ∧ r.minimum ≤ 9999999 ∧ 1 ≤ r.initial ∧ r.initial ≤ 3600 ∧ 1 ≤ r.subsequent ∧
  r.subsequent ≤ 600 ∧ r.surcharge ≤ 500

/-- A tariff set of carrier `k`: `k` is 1..255 and the set holds eight band records, each in its ranges (R117, R121). -/
def SetLegal (k : Nat) (set : List BandRecord) : Prop := 1 ≤ k ∧ k ≤ 255 ∧ set.length = 8 ∧ ∀ r ∈ set, r.Legal

/-- Every active and every pending set is legal, and a LOAD TARIFF at work names a carrier (R117, R121, R122). -/
def State.TariffsLegal (s : State) : Prop :=
  (∀ k d set, ((s.carrier k).tariffs d).active = some set → SetLegal k set) ∧
  (∀ k d p, ((s.carrier k).tariffs d).pending = some p → SetLegal k p.records) ∧
  (∀ slot req, s.carrierJob = some (.tariff slot req) → byteAt req 8 ≠ 0)
/-! ### Matching codes (R5, R51) -/

/-- `x` is the item of `xs` whose code is the longest of those that the digits begin with. -/
def IsLongestMatch {α : Type} (code : α → List Nat) (digits : List Nat) (xs : List α) (x : α) : Prop :=
  x ∈ xs ∧ code x <+: digits ∧ ∀ y ∈ xs, code y <+: digits → (code y).length ≤ (code x).length

/-- No item's code is one that the digits begin with. -/
def NoMatch {α : Type} (code : α → List Nat) (digits : List Nat) (xs : List α) : Prop :=
  ∀ y ∈ xs, ¬ code y <+: digits

/-! ### What the statements share -/

/-- The commands, carried out one after another from `s`, lead to `v`. -/
def Runs : List Instr → State → State → Prop
  | [], s, v => v = s
  | c :: cs, s, v => ∃ t, exec c s = .next t ∧ Runs cs t v

/-- Two groups' records agree in all but what a seizure request counts: busy, A and F. -/
def Group.SameButCounts (r q : Group) : Prop :=
  { r with busy := 0, attempts := 0, refusals := 0, heldA := 0, heldF := 0 } =
    { q with busy := 0, attempts := 0, refusals := 0, heldA := 0, heldF := 0 }

/-- Two carriers' records agree in all but the ceiling-refusal count. -/
def Carrier.SameButRefusals (r q : Carrier) : Prop := { r with refusals := 0 } = { q with refusals := 0 }

/-- Nothing has changed but what a seizure request counts, plans, contexts and the Route Selector's ROUTE: every group keeps
its configuration and state, every carrier its ceiling and sets, and the Backup Domain all but open-handover counts. -/
def SameOutsideWalk (s u : State) : Prop :=
  u.supervision = s.supervision ∧ u.clock = s.clock ∧ u.carrierJob = s.carrierJob ∧ u.intake = s.intake ∧
  u.mirror = s.mirror ∧ u.port = s.port ∧ u.regs = s.regs ∧ u.power = s.power ∧ u.mem = s.mem ∧
  u.failures = s.failures ∧ u.pending = s.pending ∧ (∀ g, (u.group g).SameButCounts (s.group g)) ∧
  (∀ k, (u.carrier k).SameButRefusals (s.carrier k)) ∧
  u.backup = { s.backup with settlements := u.backup.settlements } ∧
  (∀ k, (u.settlement k).sums = (s.settlement k).sums)

/-- The walk takes context `i` and leaves `left` as the expired list: the lowest FREE context, or with none FREE the head of
the expired list (R63, R64). -/
def Allocates (s : State) (i : Nat) (left : List Nat) : Prop :=
  (i < 16384 ∧ (s.context i).state = .free ∧ (∀ j < i, (s.context j).state ≠ .free) ∧ left = s.contexts.expired) ∨
  ((∀ j < 16384, (s.context j).state ≠ .free) ∧ s.contexts.expired = i :: left ∧ i ∉ left)

/-- The handle of a call-handle request names context `i`, which holds `c` (R82). -/
def Names (s : State) (req : List Byte) (i : Nat) (c : Context) : Prop :=
  (handleOf req).epoch = s.backup.epoch ∧ (handleOf req).index = i ∧ i < 16384 ∧
  (handleOf req).generation = c.generation ∧ s.context i = c

/-- Every context but `i` is as it was, and so are the Context Table's list and timers. -/
def SameOtherContexts (s u : State) (i : Nat) : Prop :=
  (∀ j, j ≠ i → u.context j = s.context j) ∧ u.contexts = { s.contexts with table := u.contexts.table }

/-- The seizure on group `g` has been returned and nothing else of the groups and carriers has changed (R30). -/
def SeizureReturned (s u : State) (g : Nat) : Prop :=
  u.group g = { s.group g with busy := (s.group g).busy - 1 } ∧ (∀ h, h ≠ g → u.group h = s.group h) ∧
  (∀ k, u.openHandovers k = s.openHandovers k - (if k = (s.group g).owner ∧ k ≠ 0 then 1 else 0))

/-! ### Bands, boundary events and the compare (R86, R93 to R96, R107, R111, R112) -/

/-- The rate of carrier `k` in a direction for the current band, 0 where there is no carrier or no active set (R86). -/
def rateInForce (s : State) (k : Nat) (d : Direction) : Nat :=
  if k = 0 then 0 else ((s.bandRecord k d s.clock.band).map BandRecord.rate).getD 0

/-- A boundary event has been taken: an ANSWERED call of fewer than 864,000 ticks that it reaches has, with the rates and band
now in force, its last segment replaced when it started now, a new segment when it has fewer than six, or else MERGED set;
every other context is as it was (R93 to R96). -/
def TakesBoundary (s u : State) (reaches : Call → Prop) : Prop :=
  (∀ i call a last, (s.context i).state = .answered call a → a.segments.getLast? = some last →
    reaches call → a.long = false → (s.now - a.tick).toNat < 864000 →
    u.context i =
      { generation := (s.context i).generation,
        state := .answered call
          (let g : Segment := { start := s.now, band := u.clock.band,
                                inRate := rateInForce u call.origin .inbound,
                                outRate := rateInForce u (s.group call.group).owner .outbound }
           if last.start = s.now then { a with segments := a.segments.dropLast ++ [g] }
           else if a.segments.length < 6 then { a with segments := a.segments ++ [g] }
           else { a with merged := true }) }) ∧
  (∀ i, (∀ call a, (s.context i).state = .answered call a →
      ¬ reaches call ∨ a.long = true ∨ 864000 ≤ (s.now - a.tick).toNat) → u.context i = s.context i) ∧
  u.contexts = { s.contexts with table := u.contexts.table }

/-- The band has been evaluated: the cell of the active bank's map for the calendar's day class and half-hour, 0 while the
clock is UNSET, is the current band, and a change of band is one boundary event to every call (R7, R107, R108). -/
def BandEvaluated (s u : State) : Prop :=
  let c := u.backup.calendar
  let d := u.bank u.plan.active
  u.clock.band =
    (if u.backup.clockSet then
      Table.read d.bandMap 0
        (2 * c.hour + (if 30 ≤ c.minute then 1 else 0) +
          (if (c.month, c.day) ∈ d.holidays ∨ c.weekday = 6 then 97 else if c.weekday = 5 then 49 else 1))
    else 0) ∧
  (u.clock.band = s.clock.band → u.contexts = s.contexts) ∧
  (u.clock.band ≠ s.clock.band → TakesBoundary s u (fun _ => True))

/-- The six fields of an effective time, in the order of the comparison (R111). -/
def EffectiveTime.fields (t : EffectiveTime) : List Nat := [t.year, t.month, t.day, t.hour, t.minute, t.second]

/-- The six fields of the calendar that the comparison reads (R111). -/
def Calendar.fields (c : Calendar) : List Nat := [c.year, c.month, c.day, c.hour, c.minute, c.second]

/-- The compare has been made: every pending set whose effective time is not after the calendar is handed over, and nothing
else of the carriers has changed (R111, R112). -/
def Compared (s u : State) : Prop :=
  ∀ k d, (u.carrier k).ceiling = (s.carrier k).ceiling ∧ (u.carrier k).refusals = (s.carrier k).refusals ∧
    ((u.carrier k).tariffs d).active = ((s.carrier k).tariffs d).active ∧
    ((u.carrier k).tariffs d).pending = ((s.carrier k).tariffs d).pending.map
      (fun p => if p.time.fields ≤ u.backup.calendar.fields then { p with handed := true } else p)

/-- The calendar has been set or aligned: it holds `cal` and the clock is SET, the calendar divider is 0, the band is
evaluated and the compare made, and nothing else has changed (R105, R106). -/
def CalendarMoved (s u : State) (cal : Calendar) : Prop :=
  u.backup = { s.backup with calendar := cal, clockSet := true } ∧
  u.clock = { s.clock with calDivider := 0, band := u.clock.band } ∧ BandEvaluated s u ∧ Compared s u ∧
  u = ((((s.setBackup u.backup).setClock u.clock).setContexts u.contexts).setCarriers u.carriers)

/-- The tenths of a second since midnight. -/
def Calendar.tenths (c : Calendar) : Nat := ((c.hour * 60 + c.minute) * 60 + c.second) * 10 + c.tenth

/-- An activation of carrier `k`'s set in a direction has been taken: `active` is the active set and `pending` the pending
set, EVENTS is set, and the calls of that carrier and direction have taken a boundary event (R125). -/
def Activated (s u : State) (k : Nat) (d : Direction) (active : List BandRecord) (pending : Option PendingSet) : Prop :=
  u.carrier k = (s.carrier k).setTariffs d { active := some active, pending := pending } ∧
  (∀ j, j ≠ k → u.carrier j = s.carrier j) ∧ u.regs = (statusEvent s).regs ∧ u.regs.events = true ∧
  TakesBoundary s u (fun call => match d with
    | .inbound => call.origin = k
    | .outbound => (s.group call.group).owner = k) ∧
  u = ((s.setCarriers u.carriers).setRegs u.regs).setContexts u.contexts

/-! ### Bursts -/

/-- The port carries a burst of transfer `t` of requester `r`, with `ts` waiting behind it, and `reply` completes it: the
burst is the transfer's last and the reply holds the bytes it reads (R173). -/
def Completes (s : State) (r : Requester) (t : Transfer) (ts : List Transfer) (data : List Byte) : Prop :=
  s.port.serving = some r ∧ s.port.queue r = t :: ts ∧ t.burstLength = t.left ∧ data.length ≤ 128 ∧
  data.length = if t.write then 0 else t.left

/-- The machine once the last burst of transfer `t` of requester `r` is done, before the requester goes on: what the burst
stores is stored, and `ts` is what waits (R173). -/
def afterTransfer (r : Requester) (t : Transfer) (ts : List Transfer) (s : State) : State :=
  setTransfers r ts (storeBytes t t.left s)

/-- A write of `bytes` from an offset of the status mirror on. -/
def mirrorWrite (s : State) (p : Purpose) (offset : Nat) (bytes : List Byte) : Transfer :=
  { purpose := p, write := true, addr := s.regs.base + BitVec.ofNat 32 (4096 + 128 * 2 ^ s.regs.sizeExp + offset),
    left := bytes.length, data := bytes, burst := none }

/-! ### Passes and sweeps (R158, R159, R176) -/

/-- The write of one byte to the slot strip. -/
def stripWrite (s : State) (p : Purpose) (slot : Nat) (b : Byte) : Transfer :=
  { purpose := p, write := true, addr := s.regs.base + BitVec.ofNat 32 slot, left := 1, data := [b], burst := none }

/-- The write of an answer half to a slot body. -/
def bodyWrite (s : State) (p : Purpose) (slot : Nat) (a : List Byte) : Transfer :=
  { purpose := p, write := true, addr := s.regs.base + BitVec.ofNat 32 (4096 + 128 * slot + 64), left := a.length,
    data := a, burst := none }

/-- The read of `n` bytes from the start of a slot body. -/
def bodyRead (s : State) (p : Purpose) (slot n : Nat) : Transfer :=
  { purpose := p, write := false, addr := s.regs.base + BitVec.ofNat 32 (4096 + 128 * slot), left := n, data := [],
    burst := none }

/-- The read of the strip from a slot on, of at most `n` bytes and not past slot N - 1. -/
def stripFrom (s : State) (p : Purpose) (slot n : Nat) : Transfer :=
  { purpose := p, write := false, addr := s.regs.base + BitVec.ofNat 32 slot, left := min n (2 ^ s.regs.sizeExp - slot),
    data := [], burst := none }

/-- A pass of N slots starts at slot `r` (R159). -/
def PassStarts (v u : State) (r : Nat) : Prop :=
  u = ask .intake (stripFrom v (.strip r) r (2 ^ v.regs.sizeExp)) (v.setIntake { v.intake with
    pass := some { next := r, left := 2 ^ v.regs.sizeExp, codes := [], taking := none } })

/-- A pass has ended with its resume point at `r`: the scan timer restarts, and a rescan request is cleared and starts a new
pass there, or makes one due while a recovery is in progress (R158, R159). -/
def PassEnded (v u : State) (r : Nat) : Prop :=
  let k : Intake := { v.intake with pass := none, resume := r, timer := some v.regs.interval, rescan := false }
  (v.intake.rescan = false → u = v.setIntake k) ∧
  (v.intake.rescan = true → v.intake.recovery ≠ none → u = v.setIntake { k with passDue := true }) ∧
  (v.intake.rescan = true → v.intake.recovery = none → PassStarts (v.setIntake k) u r)

/-- The pass `p` works through strip codes, the first that of its next slot (R159). The codes before the first that is POSTED
at a slot not in hand are passed over. That slot is taken when fewer than 64 requests are in hand: it joins the list UNREAD
and TAKEN is written to its byte; with 64 in hand the pass ends there. When every code is passed over the strip is read on,
or the pass has examined N slots and ends with its resume point 0. -/
def PassGoesOn (v : State) (p : Pass) (codes : List Byte) (u : State) : Prop :=
  let place (n : Nat) : Nat := (p.next + n) % 2 ^ v.regs.sizeExp
  let takes (n : Nat) (c : Byte) : Prop := c = 1#8 ∧ ∀ e ∈ v.intake.inHand, e.slot ≠ place n
  (∀ pre c rest, codes = pre ++ c :: rest → (∀ n x, pre[n]? = some x → ¬ takes n x) → takes pre.length c →
    (v.intake.inHand.length < 64 →
      u = ask .intake (stripWrite v (.taken (place pre.length)) (place pre.length) 2#8) (v.setIntake { v.intake with
        inHand := v.intake.inHand ++ [{ slot := place pre.length, phase := .unread }]
        pass := some { next := place (pre.length + 1), left := p.left - (pre.length + 1), codes := rest,
                       taking := some (place pre.length) } })) ∧
    (64 ≤ v.intake.inHand.length → PassEnded v u (place pre.length))) ∧
  ((∀ n x, codes[n]? = some x → ¬ takes n x) →
    (codes.length < p.left →
      u = ask .intake (stripFrom v (.strip (place codes.length)) (place codes.length) (p.left - codes.length))
        (v.setIntake { v.intake with
          pass := some { p with next := place codes.length, left := p.left - codes.length, codes := [] } })) ∧
    (p.left ≤ codes.length → PassEnded v u 0))

/-- The abort sweep works through strip codes, the first that of the slot at which it stands, with no answer waiting and no
recovery in progress (R176). In RUNNING the slots before the first that is TAKEN are passed over, and that slot's request
header is read; with none TAKEN the strip is read on, or the sweep is complete and nothing is owed: the scan timer starts,
and a pass made due meanwhile with it. In DRAINING it stops between slots, still owed from the slot at which it stands, and
with a strip burst that ends then none of its codes is worked through (the model's choice, notes/assumptions/37.md). -/
def SweepGoesOn (v : State) (codes : List Byte) (u : State) : Prop :=
  let w := v.intake.sweep
  let slots := 2 ^ v.regs.sizeExp
  let done : Intake := { v.intake with
    sweep := { owed := false, next := 0, active := false, codes := [] }, timer := some v.regs.interval, rescan := false,
    passDue := false }
  (v.regs.engine = .running →
    (∀ pre rest, codes = pre ++ 2#8 :: rest → 2#8 ∉ pre →
      u = ask .intake (bodyRead v .sweepHeader (w.next + pre.length) 8)
        (v.setIntake { v.intake with sweep := { w with next := w.next + pre.length, codes := rest } })) ∧
    (2#8 ∉ codes → w.next + codes.length < slots →
      u = ask .intake (stripFrom v .sweepStrip (w.next + codes.length) slots)
        (v.setIntake { v.intake with sweep := { w with next := w.next + codes.length } })) ∧
    (2#8 ∉ codes → slots ≤ w.next + codes.length → v.intake.pass = none →
      (v.intake.rescan = false → v.intake.passDue = false → u = v.setIntake done) ∧
      (v.intake.rescan = true ∨ v.intake.passDue = true → v.intake.resume < slots →
        PassStarts (v.setIntake done) u v.intake.resume))) ∧
  (v.regs.engine = .draining →
    u = (v.setIntake { v.intake with
        sweep := if codes = [] ∧ slots ≤ w.next then { owed := false, next := 0, active := false, codes := [] }
          else { w with active := false, codes := [] } }).setRegs
      { v.regs with engine := if v.intake.inHand = [] ∧ v.mirror.marks = none then .halted else .draining })

end Sys2Proof.Machine
end

