-- ==== Sys2Proof/Certificates/Slice0/Obligations.lean ====
section
/-! DEFINITION. The statements for the provers. Each is about every state unless it says otherwise. -/

open Sys2Proof Sys2Proof.Machine

/-! ### The queue, the reset, the invariants -/

/-- The command at the front of the queue is carried out on the machine with the rest of the queue, and a machine with an
empty queue idles. The queue and the idling are the model's choice (notes/assumptions/2.md). -/
def Obligations.StepRunsFrontCommand : Prop :=
  (∀ (c : Instr) (rest : List Instr) (s : State), step (s.setPending (c :: rest)) = exec c (s.setPending rest)) ∧
  (∀ s : State, s.pending = [] → step s = .next s)

/-- Right after reset every invariant holds, and no request, transfer, call, group or carrier is present: nothing is in hand
or in the port, no owner is at work, every context is FREE, and every group and carrier stands as never configured. That the
reset is a cold power-on's is the model's choice (notes/assumptions/28.md). -/
def Obligations.ResetMeetsInvariants : Prop :=
  State.reset.Canonical ∧ State.reset.regs.Legal ∧ State.reset.intake.Bounded ∧ (∀ g, (State.reset.group g).Legal) ∧
  State.reset.supervision.Legal ∧ State.reset.backup.calendar.Legal ∧ State.reset.backup.Legal ∧
  State.reset.Conserved ∧ State.reset.CallsLegal ∧ State.reset.TariffsLegal ∧
  (State.reset.intake.inHand = [] ∧ State.reset.intake.formed = [] ∧ State.reset.intake.pass = none ∧
    State.reset.routeJob = none ∧ State.reset.carrierJob = none ∧ State.reset.plan.queue = []) ∧
  (∀ r, State.reset.port.queue r = []) ∧ State.reset.port.serving = none ∧
  (∀ i, State.reset.context i = { generation := 255, state := .free }) ∧ State.reset.contexts.expired = [] ∧
  (∀ g, State.reset.group g = Group.unconfigured) ∧
  (∀ k, State.reset.carrier k = Carrier.reset ∧ State.reset.settlement k = Settlement.zero)

/-- Every step keeps the canonical form of the tables (groups, contexts, carriers, settlements, and each bank's route lists
and band map) and of the record of stored bytes. -/
def Obligations.TablesStayCanonical : Prop :=
  ∀ s t : State, s.Canonical → step s = .next t → t.Canonical

/-- Every step keeps the register window legal: AREA BASE a multiple of 4,096, k in 6..12, the scan interval in 1..32, RUN 1
exactly while the engine is RUNNING, and the LATCHED line asserted exactly while an ATTENTION bit is set. And every step keeps
at most 64 requests in hand, no two of one slot. -/
def Obligations.RegistersAndInHandListStayLegal : Prop :=
  (∀ s t : State, s.regs.Legal → step s = .next t → t.regs.Legal) ∧
  (∀ s t : State, s.intake.Bounded → step s = .next t → t.intake.Bounded)

/-- Every step keeps every group's record in the ranges of R23 and R42: size to 4,095, blocked within size, owner to 255,
reservation to 255, watch-on 1..1000, clear-below within watch-on, congest-on 1..1000, occupancy to 1000, F within A, calm
count to 1; and, where the seizures are conserved, busy to 16,384. -/
def Obligations.GroupRecordsStayLegal : Prop :=
  (∀ s t : State, (∀ g, (s.group g).Legal) → step s = .next t → ∀ g, (t.group g).Legal) ∧
  (∀ s t : State, s.Conserved → step s = .next t → ∀ g, (t.group g).busy ≤ 16384)

/-- Every step keeps the supervision parameters and the gap table legal (at most 256 entries, no two of one code, every
AUTOMATIC entry with a lifetime left or due for removal), the calendar fields in their ranges, every carrier's sums, a full
close record and the epoch in theirs, and every active and pending tariff set one of carrier 1..255 with eight band records in
the ranges of R121. -/
def Obligations.SupervisionCalendarSumsAndSetsStayLegal : Prop :=
  (∀ s t : State, s.supervision.Legal → step s = .next t → t.supervision.Legal) ∧
  (∀ s t : State, s.backup.calendar.Legal → step s = .next t → t.backup.calendar.Legal) ∧
  (∀ s t : State, s.backup.Legal → step s = .next t → t.backup.Legal) ∧
  (∀ s t : State, s.TariffsLegal → step s = .next t → t.TariffsLegal)

/-- Every step keeps the Plan Store's banks and the calls legal: the destinations of distinct codes and in their ranges, the
route lists as R6 gives, the band map, the holidays in order; every call in its ranges with an attempt history of 1..4 distinct
groups, the current group last; every answered call with 1..6 segments, the first at the answer tick, at strictly ascending
starts within 864,000 ticks; no call in a part that is down or in a reset; and every gap entry's code of 1..12 digits. -/
def Obligations.CallsAndPlansStayLegal : Prop :=
  ∀ s t : State, s.Conserved → s.CallsLegal → step s = .next t → t.CallsLegal

/-- Every step keeps every seizure counted: busy counts, open-handover counts, provisional counts and the expired list agree
with the contexts. -/
def Obligations.SeizuresAreConserved : Prop :=
  ∀ s t : State, s.Conserved → step s = .next t → t.Conserved

/-- Only tick advances (of their own or taken at a frame slot), resets and the loss of the main supply move the tick counter;
only SET CALENDAR, ALIGN MINUTE, tenth advances, a power-on and the loss of the Backup Domain move the calendar; nothing but a
burst stores to host memory or fails a write of it, and no command touches the queue; and a carrier's sums move only at RELEASE, CLOSE PERIOD, a burst
(a failed result block), a start (POWER_ON, RESET_LINE_ASSERTED, SOFT_RESET) and BACKUP_SUPPLY_FAILURE. -/
def Obligations.StateMovesOnlyByItsEvents : Prop :=
  ∀ (c : Instr) (s t : State), exec c s = .next t →
    (c.movesTick = false → t.clock.tick = s.clock.tick) ∧
    (c.movesCalendar = false → t.backup.calendar = s.backup.calendar) ∧
    (c.isBurst = false → t.mem = s.mem ∧ t.failures = s.failures) ∧ t.pending = s.pending ∧
    (c ≠ .release → c ≠ .closePeriod → c.isBurst = false → c ≠ .powerOn → c ≠ .resetLineAsserted → c ≠ .softReset →
      c ≠ .backupSupplyFailure → ∀ k, (t.settlement k).sums = (s.settlement k).sums)

/-- A MEMORY_BURST_DONE, GAP_ENTRY_LAPSE, CONFIRMATION_EXPIRY, LONG_CALL_MARK or TARIFF_ACTIVATION whose operand names no
beat, code, context or carrier that exists stops with a fault, and so does a reply that is not one to the burst carried;
every other command completes in every state. The faults are the model's (notes/assumptions/4.md, notes/assumptions/5.md), and
so is that a MEMORY_BURST_DONE with no burst carried changes nothing (notes/assumptions/1.md). -/
def Obligations.OnlyImpossibleOperandsStop : Prop :=
  ∀ (c : Instr) (s : State),
    (c.wellFormed = false → exec c s = .fault .illFormed) ∧
    (c.wellFormed = true → c.isBurst = false → ∃ t, exec c s = .next t) ∧
    (∀ reply, c = .memoryBurstDone reply → c.wellFormed = true →
      match carried s with
      | none => exec c s = .next s
      | some (_, t, _) => if replyFits t reply then (∃ u, exec c s = .next u) else exec c s = .fault .replyMismatch)

/-! ### Requests -/

/-- An owner that can take a request serves the first one in taking order that waits for it, and a request command that is
not the one its owner serves next changes nothing (this second clause is the model's choice, notes/assumptions/1.md). A request
of any kind with a nonzero reserved field is answered FORMAT with record number 0 and changes nothing else; the answers about a
group carry the group index besides (that a refused one does is the model's choice, notes/assumptions/31.md). The kind bytes are
those of Table 10-2 and the owners those of R160; the fields are those of Tables 10-1, 10-4 and 10-13, every other byte of the
request half being reserved. A request that its owner has begun stays in hand with it and is not served again. -/
def Obligations.OwnersServeAndCheckRequests : Prop :=
  (let table : List (Kind × Nat × Owner × List (Nat × Nat)) :=
    [(.route, 0x01, .routeSelector, [(8, 1), (9, 1), (16, 16)]), (.confirm, 0x02, .contextTable, [(8, 4)]),
     (.answer, 0x03, .contextTable, [(8, 4)]), (.release, 0x04, .contextTable, [(8, 4)]),
     (.crankback, 0x05, .contextTable, [(8, 4)]), (.queryCall, 0x06, .contextTable, [(8, 4)]),
     (.setCallTimers, 0x07, .contextTable, [(8, 2), (10, 2)]),
     (.loadDestinations, 0x10, .planStore, [(8, 1), (9, 1), (10, 2), (12, 4)]),
     (.loadRouteLists, 0x11, .planStore, [(8, 1), (10, 2), (12, 4)]), (.setBandMap, 0x12, .planStore, [(8, 1), (12, 4)]),
     (.setHolidays, 0x13, .planStore, [(8, 1), (10, 2), (12, 4)]), (.switchPlan, 0x14, .planStore, []),
     (.setGroup, 0x20, .groupTable, [(8, 2), (10, 1), (11, 1), (12, 2), (14, 2), (16, 2), (18, 2), (20, 2)]),
     (.blockCircuits, 0x21, .groupTable, [(8, 2), (10, 2)]), (.unblockCircuits, 0x22, .groupTable, [(8, 2), (10, 2)]),
     (.setSupervision, 0x30, .supervisionUnit, [(8, 1), (9, 1), (10, 2)]),
     (.setGap, 0x31, .supervisionUnit, [(8, 1), (10, 2), (12, 2), (16, 12)]),
     (.clearGap, 0x32, .supervisionUnit, [(8, 1), (16, 12)]), (.setCalendar, 0x40, .calendarUnit, [(8, 7)]),
     (.alignMinute, 0x41, .calendarUnit, []), (.setCarrier, 0x50, .carrierTable, [(8, 1), (9, 1), (10, 2)]),
     (.loadTariff, 0x51, .carrierTable, [(8, 1), (9, 1), (10, 1), (12, 4), (16, 6)]),
     (.cancelTariff, 0x52, .carrierTable, [(8, 1), (9, 1)]), (.closePeriod, 0x53, .carrierTable, [(8, 1), (9, 1), (12, 4)])]
   (∀ k : Kind, ∃ n o fields, (k, n, o, fields) ∈ table) ∧
   (∀ k n o fields, (k, n, o, fields) ∈ table → ∀ req : List Byte,
      (kindOf req = some k ↔ byteAt req 0 = n) ∧ k.owner = o ∧
      (reservedClear k req = true ↔ ∀ i < 64, i ≠ 0 → (i < 4 ∨ 8 ≤ i) → (∀ f ∈ fields, i < f.1 ∨ f.1 + f.2 ≤ i) →
        byteAt req i = 0))) ∧
  (∀ (slot : Nat) (req : List Byte) (s : State), let t := markBegun slot req s
    t = s.setIntake { s.intake with
      inHand := s.intake.inHand.map (fun e => if e.slot = slot then { e with phase := .withOwner req true } else e) } ∧
    ∀ k i r, served k t = some (i, r) → i ≠ slot) ∧
  (∀ (k : Kind) (s : State) (pre post : List Entry) (slot : Nat) (req : List Byte),
    s.up = true → ownerReady k.owner s = true →
    s.intake.inHand = pre ++ ⟨slot, .withOwner req false⟩ :: post → kindOf req = some k →
    (∀ e ∈ pre, ∀ r j, e.phase = .withOwner r false → kindOf r = some j → j.owner ≠ k.owner) →
    served k s = some (slot, req)) ∧
  (∀ (k : Kind) (s : State), served k s = none → exec k.command s = .next s) ∧
  (∀ (k : Kind) (s : State) (slot : Nat) (req : List Byte),
    served k s = some (slot, req) → reservedClear k req = false →
    exec k.command s = .next (reply slot req .format 0
      (if k = .setGroup ∨ k = .blockCircuits ∨ k = .unblockCircuits then [⟨72, 2, readLE req 8 2⟩] else []) s))

/-- A formed answer is held in its entry and takes the next place in formed order. In HALTED or FAULTED, or while another
answer is being written, nothing is asked of the Memory Port; in RUNNING or DRAINING with none waiting before it, the write
of its half is asked for at once. Nothing but the in-hand list and the port changes. What an owner answers is such an answer:
64 bytes with the code, the request's kind, the record number and the request's tag in its header, and after it each of its
fields, least significant byte first, every byte outside them zero. -/
def Obligations.FormedAnswersWaitTheirTurn : Prop :=
  (∀ (slot : Nat) (req a : List Byte) (s t : State), t = formAnswer slot req a s →
    t.intake.inHand.map Entry.slot = s.intake.inHand.map Entry.slot ∧
    (∀ e ∈ t.intake.inHand, if e.slot = slot then e.phase = .answerFormed req a else e ∈ s.intake.inHand) ∧
    t.intake.formed = s.intake.formed ++ [slot] ∧
    ((s.regs.engine = .halted ∨ s.regs.engine = .faulted ∨ s.intake.writing = true) →
      t.port = s.port ∧ t.intake.writing = s.intake.writing) ∧
    ((s.regs.engine = .running ∨ s.regs.engine = .draining) → s.intake.writing = false → s.intake.sweep.active = false →
      s.intake.formed = [] → (∃ e ∈ s.intake.inHand, e.slot = slot) →
      t.intake.writing = true ∧ t.port = (ask .intake (bodyWrite s (.answerHalf slot) slot a) s).port) ∧
    t = (s.setIntake t.intake).setPort t.port ∧
    t.intake = { s.intake with inHand := t.intake.inHand, formed := t.intake.formed, writing := t.intake.writing }) ∧
  (∀ (slot : Nat) (req : List Byte) (code : Code) (n : Nat) (fields : List Field) (s : State),
    ∃ a, reply slot req code n fields s = formAnswer slot req a s ∧ a.length = 64 ∧ byteAt a 0 = code.value ∧
      byteAt a 1 = byteAt req 0 ∧ readLE a 2 2 = n % 65536 ∧ readLE a 4 4 = readLE req 4 4 ∧
      (∀ pre f post, fields = pre ++ f :: post → 72 ≤ f.off → f.off + f.size ≤ 128 →
        (∀ h ∈ pre ++ post, h.off + h.size ≤ f.off ∨ f.off + f.size ≤ h.off) →
        readLE a (f.off - 64) f.size = f.value % 256 ^ f.size) ∧
      (∀ i, 72 ≤ i → i < 128 → (∀ f ∈ fields, i < f.off ∨ f.off + f.size ≤ i) → byteAt a (i - 64) = 0))

/-! ### Route selection -/

/-- ROUTE: a digit count outside 1..16 or a digit above 9 gives RANGE; a call that no gap entry matches goes on to its walk; the
longest matching entry admits the call when its next-admission tick is reached, moving that tick to now plus its interval and
counting the admission, and otherwise the call is answered GAPPED with the ticks left and the rejection is counted. Nothing
else changes. -/
def Obligations.GapCheckJudgesTheCall : Prop :=
  ∀ (s : State) (slot : Nat) (req : List Byte), served .route s = some (slot, req) → reservedClear .route req = true →
    ((byteAt req 8 < 1 ∨ 16 < byteAt req 8 ∨ ∃ d ∈ byteFields req 16 (byteAt req 8), 9 < d) →
      exec .route s = .next (reply slot req .range 0 [] s)) ∧
    (1 ≤ byteAt req 8 → byteAt req 8 ≤ 16 → (∀ d ∈ byteFields req 16 (byteAt req 8), d ≤ 9) →
      (s.supervision.gaps.map GapEntry.code).Nodup →
      (NoMatch GapEntry.code (dialled req) s.supervision.gaps →
        exec .route s = .next (markBegun slot req
          (s.setRouteJob (some { slot := slot, request := req, stage := .admitted none })))) ∧
      (∀ e, IsLongestMatch GapEntry.code (dialled req) s.supervision.gaps e →
        exec .route s = .next
          (if (s.now - e.nextAdmission).toNat < 2 ^ 31 then
            markBegun slot req
              ((s.setSupervision { s.supervision with
                gaps := s.supervision.gaps.map (fun x =>
                  if x.code = e.code then
                    { x with nextAdmission := s.now + BitVec.ofNat 32 x.interval, admitted := min top32 (x.admitted + 1) }
                  else x) }).setRouteJob
                (some { slot := slot, request := req, stage := .admitted (some (e.code, e.origin)) }))
          else
            reply slot req .gapped 0 [⟨72, 1, e.code.length⟩, ⟨76, 2, (e.nextAdmission - s.now).toNat⟩]
              (s.setSupervision { s.supervision with
                gaps := s.supervision.gaps.map (fun x =>
                  if x.code = e.code then { x with rejected := min top32 (x.rejected + 1) } else x) }))))

/-- A seizure request over candidates of different groups examines them up to the first admissible one and takes it, or with
none admissible all of them and takes none. A rises for the group taken and for every group refused under condition 2, 3 or 4,
F for those refused under 2 or 3, in the counts held over when the end tick is reached; a carrier's ceiling-refusal count rises
for every group of its own refused under 4; the group taken has its busy count and its owner's open-handover count raised by 1.
Counts are clamped at their top, no other group is touched, and nothing else changes. An examination tests the conditions of R27
in the order 1, 5, 2, 3, 4 and ends at the first that fails; so a grant is made only on a group with a free circuit, and only
below its owner's ceiling. -/
def Obligations.SeizureTakesFirstAdmissible : Prop :=
  (∀ (s : State) (history : List Nat) (c : Candidate),
    let r := s.group c.group
    let free := r.size - (r.busy + r.blocked)
    let inService := r.inService = true ∧ r.congestion ≠ .blocked
    let untried := c.group ∉ history
    let admits := match c.kind with
      | .direct => r.congestion = .clear ∨ r.congestion = .watch ∨ r.congestion = .congested
      | .overflow => (r.congestion = .clear ∨ r.congestion = .watch) ∧ r.reservation < free
      | .pool => (r.congestion = .clear ∨ r.congestion = .watch) ∧ r.reservation < free
    let below := r.owner = 0 ∨ (s.carrier r.owner).ceiling = 65535 ∨ s.openHandovers r.owner < (s.carrier r.owner).ceiling
    (¬ inService → examine s history c = .refused1) ∧ (inService → ¬ untried → examine s history c = .refused5) ∧
    (inService → untried → free < 1 → examine s history c = .refused2) ∧
    (inService → untried → 1 ≤ free → ¬ admits → examine s history c = .refused3) ∧
    (inService → untried → 1 ≤ free → admits → ¬ below → examine s history c = .refused4) ∧
    (inService → untried → 1 ≤ free → admits → below → examine s history c = .admissible) ∧
    (examine s history c = .admissible → r.busy + r.blocked < r.size ∧ below)) ∧
  ∀ (s : State) (history : List Nat) (pre rest : List Candidate),
    ((pre ++ rest).map Candidate.group).Nodup →
    (∀ x ∈ pre, examine s history x ≠ .admissible) → (∀ c, rest.head? = some c → examine s history c = .admissible) →
    let u := (seize history (pre ++ rest) s).2
    let counted (r : Group) (a f : Nat) : Group :=
      if (s.now - s.supervision.periodEnd).toNat < 2 ^ 31 then
        { r with heldA := min top32 (r.heldA + a), heldF := min top32 (r.heldF + f) }
      else { r with attempts := min top32 (r.attempts + a), refusals := min top32 (r.refusals + f) }
    let refused4 (k : Nat) : Nat :=
      (pre.filter (fun x => decide (examine s history x = .refused4 ∧ (s.group x.group).owner = k))).length
    (seize history (pre ++ rest) s).1 = rest.head? ∧
    (∀ x ∈ pre,
      (examine s history x = .refused1 ∨ examine s history x = .refused5 → u.group x.group = s.group x.group) ∧
      (examine s history x = .refused2 ∨ examine s history x = .refused3 →
        u.group x.group = counted (s.group x.group) 1 1) ∧
      (examine s history x = .refused4 → u.group x.group = counted (s.group x.group) 1 0)) ∧
    (∀ c, rest.head? = some c →
      u.group c.group = { counted (s.group c.group) 1 0 with busy := (s.group c.group).busy + 1 }) ∧
    (∀ g, g ∉ (pre ++ rest.take 1).map Candidate.group → u.group g = s.group g) ∧
    (∀ k, u.carrier k = if refused4 k = 0 then s.carrier k
      else { s.carrier k with refusals := min top32 ((s.carrier k).refusals + refused4 k) }) ∧
    (rest = [] → u.backup = s.backup) ∧
    (∀ c, rest.head? = some c → ∀ k,
      u.openHandovers k = s.openHandovers k + (if k = (s.group c.group).owner ∧ k ≠ 0 then 1 else 0) ∧
      (u.settlement k).sums = (s.settlement k).sums) ∧
    u = ((s.setGroups u.groups).setCarriers u.carriers).setBackup
      { s.backup with settlements := u.backup.settlements }

/-- The candidate list. The steps of a route list are numbered from 1. The ranking rate of a group is 0 for owner 0, the rate
of the current band's record in its owner's active outbound set, and 1,000,000 without one. A ROUTE's list is the steps before
the pool, then the pool, then the steps after it; a CRANKBACK's is that of the steps above the call's current step. In the pool
the retained alternate stands first, but not when the current step lies in the pool, and the others follow by rate, equal rates
by step number. -/
def Obligations.CandidatesAreOrdered : Prop :=
  (∀ steps : List RouteStep, (candidatesOf steps).length = steps.length ∧
    ∀ n x, steps[n]? = some x → (candidatesOf steps)[n]? = some ({ group := x.group, step := n + 1, kind := x.kind } : Candidate)) ∧
  (∀ (s : State) (g : Nat),
    let active := (s.carrier (s.group g).owner).outbound.active
    ((s.group g).owner = 0 → rankingRate s g = 0) ∧
    ((s.group g).owner ≠ 0 → active = none → rankingRate s g = 1000000) ∧
    (∀ set r, (s.group g).owner ≠ 0 → active = some set → set[s.clock.band]? = some r → rankingRate s g = r.rate)) ∧
  (let ordered (rate : Nat → Nat) (retained : Option Nat) (pool list : List Candidate) : Prop :=
    ∃ first others, list = first ++ others ∧ (first ++ others).Perm pool ∧
      (∀ c ∈ first, retained = some c.group) ∧ (∀ c ∈ others, retained ≠ some c.group) ∧
      others.Pairwise (fun c d => rate c.group < rate d.group ∨ (rate c.group = rate d.group ∧ c.step < d.step))
   (∀ (rate : Nat → Nat) (retained : Option Nat) (steps : List RouteStep) (pre pool post : List Candidate),
    candidatesOf steps = pre ++ pool ++ post → (∀ c ∈ pre, c.kind ≠ .pool) → (∀ c ∈ pool, c.kind = .pool) →
    (∀ c ∈ post, c.kind ≠ .pool) →
    ∃ list, ordered rate retained pool list ∧ arrange rate retained (candidatesOf steps) = pre ++ list ++ post) ∧
   (∀ (s : State) (call : Call) (e : Dest) (pre pool post : List Candidate),
    let later (c : Candidate) : Bool := decide (call.step < c.step)
    (s.bank call.bank).dests[call.dest]? = some e →
    candidatesOf ((s.bank call.bank).routeList e.routeList) = pre ++ pool ++ post → (∀ c ∈ pre, c.kind ≠ .pool) →
    (∀ c ∈ pool, c.kind = .pool) → (∀ c ∈ post, c.kind ≠ .pool) →
    ∃ list, ordered (rankingRate s) (if call.kind = .pool then none else e.retained) (pool.filter later) list ∧
      resumedCandidates s call = pre.filter later ++ list ++ post.filter later))

/-- ROUTE_WALK on an admitted ROUTE whose longest matching destination has a route list and whose candidates include an
admissible one: the context taken becomes PROVISIONAL on the first admissible candidate with its generation advanced, the
group's busy count, the owner's open-handover count and the active bank's provisional count rise by 1, the exhaust count
becomes 0, and OK is answered. The candidate list is ordered as CandidatesAreOrdered states, and its examinations are counted
as SeizureTakesFirstAdmissible states. -/
def Obligations.WalkGrantsFirstAdmissible : Prop :=
  ∀ (s : State) (slot : Nat) (req : List Byte) (through : Option (List Nat × GapOrigin)) (e : Dest) (d i : Nat)
    (left : List Nat) (pre post : List Candidate) (c : Candidate),
    let b := s.bank s.plan.active
    s.up = true → s.routeJob = some { slot := slot, request := req, stage := .admitted through } →
    (b.dests.map Dest.code).Nodup → b.dests[d]? = some e → IsLongestMatch Dest.code ((dialled req).take 12) b.dests e →
    b.routeList e.routeList ≠ [] → Allocates s i left →
    arrange (rankingRate s) e.retained (candidatesOf (b.routeList e.routeList)) = pre ++ c :: post →
    (∀ x ∈ pre, examine s [] x ≠ .admissible) → examine s [] c = .admissible →
    let generation := if (s.context i).generation = 255 then 1 else (s.context i).generation + 1
    let alternate := decide (c.kind ≠ .direct)
    ∃ u, exec .routeWalk s = .next (reply slot req .ok 0
        [⟨72, 4, s.backup.epoch + 256 * generation + 65536 * i⟩, ⟨76, 2, c.group⟩, ⟨78, 1, c.step⟩, ⟨79, 1, c.kind.code⟩,
         ⟨80, 1, if c.kind = .direct then 0 else 1⟩, ⟨81, 1, 1⟩] u) ∧
      u.routeJob = none ∧
      u.context i =
        { generation := generation,
          state := .provisional
            { bank := s.plan.active, dest := d, origin := byteAt req 9, group := c.group, step := c.step, kind := c.kind,
              alternate := alternate, history := [c.group], grantTick := s.now }
            (s.now + BitVec.ofNat 32 s.contexts.window) } ∧
      (∀ j, j ≠ i → u.context j = s.context j) ∧
      u.contexts = { s.contexts with table := u.contexts.table, expired := left } ∧
      (let v := (seize [] (pre ++ c :: post) s).2
       u.groups = v.groups ∧ u.carriers = v.carriers ∧ u.backup = v.backup) ∧
      (u.group c.group).busy = (s.group c.group).busy + 1 ∧ (∀ g, g ≠ c.group → (u.group g).busy = (s.group g).busy) ∧
      (∀ k, u.openHandovers k = s.openHandovers k + (if k = (s.group c.group).owner ∧ k ≠ 0 then 1 else 0)) ∧
      u.plan = s.plan.setBank s.plan.active
        { b with provisional := b.provisional + 1, dests := b.dests.set d { e with exhaust := 0 } } ∧
      SameOutsideWalk s u

/-- ROUTE_WALK with no admissible candidate: the context taken is FREE again with its generation advanced, the exhaust count
rises by 1 up to 15, no seizure is taken, and ALL_BUSY is answered at once, or after the reports when the call came through
an AUTOMATIC gap entry or the rise reached a nonzero automatic-gap threshold. The examinations are counted as
SeizureTakesFirstAdmissible states. That an ALL_BUSY without reports is answered in the walk's own event is deduced
(notes/assumptions/30.md). -/
def Obligations.RefusedWalkCountsExhaustion : Prop :=
  ∀ (s : State) (slot : Nat) (req : List Byte) (through : Option (List Nat × GapOrigin)) (e : Dest) (d i : Nat)
    (left : List Nat),
    let b := s.bank s.plan.active
    s.up = true → s.routeJob = some { slot := slot, request := req, stage := .admitted through } →
    (b.dests.map Dest.code).Nodup → b.dests[d]? = some e → IsLongestMatch Dest.code ((dialled req).take 12) b.dests e →
    b.routeList e.routeList ≠ [] → Allocates s i left →
    (∀ x ∈ arrange (rankingRate s) e.retained (candidatesOf (b.routeList e.routeList)), examine s [] x ≠ .admissible) →
    let exhaust := min 15 (e.exhaust + 1)
    let renew := through.bind (fun p => if p.2 = .automatic then some p.1 else none)
    let install := if e.exhaust < 15 ∧ exhaust = s.supervision.threshold ∧ s.supervision.threshold ≠ 0 then some e.code
      else none
    let answer := answerHalf .allBusy req 0 [⟨72, 1, exhaust⟩]
    ∃ u, exec .routeWalk s =
        .next (if renew = none ∧ install = none then formAnswer slot req answer u
          else u.setRouteJob (some { slot := slot, request := req, stage := .walked renew install answer })) ∧
      u.routeJob = (if renew = none ∧ install = none then none else s.routeJob) ∧
      u.context i =
        { generation := if (s.context i).generation = 255 then 1 else (s.context i).generation + 1, state := .free } ∧
      (∀ j, j ≠ i → u.context j = s.context j) ∧
      u.contexts = { s.contexts with table := u.contexts.table, expired := left } ∧
      (let v := (seize [] (arrange (rankingRate s) e.retained (candidatesOf (b.routeList e.routeList))) s).2
       u.groups = v.groups ∧ u.carriers = v.carriers) ∧
      (∀ g, (u.group g).busy = (s.group g).busy) ∧ (∀ k, u.openHandovers k = s.openHandovers k) ∧
      u.plan = s.plan.setBank s.plan.active { b with dests := b.dests.set d { e with exhaust := exhaust } } ∧
      SameOutsideWalk s u

/-- ROUTE_WALK without a destination, or with the longest match naming an absent route list, is answered NO_ROUTE with the
matched length; with every context live it is answered NO_CONTEXT. Nothing else changes but that the ROUTE has ended. -/
def Obligations.WalkWithoutRouteOrContext : Prop :=
  ∀ (s : State) (slot : Nat) (req : List Byte) (through : Option (List Nat × GapOrigin)),
    let b := s.bank s.plan.active
    s.up = true → s.routeJob = some { slot := slot, request := req, stage := .admitted through } →
    (b.dests.map Dest.code).Nodup →
    (NoMatch Dest.code ((dialled req).take 12) b.dests →
      exec .routeWalk s = .next (reply slot req .noRoute 0 [⟨72, 1, 0⟩] (s.setRouteJob none))) ∧
    (∀ e, IsLongestMatch Dest.code ((dialled req).take 12) b.dests e →
      (b.routeList e.routeList = [] →
        exec .routeWalk s = .next (reply slot req .noRoute 0 [⟨72, 1, e.code.length⟩] (s.setRouteJob none))) ∧
      (b.routeList e.routeList ≠ [] → (∀ j < 16384, (s.context j).state ≠ .free) → s.contexts.expired = [] →
        exec .routeWalk s = .next (reply slot req .noContext 0 [] (s.setRouteJob none))))

/-- ROUTE_REPORTS: a renewal sets an AUTOMATIC entry's lifetime to two measurement periods; an installation makes an AUTOMATIC
entry when no entry carries the code and fewer than 256 stand in the table, with a status event; then the ROUTE's answer is
formed. -/
def Obligations.ReportsRenewAndInstall : Prop :=
  ∀ (s : State) (slot : Nat) (req answer : List Byte) (renew install : Option (List Nat)),
    s.up = true → s.routeJob = some { slot := slot, request := req, stage := .walked renew install answer } →
    let life := 20 * s.supervision.period
    let renewed := s.supervision.gaps.map (fun e =>
      if renew = some e.code ∧ e.origin = .automatic then { e with lifetime := life, lapsed := false } else e)
    let installs := ∃ code, install = some code ∧ (∀ e ∈ s.supervision.gaps, e.code ≠ code) ∧ s.supervision.gaps.length < 256
    ∃ u, exec .routeReports s = .next (formAnswer slot req answer u) ∧
      (¬ installs → u = (s.setSupervision { s.supervision with gaps := renewed }).setRouteJob none) ∧
      (∀ code, install = some code → (∀ e ∈ s.supervision.gaps, e.code ≠ code) → s.supervision.gaps.length < 256 →
        u = (statusEvent (s.setSupervision { s.supervision with
          gaps := renewed ++
            [{ code := code, origin := .automatic, interval := s.supervision.interval, lifetime := life,
               nextAdmission := s.now, admitted := 0, rejected := 0, lapsed := false }] })).setRouteJob none)

/-! ### Calls -/

/-- CONFIRM on a PROVISIONAL context: it becomes CONFIRMED, its bank's provisional count falls by 1, and its group is retained
for its destination exactly when its step is POOL and the group CLEAR or WATCH; OK carries group, step and retained mark. -/
def Obligations.ConfirmKeepsTheSeizure : Prop :=
  ∀ (s : State) (slot : Nat) (req : List Byte) (i generation : Nat) (call : Call) (deadline : Tick),
    served .confirm s = some (slot, req) → reservedClear .confirm req = true →
    Names s req i { generation := generation, state := .provisional call deadline } →
    let b := s.bank call.bank
    let g := s.group call.group
    let retains := call.kind = .pool ∧ (g.congestion = .clear ∨ g.congestion = .watch)
    ∃ u, exec .confirm s = .next (reply slot req .ok 0
        [⟨72, 2, call.group⟩, ⟨74, 1, call.step⟩, ⟨75, 1, if retains then 1 else 0⟩] u) ∧
      u.context i = { generation := generation, state := .confirmed call } ∧ SameOtherContexts s u i ∧
      u.plan = s.plan.setBank call.bank
        { b with provisional := b.provisional - 1,
                 dests := if retains then b.dests.modify call.dest (fun e => { e with retained := some call.group })
                   else b.dests } ∧
      u = ((s.setContexts u.contexts).setPlan u.plan)

/-- ANSWER on a CONFIRMED context: it becomes ANSWERED at the present tick with one segment, the terms of each priced
direction from the current band's record (null terms where the carrier has no active set), TIME_UNSET when the clock is
UNSET and FREE_RUNNING unless the reference is LOCKED. Nothing else changes but the answer. -/
def Obligations.AnswerTakesTermsAndFirstSegment : Prop :=
  ∀ (s : State) (slot : Nat) (req : List Byte) (i generation : Nat) (call : Call),
    served .answer s = some (slot, req) → reservedClear .answer req = true →
    Names s req i { generation := generation, state := .confirmed call } →
    let owner := (s.group call.group).owner
    let inRecord := s.bandRecord call.origin .inbound s.clock.band
    let outRecord := s.bandRecord owner .outbound s.clock.band
    let terms (priced : Bool) (r : Option BandRecord) : Option Terms :=
      if priced then
        some { setup := (r.map BandRecord.setup).getD 0, minimum := (r.map BandRecord.minimum).getD 0,
               initial := (r.map BandRecord.initial).getD 1, subsequent := (r.map BandRecord.subsequent).getD 1,
               surcharge := (r.map BandRecord.surcharge).getD 0 }
      else none
    let inPriced := decide (call.origin ≠ 0)
    let outPriced := decide (owner ≠ 0)
    let freeRunning := decide (s.clock.reference = .freeRunning)
    exec .answer s = .next (reply slot req .ok 0
      [⟨72, 4, s.now.toNat⟩, ⟨76, 1, s.clock.band⟩, ⟨77, 1, bit inPriced + 2 * bit outPriced⟩,
       ⟨78, 1, bit (!s.backup.clockSet) + 2 * bit freeRunning⟩]
      (putContext i
        { generation := generation,
          state := .answered call
            { tick := s.now, inTerms := terms inPriced inRecord, outTerms := terms outPriced outRecord,
              segments := [{ start := s.now, band := s.clock.band,
                             inRate := if inPriced then (inRecord.map BandRecord.rate).getD 0 else 0,
                             outRate := if outPriced then (outRecord.map BandRecord.rate).getD 0 else 0 }],
              merged := false, long := false, timeUnset := !s.backup.clockSet, freeRunning := freeRunning } } s))

/-- RELEASE on a PROVISIONAL or CONFIRMED context: the seizure is returned, a PROVISIONAL call leaves its bank's provisional
count, the context is FREE, and the charge record has zero amounts with UNANSWERED set. -/
def Obligations.ReleaseOfUnansweredCall : Prop :=
  ∀ (s : State) (slot : Nat) (req : List Byte) (i generation : Nat) (state : CallState) (call : Call),
    served .release s = some (slot, req) → reservedClear .release req = true →
    Names s req i { generation := generation, state := state } →
    (state = .confirmed call ∨ ∃ deadline, state = .provisional call deadline) →
    let owner := (s.group call.group).owner
    let b := s.bank call.bank
    ∃ u, exec .release s = .next (reply slot req .ok 0
        [⟨92, 2, call.group⟩, ⟨94, 1, call.origin⟩, ⟨95, 1, owner⟩, ⟨104, 2, 4⟩] u) ∧
      u.context i = { generation := generation, state := .free } ∧ SameOtherContexts s u i ∧
      SeizureReturned s u call.group ∧ (∀ k, (u.settlement k).sums = (s.settlement k).sums) ∧
      u.plan = (if state = .confirmed call then s.plan
        else s.plan.setBank call.bank { b with provisional := b.provisional - 1 }) ∧
      u.backup = { s.backup with settlements := u.backup.settlements } ∧
      u = (((s.setContexts u.contexts).setGroups u.groups).setBackup u.backup).setPlan u.plan

/-- RELEASE on an ANSWERED context: the seizure is returned, the context is FREE, each priced direction's total is added to
the carrier's accumulator and its answered-call count rises by 1, each stopping at its top with its saturation mark set, and
the charge record carries the totals, durations, segments and flags. A status event is raised exactly when a saturation mark
goes from clear to set. -/
def Obligations.ReleasePricesAnsweredCall : Prop :=
  ∀ (s : State) (slot : Nat) (req : List Byte) (i generation : Nat) (call : Call) (a : Answered),
    served .release s = some (slot, req) → reservedClear .release req = true →
    Names s req i { generation := generation, state := .answered call a } →
    let owner := (s.group call.group).owner
    let d := if a.long then 864000 else min (s.now - a.tick).toNat 864000
    let price (t : Option Terms) (rate : Segment → Nat) : Option Price :=
      t.map (fun t => priceDirection t call.alternate d (a.segments.map (fun g => (g.start - a.tick).toNat))
        (a.segments.map rate))
    let pin := price a.inTerms Segment.inRate
    let pout := price a.outTerms Segment.outRate
    let total (p : Option Price) : Nat := (p.map (fun p => min (p.base + p.surcharge) top32)).getD 0
    let band (k : Nat) : Nat := ((a.segments[k]?).map Segment.band).getD 0
    let marked (v w : Sums) : Prop :=
      (v.satReceivable = false ∧ w.satReceivable = true) ∨ (v.satPayable = false ∧ w.satPayable = true) ∨
      (v.satInCount = false ∧ w.satInCount = true) ∨ (v.satOutCount = false ∧ w.satOutCount = true)
    ∃ u, exec .release s = .next (reply slot req .ok 0
        [⟨72, 4, total pin⟩, ⟨76, 4, total pout⟩, ⟨80, 4, d⟩, ⟨84, 4, (pin.map Price.billed).getD 0⟩,
         ⟨88, 4, (pout.map Price.billed).getD 0⟩, ⟨92, 2, call.group⟩, ⟨94, 1, call.origin⟩, ⟨95, 1, owner⟩,
         ⟨96, 1, a.segments.length⟩, ⟨97, 1, band 0⟩, ⟨98, 1, band 1⟩, ⟨99, 1, band 2⟩, ⟨100, 1, band 3⟩,
         ⟨101, 1, band 4⟩, ⟨102, 1, band 5⟩,
         ⟨104, 2, bit pin.isSome + 2 * bit pout.isSome + 8 * bit a.merged + 16 * bit a.long + 32 * bit a.timeUnset +
           64 * bit a.freeRunning +
           128 * bit (decide (0 < (pin.map Price.surcharge).getD 0 ∨ 0 < (pout.map Price.surcharge).getD 0)) +
           256 * bit (decide (top32 < (pin.map (fun p => p.base + p.surcharge)).getD 0 ∨
             top32 < (pout.map (fun p => p.base + p.surcharge)).getD 0))⟩] u) ∧
      u.context i = { generation := generation, state := .free } ∧ SameOtherContexts s u i ∧
      SeizureReturned s u call.group ∧
      (∀ k,
        let v := (s.settlement k).sums
        let w := (u.settlement k).sums
        let paysIn := k = call.origin ∧ pin.isSome = true
        let paysOut := k = owner ∧ pout.isSome = true
        w.unsettled = v.unsettled ∧
        (paysIn → w.receivable = min top48 (v.receivable + total pin) ∧
          w.satReceivable = (v.satReceivable || decide (top48 < v.receivable + total pin)) ∧
          w.inCount = min top32 (v.inCount + 1) ∧ w.satInCount = (v.satInCount || decide (top32 < v.inCount + 1))) ∧
        (¬ paysIn → w.receivable = v.receivable ∧ w.satReceivable = v.satReceivable ∧ w.inCount = v.inCount ∧
          w.satInCount = v.satInCount) ∧
        (paysOut → w.payable = min top48 (v.payable + total pout) ∧
          w.satPayable = (v.satPayable || decide (top48 < v.payable + total pout)) ∧
          w.outCount = min top32 (v.outCount + 1) ∧ w.satOutCount = (v.satOutCount || decide (top32 < v.outCount + 1))) ∧
        (¬ paysOut → w.payable = v.payable ∧ w.satPayable = v.satPayable ∧ w.outCount = v.outCount ∧
          w.satOutCount = v.satOutCount)) ∧
      u.backup = { s.backup with settlements := u.backup.settlements } ∧
      ((∃ k, marked (s.settlement k).sums (u.settlement k).sums) → u.regs = (statusEvent s).regs ∧ u.regs.events = true) ∧
      ((∀ k, ¬ marked (s.settlement k).sums (u.settlement k).sums) → u.regs = s.regs) ∧
      u = (((s.setContexts u.contexts).setGroups u.groups).setBackup u.backup).setRegs u.regs

/-- The price of a direction: every interval begun is billed whole, so the billed seconds are at least the billable seconds
and the initial interval; each segment but the last has the ticks up to the next one's offset, and the last those from its own
offset to ten times the billed seconds, rounding excess included, to which they sum; the base is at
least the minimum and at least the setup; and the surcharge is nothing without the alternate mark and at most half the base,
rounded up, with it. -/
def Obligations.PricingBillsWholeIntervals : Prop :=
  ∀ (t : Terms) (alternate : Bool) (d : Nat) (offsets rates : List Nat),
    t.initial ≠ 0 → t.subsequent ≠ 0 → t.surcharge ≤ 500 → d ≤ 864000 → offsets ≠ [] → offsets.length = rates.length →
    offsets.head? = some 0 → offsets.Pairwise (· < ·) → (∀ o ∈ offsets, o ≤ d) →
    let p := priceDirection t alternate d offsets rates
    let seconds := max 1 ((d + 9) / 10)
    seconds ≤ p.billed ∧ t.initial ≤ p.billed ∧ (seconds ≤ t.initial → p.billed = t.initial) ∧
    (t.initial < seconds → p.billed < seconds + t.subsequent ∧ t.subsequent ∣ p.billed - t.initial) ∧
    (segmentTicks offsets (10 * p.billed)).sum = 10 * p.billed ∧
    (segmentTicks offsets (10 * p.billed)).length = offsets.length ∧
    (∀ k a b, offsets[k]? = some a → offsets[k + 1]? = some b → (segmentTicks offsets (10 * p.billed))[k]? = some (b - a)) ∧
    (∀ a, offsets.getLast? = some a → (segmentTicks offsets (10 * p.billed)).getLast? = some (10 * p.billed - a)) ∧
    p.base = max (t.setup + (List.zipWith (fun k r => (k * r + 300) / 600) (segmentTicks offsets (10 * p.billed)) rates).sum)
      t.minimum ∧
    (alternate = false → p.surcharge = 0) ∧
    (alternate = true → p.surcharge = (p.base * t.surcharge + 500) / 1000 ∧ p.surcharge ≤ (p.base + 1) / 2)

/-- CRANKBACK on a PROVISIONAL call with fewer than four attempts and an admissible later candidate: the seizure is returned,
the call's own retained alternate is made empty if it is its group, and the call stands PROVISIONAL on the first admissible
candidate under a new deadline, with the group appended to its history; no provisional or exhaust count changes. The
candidates are ordered as CandidatesAreOrdered states, and their examinations counted as SeizureTakesFirstAdmissible states. -/
def Obligations.CrankbackMovesTheCall : Prop :=
  ∀ (s : State) (slot : Nat) (req : List Byte) (i generation : Nat) (call : Call) (deadline : Tick)
    (pre post : List Candidate) (c : Candidate),
    served .crankback s = some (slot, req) → reservedClear .crankback req = true →
    Names s req i { generation := generation, state := .provisional call deadline } → call.history.length < 4 →
    let b := s.bank call.bank
    let dests := b.dests.modify call.dest
      (fun e => if e.retained = some call.group then { e with retained := none } else e)
    let returned := (returnSeizure call.group s).setPlan (s.plan.setBank call.bank { b with dests := dests })
    resumedCandidates returned call = pre ++ c :: post →
    (∀ x ∈ pre, examine returned call.history x ≠ .admissible) → examine returned call.history c = .admissible →
    ∃ u, exec .crankback s = .next (reply slot req .ok 0
        [⟨72, 4, s.backup.epoch + 256 * generation + 65536 * i⟩, ⟨76, 2, c.group⟩, ⟨78, 1, c.step⟩, ⟨79, 1, c.kind.code⟩,
         ⟨80, 1, if c.kind = .direct then 0 else 1⟩, ⟨81, 1, call.history.length + 1⟩] u) ∧
      u.context i =
        { generation := generation,
          state := .provisional
            { call with group := c.group, step := c.step, kind := c.kind, alternate := decide (c.kind ≠ .direct),
                        history := call.history ++ [c.group] }
            (s.now + BitVec.ofNat 32 s.contexts.window) } ∧
      SameOtherContexts s u i ∧ u.plan = returned.plan ∧
      (let v := (seize call.history (pre ++ c :: post) returned).2
       u.groups = v.groups ∧ u.carriers = v.carriers ∧ u.backup = v.backup) ∧
      (∀ g, (u.group g).busy + (if g = call.group ∧ 0 < (s.group g).busy then 1 else 0) =
        (s.group g).busy + (if g = c.group then 1 else 0)) ∧
      (∀ k, u.openHandovers k =
        returned.openHandovers k + (if k = (s.group c.group).owner ∧ k ≠ 0 then 1 else 0)) ∧
      u.routeJob = s.routeJob ∧ SameOutsideWalk s u

/-- CRANKBACK on a PROVISIONAL call with four groups tried (EXHAUSTED, no examination) or with no admissible later candidate
(ALL_BUSY with the attempt count): the seizure is returned, the context is FREE with its generation kept, and its bank's
provisional count falls by 1. The examinations are counted as SeizureTakesFirstAdmissible states. -/
def Obligations.CrankbackEndsTheCall : Prop :=
  ∀ (s : State) (slot : Nat) (req : List Byte) (i generation : Nat) (call : Call) (deadline : Tick),
    served .crankback s = some (slot, req) → reservedClear .crankback req = true →
    Names s req i { generation := generation, state := .provisional call deadline } →
    let b := s.bank call.bank
    let dests := b.dests.modify call.dest
      (fun e => if e.retained = some call.group then { e with retained := none } else e)
    let returned := (returnSeizure call.group s).setPlan (s.plan.setBank call.bank { b with dests := dests })
    (4 ≤ call.history.length ∨
      ∀ x ∈ resumedCandidates returned call, examine returned call.history x ≠ .admissible) →
    ∃ u, exec .crankback s = .next
        (if 4 ≤ call.history.length then reply slot req .exhausted 0 [] u
         else reply slot req .allBusy 0 [⟨72, 1, call.history.length⟩] u) ∧
      u.context i = { generation := generation, state := .free } ∧ SameOtherContexts s u i ∧
      u.plan = s.plan.setBank call.bank { b with dests := dests, provisional := b.provisional - 1 } ∧
      (∀ g, (u.group g).busy = (returned.group g).busy) ∧ (∀ k, u.openHandovers k = returned.openHandovers k) ∧
      (call.history.length < 4 →
        let v := (seize call.history (resumedCandidates returned call) returned).2
        u.groups = v.groups ∧ u.carriers = v.carriers) ∧
      (4 ≤ call.history.length → u.groups = returned.groups ∧ u.carriers = s.carriers) ∧
      u.routeJob = s.routeJob ∧ SameOutsideWalk s u

/-- QUERY CALL on a live or EXPIRED context answers its state, step, group, origin, bank, ticks since the grant, timer and
history, and for an ANSWERED one the answered ticks, segment count and flags, and changes nothing but the answer; on a handle
that matches no such context it answers UNKNOWN_CALL and changes nothing. -/
def Obligations.QueryCallChangesNothing : Prop :=
  ∀ (s : State) (slot : Nat) (req : List Byte),
    served .queryCall s = some (slot, req) → reservedClear .queryCall req = true →
    ((∀ i c call, Names s req i c → c.state.call? ≠ some call) →
      exec .queryCall s = .next (reply slot req .unknownCall 0 [] s)) ∧
    (∀ (i : Nat) (c : Context) (call : Call), Names s req i c → c.state.call? = some call →
      let code := match c.state with
        | .provisional _ _ => 1
        | .confirmed _ => 2
        | .answered _ _ => 3
        | .expired _ _ => 4
        | .free => 0
      let timer := match c.state with
        | .provisional _ deadline => if (s.now - deadline).toNat < 2 ^ 31 then 0 else (deadline - s.now).toNat
        | .expired _ deadline => (s.now - deadline).toNat
        | _ => 0
      exec .queryCall s = .next (reply slot req .ok 0
        ([⟨72, 1, code⟩, ⟨73, 1, call.kind.code⟩, ⟨74, 2, call.group⟩, ⟨76, 1, call.step⟩,
          ⟨77, 1, if call.alternate then 1 else 0⟩, ⟨78, 1, call.origin⟩, ⟨79, 1, call.bank.code⟩,
          ⟨80, 4, (s.now - call.grantTick).toNat⟩, ⟨84, 4, timer⟩, ⟨92, 1, call.history.length⟩,
          ⟨96, 2, call.history.getD 0 0⟩, ⟨98, 2, call.history.getD 1 0⟩, ⟨100, 2, call.history.getD 2 0⟩,
          ⟨102, 2, call.history.getD 3 0⟩] ++
         (match c.state with
          | .answered _ a =>
            [⟨88, 4, if a.long then 864000 else (s.now - a.tick).toNat⟩, ⟨93, 1, a.segments.length⟩,
             ⟨94, 1, (if a.merged then 1 else 0) + (if a.long then 2 else 0) + (if a.timeUnset then 4 else 0) +
               (if a.freeRunning then 8 else 0)⟩]
          | _ => [])) s))

/-- A call-handle request whose handle matches no live or EXPIRED context is answered UNKNOWN_CALL, and CONFIRM on a CONFIRMED
or ANSWERED context, ANSWER on a PROVISIONAL or ANSWERED one and CRANKBACK on a CONFIRMED or ANSWERED one are answered
WRONG_STATE; nothing else changes. CONFIRM, ANSWER, RELEASE and CRANKBACK on an EXPIRED context are answered TOO_LATE with the
group last held and the ticks since the expiry; the context leaves the expired list and is FREE with its generation kept, and
no count changes. -/
def Obligations.HandlesOfOtherStates : Prop :=
  (∀ (k : Kind) (s : State) (slot : Nat) (req : List Byte),
    (k = .confirm ∨ k = .answer ∨ k = .release ∨ k = .crankback ∨ k = .queryCall) →
    served k s = some (slot, req) → reservedClear k req = true →
    let h := handleOf req
    ((h.epoch ≠ s.backup.epoch ∨ 16384 ≤ h.index ∨ (s.context h.index).state = .free ∨
        h.generation ≠ (s.context h.index).generation) →
      exec k.command s = .next (reply slot req .unknownCall 0 [] s)) ∧
    (∀ i c call, Names s req i c →
      (c.state = .confirmed call ∧ (k = .confirm ∨ k = .crankback) ∨
       (∃ a, c.state = .answered call a) ∧ (k = .confirm ∨ k = .answer ∨ k = .crankback) ∨
       (∃ deadline, c.state = .provisional call deadline) ∧ k = .answer) →
      exec k.command s = .next (reply slot req .wrongState 0 [] s))) ∧
  (∀ (k : Kind) (s : State) (slot : Nat) (req : List Byte) (i generation : Nat) (call : Call) (deadline : Tick),
    (k = .confirm ∨ k = .answer ∨ k = .release ∨ k = .crankback) →
    served k s = some (slot, req) → reservedClear k req = true →
    Names s req i { generation := generation, state := .expired call deadline } →
    ∃ u, exec k.command s = .next (reply slot req .tooLate 0
        [⟨72, 2, call.group⟩, ⟨76, 4, (s.now - deadline).toNat⟩] u) ∧
      u.context i = { generation := generation, state := .free } ∧ (∀ j, j ≠ i → u.context j = s.context j) ∧
      u.contexts.expired = s.contexts.expired.filter (fun j => decide (j ≠ i)) ∧
      u = s.setContexts { s.contexts with table := u.contexts.table, expired := u.contexts.expired })

/-- SET CALL TIMERS: a nonzero reserved field gives FORMAT and has no effect; otherwise it stores the window clamped to 20..300
and the limit clamped to 16,384, and frees from the head as many EXPIRED contexts as the list is longer than the limit, their
generations kept. No other context changes, so deadlines already set are kept. -/
def Obligations.CallTimersTrimTheExpiredList : Prop :=
  ∀ (s : State) (slot : Nat) (req : List Byte), served .setCallTimers s = some (slot, req) →
    let window := max 20 (min (readLE req 8 2) 300)
    let limit := min (readLE req 10 2) 16384
    let n := s.contexts.expired.length - limit
    (reservedClear .setCallTimers req = false → exec .setCallTimers s = .next (reply slot req .format 0 [] s)) ∧
    (reservedClear .setCallTimers req = true → s.contexts.expired.Nodup →
      ∃ u, exec .setCallTimers s = .next (reply slot req .ok 0 [⟨72, 2, window⟩, ⟨74, 2, limit⟩, ⟨76, 2, n⟩] u) ∧
        u.contexts.window = window ∧ u.contexts.limit = limit ∧ u.contexts.expired = s.contexts.expired.drop n ∧
        (∀ i, u.context i = if i ∈ s.contexts.expired.take n then
          { generation := (s.context i).generation, state := .free } else s.context i) ∧
        u = s.setContexts u.contexts)

/-- CONFIRMATION_EXPIRY on a PROVISIONAL context whose deadline is reached returns its seizure, lowers its bank's provisional
count, and makes it EXPIRED at the tail of the expired list, the heads of which are then freed until it is no longer than its
limit: with a list at its limit the head is freed, and with limit 0 the expiring context itself. LONG_CALL_MARK on an ANSWERED
context 864,000 ticks after its answer sets LONG; GAP_ENTRY_LAPSE removes the entry of its code once its lifetime has counted
down to 0. Before their tick the three change nothing (the model's choice, notes/assumptions/1.md), and that a mark holds a
lapsed entry until it is removed is the model's too (notes/assumptions/16.md). -/
def Obligations.DueEventsAreTaken : Prop :=
  ((∀ (s : State) (i generation : Nat) (call : Call) (deadline : Tick), s.up = true → i < 16384 →
    s.context i = { generation := generation, state := .provisional call deadline } →
    let list := s.contexts.expired ++ [i]
    let n := list.length - s.contexts.limit
    ((s.now - deadline).toNat < 2 ^ 31 → i ∉ s.contexts.expired →
      ∃ u, exec (.confirmationExpiry i) s = .next u ∧ u.contexts.expired = list.drop n ∧
        (∀ j, u.context j =
          if j ∈ list.take n then { generation := (s.context j).generation, state := .free }
          else if j = i then { generation := generation, state := .expired call deadline } else s.context j) ∧
        SeizureReturned s u call.group ∧ (∀ k, (u.settlement k).sums = (s.settlement k).sums) ∧
        u.plan = s.plan.setBank call.bank
          { s.bank call.bank with provisional := (s.bank call.bank).provisional - 1 } ∧
        u = (((s.setContexts { s.contexts with table := u.contexts.table, expired := u.contexts.expired }).setGroups
          u.groups).setBackup { s.backup with settlements := u.backup.settlements }).setPlan u.plan) ∧
    (2 ^ 31 ≤ (s.now - deadline).toNat → exec (.confirmationExpiry i) s = .next s)) ∧
  (∀ (s : State) (i generation : Nat) (call : Call) (a : Answered), s.up = true → i < 16384 →
    s.context i = { generation := generation, state := .answered call a } →
    exec (.longCallMark i) s = .next
      (if (s.now - (a.tick + 864000#32)).toNat < 2 ^ 31 then
        putContext i { generation := generation, state := .answered call { a with long := true } } s
      else s))) ∧
  (∀ (s : State) (pre post : List GapEntry) (e : GapEntry), s.up = true → (Instr.gapEntryLapse e.code).wellFormed = true →
    s.supervision.gaps = pre ++ e :: post → (∀ x ∈ pre ++ post, x.code ≠ e.code) →
    exec (.gapEntryLapse e.code) s = .next
      (if e.lapsed then s.setSupervision { s.supervision with gaps := pre ++ post } else s))

/-! ### Groups and supervision -/

/-- SET GROUP: a group index above 1,023 or another in-service value gives RANGE, a new owner for a group that is busy gives
WRONG_STATE, and otherwise the configuration is stored with size, reservation and thresholds clamped, 0 choosing a threshold's
default; busy and the measurement record stay, blocked is lowered to the size, and the answer carries what is stored. That a
refused answer carries the index as the request holds it is deduced (notes/assumptions/31.md). -/
def Obligations.SetGroupStoresTheConfiguration : Prop :=
  ∀ (s : State) (slot : Nat) (req : List Byte), served .setGroup s = some (slot, req) →
    reservedClear .setGroup req = true →
    let g := readLE req 8 2
    let r := s.group g
    let size := min (readLE req 12 2) 4095
    let threshold (x d : Nat) : Nat := if x = 0 then d else min x 1000
    let watchOn := threshold (readLE req 16 2) 850
    let clearBelow := min (threshold (readLE req 18 2) 700) watchOn
    let congestOn := threshold (readLE req 20 2) 200
    let reservation := min (readLE req 14 2) 255
    let blocked := min r.blocked size
    ((1023 < g ∨ 1 < byteAt req 10) → exec .setGroup s = .next (reply slot req .range 0 [⟨72, 2, g⟩] s)) ∧
    (g ≤ 1023 → byteAt req 10 ≤ 1 → byteAt req 11 ≠ r.owner → 0 < r.busy →
      exec .setGroup s = .next (reply slot req .wrongState 0 [⟨72, 2, g⟩] s)) ∧
    (g ≤ 1023 → byteAt req 10 ≤ 1 → byteAt req 11 = r.owner ∨ r.busy = 0 →
      ∃ u, exec .setGroup s = .next (reply slot req .ok 0
          [⟨72, 2, g⟩, ⟨79, 1, r.congestion.code⟩, ⟨88, 2, r.busy⟩, ⟨90, 2, blocked⟩, ⟨92, 2, size - (r.busy + blocked)⟩,
           ⟨74, 1, byteAt req 10⟩, ⟨75, 1, byteAt req 11⟩, ⟨76, 2, size⟩, ⟨78, 1, reservation⟩, ⟨80, 2, watchOn⟩,
           ⟨82, 2, clearBelow⟩, ⟨84, 2, congestOn⟩] u) ∧
        u.group g = { r with
          inService := decide (byteAt req 10 = 1), owner := byteAt req 11, size := size, blocked := blocked,
          reservation := reservation, watchOn := watchOn, clearBelow := clearBelow, congestOn := congestOn } ∧
        (∀ h, h ≠ g → u.group h = s.group h) ∧ u = s.setGroups u.groups)

/-- BLOCK CIRCUITS and UNBLOCK CIRCUITS: a nonzero reserved field gives FORMAT and a group index above 1,023 RANGE; otherwise
the count, clamped to what is not blocked or to what is, is added to or subtracted from the blocked count, nothing else of the
group changes, and OK carries the count applied. A group left with nothing available is moved to BLOCKED at the next period
end, and a BLOCKED one in service with circuits available leaves it there only. That a refused answer carries the index as the
request holds it is deduced (notes/assumptions/31.md). -/
def Obligations.BlockingMovesTheBlockedCount : Prop :=
  ∀ (k : Kind) (s : State) (slot : Nat) (req : List Byte), (k = .blockCircuits ∨ k = .unblockCircuits) →
    served k s = some (slot, req) →
    let g := readLE req 8 2
    let r := s.group g
    let n := if k = .blockCircuits then min (readLE req 10 2) (r.size - r.blocked) else min (readLE req 10 2) r.blocked
    let q := { r with blocked := if k = .blockCircuits then r.blocked + n else r.blocked - n }
    (reservedClear k req = false → exec k.command s = .next (reply slot req .format 0 [⟨72, 2, g⟩] s)) ∧
    (reservedClear k req = true → 1023 < g → exec k.command s = .next (reply slot req .range 0 [⟨72, 2, g⟩] s)) ∧
    (reservedClear k req = true → g ≤ 1023 →
      ∃ u, exec k.command s = .next (reply slot req .ok 0
          [⟨86, 2, n⟩, ⟨72, 2, g⟩, ⟨79, 1, r.congestion.code⟩, ⟨88, 2, r.busy⟩, ⟨90, 2, q.blocked⟩,
           ⟨92, 2, q.size - (q.busy + q.blocked)⟩] u) ∧
        u.group g = q ∧ (∀ h, h ≠ g → u.group h = s.group h) ∧ u = s.setGroups u.groups ∧
        (k = .blockCircuits → r.blocked ≤ r.size → q.blocked ≤ q.size) ∧ (r.size = 0 → k = .blockCircuits → n = 0) ∧
        (q.available = 0 → (evaluateGroup q).congestion = .blocked) ∧
        (r.congestion = .blocked → q.congestion = .blocked ∧
          (q.inService = true → q.available ≠ 0 → (evaluateGroup q).congestion = .clear)))

/-- SET SUPERVISION stores the period, the threshold and the interval, each clamped, and leaves the end tick of the period in
progress and every gap entry. SET CARRIER: carrier 0 or an action other than KEEP or CLEAR gives RANGE; otherwise the ceiling
is stored and CLEAR zeroes the ceiling-refusal count; OK carries the old ceiling, the new one, the open-handover count and the
old refusal count. -/
def Obligations.SettingsAreClampedAndStored : Prop :=
  (∀ (s : State) (slot : Nat) (req : List Byte), served .setSupervision s = some (slot, req) →
    reservedClear .setSupervision req = true →
    let period := max 1 (min (byteAt req 8) 60)
    let threshold := min (byteAt req 9) 15
    let interval := max 1 (min (readLE req 10 2) 600)
    exec .setSupervision s = .next (reply slot req .ok 0
      [⟨72, 1, period⟩, ⟨73, 1, threshold⟩, ⟨74, 2, interval⟩, ⟨76, 4, s.supervision.periodEnd.toNat⟩]
      (s.setSupervision { s.supervision with period := period, threshold := threshold, interval := interval }))) ∧
  (∀ (s : State) (slot : Nat) (req : List Byte), served .setCarrier s = some (slot, req) →
    reservedClear .setCarrier req = true →
    let k := byteAt req 8
    let ceiling := readLE req 10 2
    (k = 0 ∨ 1 < byteAt req 9 → exec .setCarrier s = .next (reply slot req .range 0 [] s)) ∧
    (k ≠ 0 → byteAt req 9 ≤ 1 →
      ∃ u, exec .setCarrier s = .next (reply slot req .ok 0
          [⟨72, 1, k⟩, ⟨74, 2, (s.carrier k).ceiling⟩, ⟨76, 2, ceiling⟩, ⟨78, 2, s.openHandovers k⟩,
           ⟨80, 4, (s.carrier k).refusals⟩] u) ∧
        u.carrier k = { s.carrier k with
          ceiling := ceiling, refusals := if byteAt req 9 = 1 then 0 else (s.carrier k).refusals } ∧
        (∀ j, j ≠ k → u.carrier j = s.carrier j) ∧ u = s.setCarriers u.carriers))

/-- SET GAP: a digit count outside 1..12 or a digit above 9 gives RANGE; an entry with the code is replaced in place, its
next-admission tick moved by a longer interval only when it has admitted a call; without one, a new SOFTWARE entry is made, or
TABLE_FULL answered when 256 stand in the table. -/
def Obligations.SetGapMakesOrReplaces : Prop :=
  ∀ (s : State) (slot : Nat) (req : List Byte), served .setGap s = some (slot, req) → reservedClear .setGap req = true →
    let n := byteAt req 8
    let code := byteFields req 16 n
    let interval := max 1 (min (readLE req 10 2) 600)
    let lifetime := min (readLE req 12 2) 36000
    let gaps := s.supervision.gaps
    ((n < 1 ∨ 12 < n ∨ ∃ d ∈ code, 9 < d) → exec .setGap s = .next (reply slot req .range 0 [] s)) ∧
    (1 ≤ n → n ≤ 12 → (∀ d ∈ code, d ≤ 9) →
      ((∀ e ∈ gaps, e.code ≠ code) →
        (256 ≤ gaps.length → exec .setGap s = .next (reply slot req .tableFull 0 [] s)) ∧
        (gaps.length < 256 → exec .setGap s = .next (reply slot req .ok 0
          [⟨72, 2, interval⟩, ⟨74, 2, lifetime⟩, ⟨76, 1, 0⟩, ⟨78, 2, gaps.length + 1⟩]
          (s.setSupervision { s.supervision with gaps := gaps ++
            [{ code := code, origin := .software, interval := interval, lifetime := lifetime, nextAdmission := s.now,
               admitted := 0, rejected := 0, lapsed := false }] })))) ∧
      (∀ pre post e, gaps = pre ++ e :: post → e.code = code → (∀ x ∈ pre ++ post, x.code ≠ code) →
        exec .setGap s = .next (reply slot req .ok 0
          [⟨72, 2, interval⟩, ⟨74, 2, lifetime⟩, ⟨76, 1, 1⟩, ⟨77, 1, e.origin.code⟩, ⟨78, 2, gaps.length⟩,
           ⟨80, 4, e.admitted⟩, ⟨84, 4, e.rejected⟩]
          (s.setSupervision { s.supervision with gaps := pre ++
            { e with
              origin := .software, interval := interval, lifetime := lifetime, lapsed := false,
              nextAdmission := if e.admitted = 0 ∨ interval ≤ e.interval then e.nextAdmission
                else e.nextAdmission + BitVec.ofNat 32 (interval - e.interval) } :: post }))))

/-- CLEAR GAP: a nonzero reserved field gives FORMAT, and a digit count outside 1..12 or a digit above 9 RANGE; an entry with
exactly the code is removed, OK carrying its origin, interval, lifetime and counts; without one the answer is NOT_PENDING. -/
def Obligations.ClearGapRemovesTheExactCode : Prop :=
  ∀ (s : State) (slot : Nat) (req : List Byte), served .clearGap s = some (slot, req) →
    let n := byteAt req 8
    let code := byteFields req 16 n
    let gaps := s.supervision.gaps
    (reservedClear .clearGap req = false → exec .clearGap s = .next (reply slot req .format 0 [] s)) ∧
    (reservedClear .clearGap req = true →
      ((n < 1 ∨ 12 < n ∨ ∃ d ∈ code, 9 < d) → exec .clearGap s = .next (reply slot req .range 0 [] s)) ∧
      (1 ≤ n → n ≤ 12 → (∀ d ∈ code, d ≤ 9) →
        ((∀ e ∈ gaps, e.code ≠ code) → exec .clearGap s = .next (reply slot req .notPending 0 [] s)) ∧
        (∀ pre post e, gaps = pre ++ e :: post → e.code = code → (∀ x ∈ pre ++ post, x.code ≠ code) →
          exec .clearGap s = .next (reply slot req .ok 0
            [⟨72, 2, e.interval⟩, ⟨74, 2, e.lifetime⟩, ⟨76, 1, e.origin.code⟩, ⟨80, 4, e.admitted⟩, ⟨84, 4, e.rejected⟩]
            (s.setSupervision { s.supervision with gaps := pre ++ post })))))

/-- PERIOD_END, once the end tick is reached: every group's occupancy is sampled and smoothed, its state changed by the first
rule that applies, its calm count kept, and its period's counts replaced by those held over; every change sets the changed mark
and EVENTS and, into CONGESTED or BLOCKED, clears the retained alternates equal to the group; gap entries whose next-admission
tick is reached take the period end's tick; the next period ends 10 × P ticks later. -/
def Obligations.PeriodEndJudgesEveryGroup : Prop :=
  ∀ s : State, s.up = true → (s.now - s.supervision.periodEnd).toNat < 2 ^ 31 →
    let sampled (r : Group) : Nat :=
      if r.size - r.blocked = 0 then 1000 else 1000 * min r.busy (r.size - r.blocked) / (r.size - r.blocked)
    let smoothed (r : Group) : Nat := (3 * r.occupancy + sampled r + 2) / 4
    let ratio (r : Group) : Nat := if r.attempts = 0 then 0 else 1000 * r.refusals / r.attempts
    let calm (r : Group) : Nat := if ratio r < r.congestOn then r.calm + 1 else 0
    let free (r : Group) : Nat := r.size - (r.busy + r.blocked)
    let judged (r : Group) : Congestion :=
      if r.inService = false ∨ r.size - r.blocked = 0 then .blocked
      else if r.congestion = .blocked then .clear
      else if (r.congestion = .clear ∨ r.congestion = .watch) ∧ r.congestOn ≤ ratio r then .congested
      else if r.congestion = .clear ∧ (r.watchOn ≤ smoothed r ∨ free r ≤ r.reservation) then .watch
      else if r.congestion = .watch ∧ smoothed r < r.clearBelow ∧ r.reservation < free r then .clear
      else if r.congestion = .congested ∧ 2 ≤ calm r then .watch
      else r.congestion
    let full (g : Nat) : Bool := decide (g < 1024 ∧ judged (s.group g) ≠ (s.group g).congestion ∧
      (judged (s.group g) = .congested ∨ judged (s.group g) = .blocked))
    ∃ u, exec .periodEnd s = .next u ∧
      (∀ g < 1024, u.group g = { s.group g with
        occupancy := smoothed (s.group g), congestion := judged (s.group g),
        calm := if (s.group g).congestion = .congested ∧ judged (s.group g) = .congested then calm (s.group g) else 0,
        attempts := (s.group g).heldA, refusals := (s.group g).heldF, heldA := 0, heldF := 0,
        changed := (s.group g).changed || decide (judged (s.group g) ≠ (s.group g).congestion) }) ∧
      (∀ g, 1024 ≤ g → u.group g = s.group g) ∧
      ((∃ g < 1024, judged (s.group g) ≠ (s.group g).congestion) → u.regs = (statusEvent s).regs) ∧
      ((∀ g < 1024, judged (s.group g) = (s.group g).congestion) → u.regs = s.regs) ∧
      (∀ k, u.bank k = { s.bank k with
        dests := (s.bank k).dests.map
          (fun e => if e.retained.any full then { e with retained := none } else e) }) ∧
      u.supervision = { s.supervision with
        periodEnd := s.supervision.periodEnd + BitVec.ofNat 32 (10 * s.supervision.period),
        gaps := s.supervision.gaps.map (fun e => if (s.now - e.nextAdmission).toNat < 2 ^ 31 then
          { e with nextAdmission := s.supervision.periodEnd } else e) } ∧
      u.plan = { s.plan with bankA := u.plan.bankA, bankB := u.plan.bankB } ∧
      u = (((((s.setGroups u.groups).setSupervision u.supervision).setPlan u.plan).setRegs u.regs).setMirror
        u.mirror).setPort u.port

/-- The mirror. At a PERIOD_END in RUNNING or DRAINING with no write in progress the generation count rises to the odd value,
the groups marked changed are noted, and the writes of the generation field and of the snapshot's 24,700 other bytes are asked
for; in HALTED or FAULTED nothing is written; and a write in progress goes on with its own copy, no longer to clear the marks
of the groups that have changed state again. Once the body is written the count rises to even and the write of the generation
field is asked for again; once that is made the noted groups' marks are cleared, the write has ended, and a DRAINING engine
with nothing in hand and no sweep in progress enters HALTED. The snapshot places in the header, in group g's entry at
128 + 8 × g and in carrier k's entry at 8,320 + 64 × k what Tables 10-7 to 10-9 give there, each value in its field's bytes. -/
def Obligations.PeriodEndSnapshotsTheMirror : Prop :=
  (∀ (pe : Tick) (v : State), v.backup.calendar.Legal →
    let content := mirrorContent pe v
    let holds (offset size x : Nat) : Prop := readLE content (offset - 4) size = x % 256 ^ size
    let cal := v.backup.calendar
    let flag (b : Bool) : Nat := if b then 1 else 0
    (holds 4 1 cal.year ∧ holds 5 1 cal.month ∧ holds 6 1 cal.day ∧ holds 7 1 cal.weekday ∧ holds 8 1 cal.hour ∧
      holds 9 1 cal.minute ∧ holds 10 1 cal.second ∧ holds 11 1 cal.tenth ∧ holds 12 1 (flag v.backup.clockSet) ∧
      holds 13 1 (if v.clock.reference = .freeRunning then 1 else 0) ∧
      holds 14 1 (match v.regs.engine with
        | .halted => 0
        | .running => 1
        | .draining => 2
        | .faulted => 3) ∧
      holds 15 1 (if v.plan.active = .b then 1 else 0) ∧ holds 16 1 (if v.regs.startKind = .warm then 1 else 0) ∧
      holds 17 1 v.backup.epoch ∧ holds 18 2 v.supervision.gaps.length ∧
      holds 20 2 (contextsIn v (fun c => match c with
        | .provisional _ _ => true
        | .confirmed _ => true
        | .answered _ _ => true
        | .free => false
        | .expired _ _ => false)) ∧
      holds 22 2 v.contexts.expired.length ∧ holds 24 4 pe.toNat) ∧
    (∀ g < 1024,
      let r := v.group g
      let entry := 128 + 8 * g
      holds entry 1 (match r.congestion with
        | .clear => 0
        | .watch => 1
        | .congested => 2
        | .blocked => 3) ∧
      holds (entry + 1) 1 (flag r.changed) ∧ holds (entry + 2) 2 r.occupancy ∧
      holds (entry + 4) 2 (r.size - (r.busy + r.blocked))) ∧
    (∀ i < 64, holds (8320 + i) 1 0) ∧
    (∀ k, 1 ≤ k → k ≤ 255 →
      let r := v.carrier k
      let w := (v.settlement k).sums
      let entry := 8320 + 64 * k
      holds entry 8 w.receivable ∧ holds (entry + 8) 8 w.payable ∧ holds (entry + 16) 4 w.inCount ∧
      holds (entry + 20) 4 w.outCount ∧ holds (entry + 24) 4 r.refusals ∧ holds (entry + 28) 2 (v.openHandovers k) ∧
      holds (entry + 30) 2 w.unsettled ∧
      holds (entry + 32) 1 (flag w.satReceivable + 2 * flag w.satPayable + 4 * flag w.satInCount + 8 * flag w.satOutCount) ∧
      holds (entry + 33) 1 (flag r.inbound.active.isSome + 2 * flag r.inbound.pending.isSome +
        4 * flag r.outbound.active.isSome + 8 * flag r.outbound.pending.isSome))) ∧
  (∀ (s u : State), s.up = true → (s.now - s.supervision.periodEnd).toNat < 2 ^ 31 → exec .periodEnd s = .next u →
    (s.regs.engine = .halted ∨ s.regs.engine = .faulted → s.mirror.marks = none →
      u.mirror = s.mirror ∧ u.port = s.port) ∧
    (∀ gs, s.mirror.marks = some gs → u.port = s.port ∧ u.mirror.generation = s.mirror.generation ∧
      ∃ hs, u.mirror.marks = some hs ∧
        ∀ g, g ∈ hs ↔ g ∈ gs ∧ (g < 1024 → (u.group g).congestion = (s.group g).congestion)) ∧
    (s.regs.engine = .running ∨ s.regs.engine = .draining → s.mirror.marks = none →
      u.mirror.generation = s.mirror.generation + 1#32 ∧ u.mirror.marks = some (changedGroups u) ∧
      u.port = (ask .mirror (mirrorWrite s .mirrorBody 4 (mirrorContent s.supervision.periodEnd u))
        (ask .mirror (mirrorWrite s .mirrorOpen 0 (generationBytes u.mirror.generation)) s)).port ∧
      (mirrorContent s.supervision.periodEnd u).length = 24700)) ∧
  (∀ (s : State) (t : Transfer) (ts : List Transfer), Completes s .mirror t ts [] → t.write = true →
    let v := afterTransfer .mirror t ts s
    let count := s.mirror.generation + 1#32
    (t.purpose = .mirrorOpen → exec (.memoryBurstDone (.done [])) s = .next (serveNext .mirror v)) ∧
    (t.purpose = .mirrorBody → exec (.memoryBurstDone (.done [])) s = .next (serveNext .mirror
      (ask .mirror (mirrorWrite s .mirrorClose 0 (generationBytes count))
        (v.setMirror { s.mirror with generation := count })))) ∧
    (∀ gs, t.purpose = .mirrorClose → s.mirror.marks = some gs →
      ∃ u, exec (.memoryBurstDone (.done [])) s = .next (serveNext .mirror u) ∧
        (∀ g, u.group g = if g ∈ gs then { s.group g with changed := false } else s.group g) ∧
        u = ((v.setGroups u.groups).setMirror { s.mirror with marks := none }).setRegs
          { s.regs with engine := if s.regs.engine = .draining ∧ s.intake.inHand = [] ∧ s.intake.sweep.active = false
            then .halted else s.regs.engine }))

/-! ### Plans -/

/-- LOAD DESTINATIONS, LOAD ROUTE LISTS, SET BAND MAP and SET HOLIDAYS: a block address that is not a multiple of 8 gives
FORMAT, a bank, mode or count outside its values gives RANGE, and otherwise the load joins the tail of the load queue and its
owner holds it; nothing is answered. BANK_LOAD_HEAD checks the head of the queue: BANK_ACTIVE for the active bank, BANK_DRAINING
for one with a nonzero provisional count, either removing the load and changing nothing else; otherwise the read of its block is
asked for, 16 or 32 bytes a record, 144 bytes, or 4 bytes an entry; a SET HOLIDAYS of no entries is applied at once. A head that
has begun is left as it is (the model's choice, notes/assumptions/1.md). -/
def Obligations.BankLoadsQueueAndBegin : Prop :=
  (∀ (k : Kind) (s : State) (slot : Nat) (req : List Byte),
    (k = .loadDestinations ∨ k = .loadRouteLists ∨ k = .setBandMap ∨ k = .setHolidays) →
    served k s = some (slot, req) → reservedClear k req = true →
    let count := readLE req 10 2
    let inRange := byteAt req 8 ≤ 1 ∧ (k = .loadDestinations → byteAt req 9 ≤ 1) ∧
      (k = .loadDestinations ∨ k = .loadRouteLists → 1 ≤ count ∧ count ≤ 256) ∧ (k = .setHolidays → count ≤ 32)
    let load : Load :=
      { slot := slot, request := req,
        kind := if k = .loadDestinations then .destinations (if byteAt req 9 = 0 then .replaceAll else .merge)
          else if k = .loadRouteLists then .routeLists else if k = .setBandMap then .bandMap else .holidays,
        bank := if byteAt req 8 = 0 then .a else .b, addr := BitVec.ofNat 32 (readLE req 12 4),
        count := if k = .setBandMap then 144 else count }
    (readLE req 12 4 % 8 ≠ 0 → exec k.command s = .next (reply slot req .format 0 [] s)) ∧
    (readLE req 12 4 % 8 = 0 → ¬ inRange → exec k.command s = .next (reply slot req .range 0 [] s)) ∧
    (readLE req 12 4 % 8 = 0 → inRange →
      exec k.command s = .next (markBegun slot req (s.setPlan { s.plan with queue := s.plan.queue ++ [load] })))) ∧
  (∀ (s : State) (l : Load) (rest : List Load), s.up = true → s.plan.queue = l :: rest →
    let b := s.bank l.bank
    let shorter := { s.plan with queue := rest, headBegun := false }
    let bytes := match l.kind with
      | .destinations _ => 16 * l.count
      | .routeLists => 32 * l.count
      | .bandMap => 144
      | .holidays => 4 * l.count
    (s.plan.headBegun = true → exec .bankLoadHead s = .next s) ∧
    (s.plan.headBegun = false →
      (l.bank = s.plan.active → exec .bankLoadHead s = .next (reply l.slot l.request .bankActive 0 [] (s.setPlan shorter))) ∧
      (l.bank ≠ s.plan.active → 0 < b.provisional →
        exec .bankLoadHead s = .next (reply l.slot l.request .bankDraining 0 [] (s.setPlan shorter))) ∧
      (l.bank ≠ s.plan.active → b.provisional = 0 → bytes ≠ 0 →
        exec .bankLoadHead s = .next (ask .plan
          { purpose := .loadBlock, write := false, addr := l.addr, left := bytes, data := [], burst := none }
          (s.setPlan { s.plan with headBegun := true }))) ∧
      (l.bank ≠ s.plan.active → b.provisional = 0 → l.kind = .holidays → l.count = 0 →
        exec .bankLoadHead s = .next (reply l.slot l.request .ok 0 [⟨72, 1, 0⟩]
          (s.setPlan (shorter.setBank l.bank { b with
            holidays := [], dests := b.dests.map (fun e => { e with retained := none }) }))))))

/-- The last burst of a head load's block: the first bad record is answered with its code and number and the bank is as it
was; a good block is applied, every retained alternate of the bank made empty. A destination table then holds, for each code
of the block, the last record of that code, and with MERGE the entries of every other code; a table of more than 8,192 entries
gives TABLE_FULL. A load of route lists answers the number of lists then present, where the bank's lists have their canonical
form. What the records hold and which are bad, RecordsAreReadAndChecked states. -/
def Obligations.LoadBlockIsValidatedAndApplied : Prop :=
  ∀ (s : State) (t : Transfer) (ts : List Transfer) (data : List Byte) (l : Load) (rest : List Load),
    Completes s .plan t ts data → t.write = false → t.purpose = .loadBlock → s.plan.queue = l :: rest →
    let shorter := { s.plan with queue := rest, headBegun := false }
    let b := s.bank l.bank
    let size := match l.kind with
      | .destinations _ => 16
      | .routeLists => 32
      | .bandMap => 1
      | .holidays => 4
    let count := if l.kind = .bandMap then 144 else l.count
    let records : List (List Byte) := recordsOf size count (t.data ++ data)
    let bad : List Byte → Option Code := match l.kind with
      | .destinations _ => badDestination
      | .routeLists => badRouteList
      | .bandMap => badCell
      | .holidays => badHoliday
    let answered (c : Code) (n : Nat) (fields : List Field) (p : PlanStore) : Result :=
      .next (serveNext .plan (reply l.slot l.request c n fields ((setTransfers .plan ts s).setPlan p)))
    (∀ n r c, records[n]? = some r → bad r = some c → (∀ m < n, ∀ q, records[m]? = some q → bad q = none) →
      exec (.memoryBurstDone (.done data)) s = answered c (n + 1) [] shorter) ∧
    ((∀ r ∈ records, bad r = none) →
      (∀ mode, l.kind = .destinations mode → (b.dests.map Dest.code).Nodup →
        ∃ dests : List Dest, (dests.map Dest.code).Nodup ∧
          (∀ e : Dest, e ∈ dests ↔
            (∃ (n : Nat) (r : List Byte), records[n]? = some r ∧ e = destinationOf r ∧
              ∀ (m : Nat) (q : List Byte), n < m → records[m]? = some q → (destinationOf q).code ≠ e.code) ∨
            (mode = .merge ∧ ∃ d ∈ b.dests, (∀ r ∈ records, (destinationOf r).code ≠ d.code) ∧ e.code = d.code ∧
              e.routeList = d.routeList ∧ e.exhaust = d.exhaust ∧
              e.retained = if dests.length ≤ 8192 then none else d.retained)) ∧
          exec (.memoryBurstDone (.done data)) s =
            if 8192 < dests.length then answered .tableFull 0 [] shorter
            else answered .ok 0 [⟨72, 2, l.count⟩, ⟨74, 2, dests.length⟩] (shorter.setBank l.bank { b with dests := dests })) ∧
      (l.kind = .routeLists →
        ∃ lists, (∀ i, Table.read lists [] i = ((records.reverse.find? (fun r => decide (readLE r 0 2 = i))).map stepsOf).getD
            (b.routeList i)) ∧
          (Table.canonical b.lists [] = true → (∀ e ∈ b.lists, e.1 ≤ 2047) →
            lists.length = ((List.range 2048).filter (fun i => decide (Table.read lists [] i ≠ []))).length) ∧
          exec (.memoryBurstDone (.done data)) s = answered .ok 0 [⟨72, 2, l.count⟩, ⟨74, 2, lists.length⟩]
            (shorter.setBank l.bank { b with
              lists := lists, dests := b.dests.map (fun e => { e with retained := none }) })) ∧
      (l.kind = .bandMap →
        ∃ map, (∀ n r, records[n]? = some r → Table.read map 0 (n + 1) = byteAt r 0) ∧
          exec (.memoryBurstDone (.done data)) s = answered .ok 0 []
            (shorter.setBank l.bank { b with
              bandMap := map, dests := b.dests.map (fun e => { e with retained := none }) })) ∧
      (l.kind = .holidays →
        ∃ days, (∀ h, h ∈ days ↔ ∃ r ∈ records, h = (byteAt r 0, byteAt r 1)) ∧ days.Nodup ∧
          exec (.memoryBurstDone (.done data)) s = answered .ok 0 [⟨72, 1, days.length⟩]
            (shorter.setBank l.bank { b with
              holidays := days, dests := b.dests.map (fun e => { e with retained := none }) })))

/-- What is wrong with a record of a load block, in the order in which R12 to R15 give their conditions, and what a record
says. The content of a destination entry and of a step is read as Table 10-15 lays it out; bytes it names beyond a record's
own digits or steps are not looked at. That each condition of R13 is checked over all steps before the next condition is
deduced (notes/assumptions/29.md). -/
def Obligations.RecordsAreReadAndChecked : Prop :=
  ∀ r : List Byte,
    let word (i : Nat) : Nat := byteAt r i + 256 * byteAt r (i + 1)
    (let digits := byteAt r 0
     let outside := digits < 1 ∨ 12 < digits ∨ (∃ i < digits, 9 < byteAt r (4 + i)) ∨ 2047 < word 2
     (byteAt r 1 ≠ 0 → badDestination r = some .format) ∧
     (byteAt r 1 = 0 → outside → badDestination r = some .range) ∧
     (byteAt r 1 = 0 → ¬ outside → badDestination r = none) ∧
     (destinationOf r).code.length = digits ∧ (∀ i < digits, (destinationOf r).code[i]? = some (byteAt r (4 + i))) ∧
     (destinationOf r).routeList = word 2 ∧ (destinationOf r).retained = none ∧ (destinationOf r).exhaust = 0) ∧
    (let steps := byteAt r 2
     let group (i : Nat) : Nat := word (8 + 3 * i)
     let kind (i : Nat) : Nat := byteAt r (10 + 3 * i)
     let malformed := (∃ i < 5, byteAt r (3 + i) ≠ 0) ∨ 8 < steps
     let badKind := ∃ i < steps, kind i < 1 ∨ 3 < kind i
     let badGroup := ∃ i < steps, 1023 < group i
     let badOrder := (∃ j < steps, ∃ i < j, group i = group j) ∨ (∃ i < steps, 0 < i ∧ kind i = 1) ∨
       (∃ k < steps, ∃ j < k, ∃ i < j, kind i = 3 ∧ kind j ≠ 3 ∧ kind k = 3)
     (malformed → badRouteList r = some .format) ∧
     (¬ malformed → 2047 < word 0 → badRouteList r = some .range) ∧
     (¬ malformed → word 0 ≤ 2047 → badKind → badRouteList r = some .format) ∧
     (¬ malformed → word 0 ≤ 2047 → ¬ badKind → badGroup → badRouteList r = some .range) ∧
     (¬ malformed → word 0 ≤ 2047 → ¬ badKind → ¬ badGroup → badOrder → badRouteList r = some .format) ∧
     (¬ malformed → word 0 ≤ 2047 → ¬ badKind → ¬ badGroup → ¬ badOrder → badRouteList r = none) ∧
     (stepsOf r).length = steps ∧
     (∀ i < steps, ∀ k : StepKind, k.code = kind i → (stepsOf r)[i]? = some { group := group i, kind := k })) ∧
    (let cell := byteAt r 0
     (cell / 16 ≠ 0 → badCell r = some .format) ∧
     (cell / 16 = 0 → 7 < cell % 16 → badCell r = some .range) ∧
     (cell / 16 = 0 → cell % 16 ≤ 7 → badCell r = none)) ∧
    (let inside := 1 ≤ byteAt r 0 ∧ byteAt r 0 ≤ 12 ∧ 1 ≤ byteAt r 1 ∧ byteAt r 1 ≤ 31
     (byteAt r 2 ≠ 0 ∨ byteAt r 3 ≠ 0 → badHoliday r = some .format) ∧
     (byteAt r 2 = 0 → byteAt r 3 = 0 → ¬ inside → badHoliday r = some .range) ∧
     (byteAt r 2 = 0 → byteAt r 3 = 0 → inside → badHoliday r = none))

/-- SWITCH PLAN: with a load queued it is answered LOAD_IN_PROGRESS and has no effect; otherwise the other bank becomes active
and the band is evaluated from it in the same event; no bank's content changes. -/
def Obligations.SwitchPlanExchangesTheBanks : Prop :=
  ∀ (s : State) (slot : Nat) (req : List Byte), served .switchPlan s = some (slot, req) →
    reservedClear .switchPlan req = true →
    (s.plan.queue ≠ [] → exec .switchPlan s = .next (reply slot req .loadInProgress 0 [] s)) ∧
    (s.plan.queue = [] →
      ∃ u, exec .switchPlan s = .next (reply slot req .ok 0 [⟨72, 1, if s.plan.active = .a then 1 else 0⟩] u) ∧
        u.plan = { s.plan with active := if s.plan.active = .a then .b else .a } ∧
        u.clock = { s.clock with band := u.clock.band } ∧ BandEvaluated s u ∧
        u = ((s.setPlan u.plan).setClock u.clock).setContexts u.contexts)

/-! ### Time -/

/-- SET CALENDAR: the first field outside its range gives RANGE with its number and no effect; otherwise the seven fields are
stored with tenth 0, the clock becomes SET, the calendar divider is cleared, the band is evaluated and the compare made. ALIGN
MINUTE: with the clock UNSET it is answered WRONG_STATE; otherwise second and tenth become 0 and the time moves to the nearer
minute, into the next minute, hour and day from second 30 on, with the same three effects. The answer counts the pending sets
whose effective time is not after the new calendar. That a set which an earlier compare handed over is not counted again, and
stays handed over when the calendar moves back, is the model's choice (notes/assumptions/24.md). -/
def Obligations.CalendarIsSetOrAligned : Prop :=
  let bytes (c : Calendar) : Nat :=
    c.year + 256 * c.month + 256 ^ 2 * c.day + 256 ^ 3 * c.weekday + 256 ^ 4 * c.hour + 256 ^ 5 * c.minute +
      256 ^ 6 * c.second + 256 ^ 7 * c.tenth
  let findsDue (s : State) (cal : Calendar) (due : List (Nat × Direction)) : Prop :=
    due.Nodup ∧ ∀ k d, (k, d) ∈ due ↔
      ∃ p, ((s.carrier k).tariffs d).pending = some p ∧ p.handed = false ∧ p.time.fields ≤ cal.fields
  (∀ (s : State) (slot : Nat) (req : List Byte), served .setCalendar s = some (slot, req) →
    reservedClear .setCalendar req = true →
    let ranges : List (Nat × Nat × Nat) :=
      [(8, 0, 99), (9, 1, 12), (10, 1, 31), (11, 0, 6), (12, 0, 23), (13, 0, 59), (14, 0, 59)]
    let inRange (f : Nat × Nat × Nat) : Prop := f.2.1 ≤ byteAt req f.1 ∧ byteAt req f.1 ≤ f.2.2
    let cal : Calendar :=
      { year := byteAt req 8, month := byteAt req 9, day := byteAt req 10, weekday := byteAt req 11, hour := byteAt req 12,
        minute := byteAt req 13, second := byteAt req 14, tenth := 0 }
    (∀ pre f post, ranges = pre ++ f :: post → (∀ h ∈ pre, inRange h) → ¬ inRange f →
      exec .setCalendar s = .next (reply slot req .range (pre.length + 1) [] s)) ∧
    ((∀ f ∈ ranges, inRange f) → s.Canonical →
      ∃ u due, CalendarMoved s u cal ∧ findsDue s cal due ∧ exec .setCalendar s = .next (reply slot req .ok 0
        [⟨72, 8, bytes cal⟩, ⟨80, 1, if s.backup.clockSet then 1 else 0⟩, ⟨81, 1, u.clock.band⟩,
         ⟨82, 1, if u.clock.band = s.clock.band then 0 else 1⟩, ⟨84, 2, due.length⟩] u))) ∧
  (∀ (s : State) (slot : Nat) (req : List Byte), served .alignMinute s = some (slot, req) →
    reservedClear .alignMinute req = true →
    (s.backup.clockSet = false → exec .alignMinute s = .next (reply slot req .wrongState 0 [] s)) ∧
    (s.backup.clockSet = true → s.backup.calendar.Legal → s.Canonical →
      ∃ u cal due, CalendarMoved s u cal ∧ findsDue s cal due ∧ cal.second = 0 ∧ cal.tenth = 0 ∧
        (s.backup.calendar.second < 30 → cal = { s.backup.calendar with second := 0, tenth := 0 }) ∧
        (30 ≤ s.backup.calendar.second →
          cal = addTenth { s.backup.calendar with second := 59, tenth := 9 }) ∧
        exec .alignMinute s = .next (reply slot req .ok 0
          [⟨72, 8, bytes cal⟩, ⟨80, 1, s.backup.calendar.second⟩, ⟨81, 1, u.clock.band⟩,
           ⟨82, 1, if u.clock.band = s.clock.band then 0 else 1⟩, ⟨84, 2, due.length⟩] u)))

/-- TENTH_ADVANCE, once the calendar divider has counted 800 slots: the divider returns to 0 and a SET calendar adds a tenth;
outside a reset a half-hour carry evaluates the band, and a second carry then makes the compare; an UNSET calendar stands, and
during a RESET line or SOFT RESET nothing is evaluated or compared. Before it is due nothing changes (the model's choice,
notes/assumptions/1.md). The tenth added carries: a tenth that makes no day carry moves the time of day alone; at a day carry
the day rises below its month's length and otherwise becomes 1 with the month, and after month 12 the year, carried; the weekday
rises with it; a February is of 29 days in a year divisible by 4. -/
def Obligations.TenthAdvanceCarriesTheCalendar : Prop :=
  (∀ c : Calendar, c.Legal →
    let length := if c.month = 2 then (if c.year % 4 = 0 then 29 else 28)
      else if c.month ∈ [4, 6, 9, 11] then 30 else 31
    let d := addTenth c
    d.Legal ∧ d.tenths = (c.tenths + 1) % 864000 ∧
    (c.tenths ≠ 863999 → d.year = c.year ∧ d.month = c.month ∧ d.day = c.day ∧ d.weekday = c.weekday) ∧
    (c.tenths = 863999 →
      d.weekday = (c.weekday + 1) % 7 ∧
      (c.day < length → d.day = c.day + 1 ∧ d.month = c.month ∧ d.year = c.year) ∧
      (length ≤ c.day → d.day = 1 ∧ (c.month < 12 → d.month = c.month + 1 ∧ d.year = c.year) ∧
        (c.month = 12 → d.month = 1 ∧ d.year = (c.year + 1) % 100)))) ∧
  (∀ s : State, s.up = true ∨ (s.power.main = true ∧ (s.power.reset = some .line ∨ s.power.reset = some .soft)) →
    let cal := s.backup.calendar
    (s.clock.calDivider < 800 → exec .tenthAdvance s = .next s) ∧
    (800 ≤ s.clock.calDivider → s.backup.clockSet = false →
      exec .tenthAdvance s = .next (s.setClock { s.clock with calDivider := 0 })) ∧
    (800 ≤ s.clock.calDivider → s.backup.clockSet = true → cal.Legal →
      ∃ u, exec .tenthAdvance s = .next u ∧ u.backup = { s.backup with calendar := addTenth cal } ∧
        u.clock = { s.clock with calDivider := 0, band := u.clock.band } ∧
        (s.up = true → cal.tenths % 18000 = 17999 → BandEvaluated s u) ∧
        (s.up = false ∨ cal.tenths % 18000 ≠ 17999 → u.clock.band = s.clock.band ∧ u.contexts = s.contexts) ∧
        (s.up = true → cal.tenth = 9 → Compared s u) ∧
        (s.up = false ∨ cal.tenth ≠ 9 → u.carriers = s.carriers) ∧
        u = (((s.setBackup u.backup).setClock u.clock).setContexts u.contexts).setCarriers u.carriers))

/-- FRAME_SLOT, with nothing due from earlier slots: both dividers advance by one and the monitor counts the slot in its run;
REFERENCE_LOSS at a missing run of 8 and REFERENCE_LOCK at a present run of 64 change the state with both runs 0 and a status
event, the loss besides setting FREE_RUNNING in every ANSWERED context; neither moves a divider. Before their run both change
nothing (the model's choice, notes/assumptions/1.md). That the slot which brings a divider to 800 or a run to 8 or 64 leaves it
there, for a step of its own to return, is the model's choice too (notes/assumptions/7.md), and so is that a slot first takes
what earlier slots made due (notes/assumptions/6.md). During the RESET line or a SOFT RESET a slot advances the calendar divider
alone; that it does not during a power-on reset is deduced (notes/assumptions/23.md), and a part without main supply has none. -/
def Obligations.SlotsRunTheDividersAndTheMonitor : Prop :=
  let counted (present : Bool) (s : State) : State :=
    let c := s.clock
    s.setClock { c with
      tickDivider := c.tickDivider + 1, calDivider := c.calDivider + 1,
      missingRun := if c.reference = .locked then (if present then 0 else c.missingRun + 1) else c.missingRun,
      presentRun := if c.reference = .locked then c.presentRun else if present then c.presentRun + 1 else 0 }
  (∀ (s : State) (present : Bool), s.up = false →
    let afterReset (v : State) : State := v.setClock { v.clock with calDivider := v.clock.calDivider + 1 }
    (s.power.main = true → (s.power.reset = some .line ∨ s.power.reset = some .soft) →
      (s.clock.calDivider < 800 → exec (.frameSlot present) s = .next (afterReset s)) ∧
      (800 ≤ s.clock.calDivider →
        ∃ v, exec .tenthAdvance s = .next v ∧ exec (.frameSlot present) s = .next (afterReset v))) ∧
    (s.power.main = false ∨ s.power.reset = some .power → exec (.frameSlot present) s = .next s)) ∧
  ∀ s : State, s.up = true →
    let c := s.clock
    (∀ present, ∃ v, Runs [.referenceLoss, .referenceLock, .tickAdvance, .tenthAdvance] s v ∧
      exec (.frameSlot present) s = .next (counted present v)) ∧
    (∀ present : Bool, c.tickDivider < 800 → c.calDivider < 800 → (c.reference = .locked → c.missingRun < 8) →
      (c.reference = .freeRunning → c.presentRun < 64) →
      exec (.frameSlot present) s = .next (counted present s)) ∧
    ((c.reference = .freeRunning ∨ c.missingRun < 8) → exec .referenceLoss s = .next s) ∧
    ((c.reference = .locked ∨ c.presentRun < 64) → exec .referenceLock s = .next s) ∧
    (c.reference = .freeRunning → 64 ≤ c.presentRun →
      exec .referenceLock s = .next (statusEvent (s.setClock { c with
        reference := .locked, presentRun := 0, missingRun := 0 }))) ∧
    (c.reference = .locked → 8 ≤ c.missingRun →
      ∃ u, exec .referenceLoss s = .next u ∧
        u.clock = { c with reference := .freeRunning, presentRun := 0, missingRun := 0 } ∧
        u.regs = (statusEvent s).regs ∧
        (∀ i, u.context i = match (s.context i).state with
          | .answered call a =>
            { generation := (s.context i).generation, state := .answered call { a with freeRunning := true } }
          | _ => s.context i) ∧
        u.contexts = { s.contexts with table := u.contexts.table } ∧
        u = ((s.setClock u.clock).setRegs u.regs).setContexts u.contexts)

/-- TICK_ADVANCE, once the tick divider has counted 800 slots: the tick counter rises by 1, wrapping, and the divider returns
to 0; with nothing else due at the tick that ends, every gap lifetime above 0 falls by 1, an entry brought to 0 being due for
removal, and nothing else changes. What is due and not yet taken is taken before the rise (the model's choice,
notes/assumptions/6.md), and so are that the command changes nothing before it is due (notes/assumptions/1.md) and that an
entry brought to 0 stands due for removal (notes/assumptions/16.md). The order is: lapsed gap entries, sets handed over,
expiries by index, long-call marks by index, the period end. -/
def Obligations.TickAdvanceRaisesTheCounter : Prop :=
  ∀ s : State, s.up = true →
    (s.clock.tickDivider < 800 → exec .tickAdvance s = .next s) ∧
    (800 ≤ s.clock.tickDivider →
      ∃ u, exec .tickAdvance s = .next u ∧ u.clock = { s.clock with tick := s.clock.tick + 1#32, tickDivider := 0 } ∧
        ((∀ e ∈ s.supervision.gaps, e.lapsed = false) →
         (∀ k d p, ((s.carrier k).tariffs d).pending = some p → p.handed = false) →
         (∀ i call deadline, (s.context i).state = .provisional call deadline → 2 ^ 31 ≤ (s.now - deadline).toNat) →
         (∀ i call a, (s.context i).state = .answered call a →
           a.long = true ∨ 2 ^ 31 ≤ (s.now - (a.tick + 864000#32)).toNat) →
         2 ^ 31 ≤ (s.now - s.supervision.periodEnd).toNat →
          u.supervision = { s.supervision with
            gaps := s.supervision.gaps.map (fun e => if 0 < e.lifetime then
              { e with lifetime := e.lifetime - 1, lapsed := decide (e.lifetime = 1) } else e) } ∧
          (∀ i, u.context i = s.context i) ∧ u.contexts = { s.contexts with table := u.contexts.table } ∧
          u = ((s.setClock u.clock).setSupervision u.supervision).setContexts u.contexts)) ∧
    (800 ≤ s.clock.tickDivider → s.supervision.Legal → s.Conserved → s.CallsLegal → s.TariffsLegal →
      ∃ (lapses : List (List Nat)) (sets : List (Nat × Direction)) (expiries marks : List Nat) (v : State),
        (∀ code, code ∈ lapses ↔ ∃ e ∈ s.supervision.gaps, e.code = code ∧ e.lapsed = true) ∧
        (∀ k d, (k, d) ∈ sets ↔ ∃ p, ((s.carrier k).tariffs d).pending = some p ∧ p.handed = true) ∧
        (∀ i, i ∈ expiries ↔
          ∃ call deadline, (s.context i).state = .provisional call deadline ∧ (s.now - deadline).toNat < 2 ^ 31) ∧
        (∀ i, i ∈ marks ↔ ∃ call a, (s.context i).state = .answered call a ∧ a.long = false ∧
          (s.now - (a.tick + 864000#32)).toNat < 2 ^ 31) ∧
        expiries.Pairwise (· < ·) ∧ marks.Pairwise (· < ·) ∧
        Runs (lapses.map .gapEntryLapse ++ sets.map (fun x => .tariffActivation x.1 x.2) ++
          expiries.map .confirmationExpiry ++ marks.map .longCallMark ++ [.periodEnd]) s v ∧
        exec .tickAdvance s = .next
          ((v.setClock { v.clock with tick := s.clock.tick + 1#32, tickDivider := 0 }).setSupervision { v.supervision with
            gaps := v.supervision.gaps.map (fun e => if 0 < e.lifetime then
              { e with lifetime := e.lifetime - 1, lapsed := decide (e.lifetime = 1) } else e) }))

/-! ### Carriers and tariffs -/

/-- LOAD TARIFF: a block address that is not a multiple of 8 gives FORMAT, the first field outside its values RANGE, and TIMED
with the clock UNSET WRONG_STATE; otherwise the Carrier Table holds the request and the read of 256 bytes is asked for. That
RANGE carries the field's number is the model's choice (notes/assumptions/17.md). -/
def Obligations.LoadTariffChecksAndBegins : Prop :=
  ∀ (s : State) (slot : Nat) (req : List Byte), served .loadTariff s = some (slot, req) →
    reservedClear .loadTariff req = true →
    let timed := byteAt req 10 = 1
    let ranges : List (Nat × Nat × Nat) := [(8, 1, 255), (9, 0, 1), (10, 0, 1)] ++
      (if timed then [(16, 0, 99), (17, 1, 12), (18, 1, 31), (19, 0, 23), (20, 0, 59), (21, 0, 59)] else [])
    let inRange (f : Nat × Nat × Nat) : Prop := f.2.1 ≤ byteAt req f.1 ∧ byteAt req f.1 ≤ f.2.2
    (readLE req 12 4 % 8 ≠ 0 → exec .loadTariff s = .next (reply slot req .format 0 [] s)) ∧
    (readLE req 12 4 % 8 = 0 →
      (∀ pre f post, ranges = pre ++ f :: post → (∀ h ∈ pre, inRange h) → ¬ inRange f →
        exec .loadTariff s = .next (reply slot req .range (pre.length + 1) [] s)) ∧
      ((∀ f ∈ ranges, inRange f) → timed → s.backup.clockSet = false →
        exec .loadTariff s = .next (reply slot req .wrongState 0 [] s)) ∧
      ((∀ f ∈ ranges, inRange f) → (timed → s.backup.clockSet = true) →
        exec .loadTariff s = .next (ask .carrier
          { purpose := .tariffBlock, write := false, addr := BitVec.ofNat 32 (readLE req 12 4), left := 256, data := [],
            burst := none }
          ((markBegun slot req s).setCarrierJob (some (.tariff slot req))))))

/-- The last burst of a tariff block: the first of the eight records with nonzero reserved bytes gives FORMAT with its number;
otherwise every field is clamped, each clamp marked in the answer, and the set is activated when IMMEDIATE or when its effective
time is reached, the pending set kept, or else becomes the pending set in place of the one held. A set that a compare has handed over is activated before it
(how the model holds a set handed over is its choice, notes/assumptions/24.md). -/
def Obligations.TariffBlockIsAppliedOrHeld : Prop :=
  ∀ (s : State) (t : Transfer) (ts : List Transfer) (data : List Byte) (slot : Nat) (req : List Byte),
    Completes s .carrier t ts data → t.write = false → t.purpose = .tariffBlock →
    s.carrierJob = some (.tariff slot req) →
    let k := byteAt req 8
    let d := directionOf req
    let records : List (List Byte) := recordsOf 32 8 (t.data ++ data)
    let reserved (r : List Byte) : Prop := ∃ i < 14, byteAt r (18 + i) ≠ 0
    let written (r : List Byte) : BandRecord :=
      { setup := readLE r 0 4, rate := readLE r 4 4, minimum := readLE r 8 4, initial := readLE r 12 2,
        subsequent := readLE r 14 2, surcharge := readLE r 16 2 }
    let stored (w : BandRecord) : BandRecord :=
      { setup := min w.setup 9999999, rate := min w.rate 999999, minimum := min w.minimum 9999999,
        initial := max 1 (min w.initial 3600), subsequent := max 1 (min w.subsequent 600), surcharge := min w.surcharge 500 }
    let set := records.map (fun r => stored (written r))
    let marks : List Bool := records.flatMap (fun r =>
      let w := written r
      let v := stored w
      [decide (v.setup ≠ w.setup), decide (v.rate ≠ w.rate), decide (v.minimum ≠ w.minimum), decide (v.initial ≠ w.initial),
       decide (v.subsequent ≠ w.subsequent), decide (v.surcharge ≠ w.surcharge)])
    let markField : Nat := ((List.range 48).map (fun i => if marks[i]? = some true then 2 ^ i else 0)).sum
    let time : EffectiveTime :=
      { year := byteAt req 16, month := byteAt req 17, day := byteAt req 18, hour := byteAt req 19, minute := byteAt req 20,
        second := byteAt req 21 }
    let timeField (t : EffectiveTime) : Nat :=
      t.year + 256 * t.month + 256 ^ 2 * t.day + 256 ^ 3 * t.hour + 256 ^ 4 * t.minute + 256 ^ 5 * t.second
    let s1 := (setTransfers .carrier ts s).setCarrierJob none
    let now := byteAt req 10 ≠ 1 ∨ time.fields ≤ s.backup.calendar.fields
    (∀ n r, records[n]? = some r → reserved r → (∀ m < n, ∀ q, records[m]? = some q → ¬ reserved q) →
      exec (.memoryBurstDone (.done data)) s = .next (serveNext .carrier (reply slot req .format (n + 1) [] s1))) ∧
    ((∀ r ∈ records, ¬ reserved r) →
      ∃ v : State,
        ((∀ p, ((s.carrier k).tariffs d).pending = some p → p.handed = false) → v = s1) ∧
        (∀ p, ((s.carrier k).tariffs d).pending = some p → p.handed = true → Activated s1 v k d p.records none) ∧
        (let held := ((v.carrier k).tariffs d).pending
        (now → ∃ u, Activated v u k d set held ∧
          exec (.memoryBurstDone (.done data)) s = .next (serveNext .carrier (reply slot req .ok 0
            [⟨72, 1, 0⟩, ⟨73, 1, if held.isSome then 2 else 0⟩, ⟨74, 1, marks.count true⟩, ⟨76, 6, 0⟩, ⟨82, 6, markField⟩]
            u))) ∧
        (¬ now → ∃ u,
          u.carrier k = (v.carrier k).setTariffs d
            { active := ((v.carrier k).tariffs d).active,
              pending := some { time := time, records := set, handed := false } } ∧
          (∀ j, j ≠ k → u.carrier j = v.carrier j) ∧ u = v.setCarriers u.carriers ∧
          exec (.memoryBurstDone (.done data)) s = .next (serveNext .carrier (reply slot req .ok 0
            [⟨72, 1, 1⟩, ⟨73, 1, if held.isSome then 3 else 2⟩, ⟨74, 1, marks.count true⟩,
             ⟨76, 6, (held.map (fun p => timeField p.time)).getD 0⟩, ⟨82, 6, markField⟩] u)))))

/-- TARIFF_ACTIVATION: the pending set that a compare has handed over becomes the active set of its carrier and direction, the
direction then holds none pending, and the calls of that carrier and direction take a boundary event; with none handed over it
changes nothing (the model's choice, notes/assumptions/1.md). CANCEL TARIFF: a nonzero reserved field gives FORMAT; carrier 0 or
another direction value gives RANGE; a pending set held is removed with its effective time in the OK answer and nothing else
changes; with none held the answer is NOT_PENDING. A set that a compare has handed over is activated first, and the answer is
then NOT_PENDING (how the model holds a set handed over is its choice, notes/assumptions/24.md). -/
def Obligations.PendingSetsAreActivatedOrCancelled : Prop :=
  (∀ (s : State) (k : Nat) (d : Direction), s.up = true → 1 ≤ k → k ≤ 255 →
    (∀ p, ((s.carrier k).tariffs d).pending = some p → p.handed = true →
      ∃ u, exec (.tariffActivation k d) s = .next u ∧ Activated s u k d p.records none) ∧
    ((∀ p, ((s.carrier k).tariffs d).pending = some p → p.handed = false) →
      exec (.tariffActivation k d) s = .next s)) ∧
  (∀ (s : State) (slot : Nat) (req : List Byte), served .cancelTariff s = some (slot, req) →
    let k := byteAt req 8
    let d := if byteAt req 9 = 0 then Direction.inbound else Direction.outbound
    let t := (s.carrier k).tariffs d
    (reservedClear .cancelTariff req = false → exec .cancelTariff s = .next (reply slot req .format 0 [] s)) ∧
    (reservedClear .cancelTariff req = true →
      (k = 0 ∨ 1 < byteAt req 9 → exec .cancelTariff s = .next (reply slot req .range 0 [] s)) ∧
      (k ≠ 0 → byteAt req 9 ≤ 1 →
        (t.pending = none → exec .cancelTariff s = .next (reply slot req .notPending 0 [] s)) ∧
        (∀ p, t.pending = some p → p.handed = false →
          ∃ u, exec .cancelTariff s = .next (reply slot req .ok 0 [⟨72, 6, p.time.value⟩] u) ∧
            u.carrier k = (s.carrier k).setTariffs d { active := t.active, pending := none } ∧
            (∀ j, j ≠ k → u.carrier j = s.carrier j) ∧ u = s.setCarriers u.carriers) ∧
        (∀ p, t.pending = some p → p.handed = true →
          ∃ u, exec .cancelTariff s = .next (reply slot req .notPending 0 [] u) ∧ Activated s u k d p.records none))))

/-- CLOSE PERIOD: a scope other than ONE or ALL, or ONE with carrier 0, gives RANGE, and ALL with a block address that is not a
multiple of 8 FORMAT. ONE places the carrier's five values and four marks in the close record, zeroes them and answers OK with
them; ALL does so for every carrier and asks for the write of the 8,192-byte result block, an entry of 32 bytes to each carrier;
once that is written, OK is answered with the tick of the close and the number of carriers with a mark. No open-handover count
changes. -/
def Obligations.ClosePeriodTakesTheSums : Prop :=
  (∀ (s : State) (slot : Nat) (req : List Byte), served .closePeriod s = some (slot, req) →
    reservedClear .closePeriod req = true →
    let scope := byteAt req 8
    let k := byteAt req 9
    let addr := readLE req 12 4
    let v := (s.settlement k).sums
    let job : CarrierJob := .close slot req s.now
    (1 < scope ∨ (scope = 0 ∧ k = 0) → exec .closePeriod s = .next (reply slot req .range 0 [] s)) ∧
    (scope = 1 → addr % 8 ≠ 0 → exec .closePeriod s = .next (reply slot req .format 0 [] s)) ∧
    (scope = 0 → k ≠ 0 →
      ∃ u, exec .closePeriod s = .next (reply slot req .ok 0
          [⟨72, 1, k⟩, ⟨73, 1, v.marks⟩, ⟨74, 2, v.unsettled⟩, ⟨76, 4, v.inCount⟩, ⟨80, 8, v.receivable⟩,
           ⟨88, 8, v.payable⟩, ⟨96, 4, v.outCount⟩] u) ∧
        u.settlement k = { s.settlement k with sums := Sums.zero } ∧
        (∀ j, j ≠ k → u.settlement j = s.settlement j) ∧
        u.backup = { s.backup with settlements := u.backup.settlements,
                                   closeRecord := some { scope := .one k, taken := [(k, v)] } } ∧
        u = (s.setBackup u.backup).setCarrierJob (some job)) ∧
    (scope = 1 → addr % 8 = 0 → s.Canonical →
      ∃ u taken, exec .closePeriod s = .next (ask .carrier
          { purpose := .resultBlock, write := true, addr := BitVec.ofNat 32 addr, left := 8192, data := resultBlock taken,
            burst := none } u) ∧
        (resultBlock taken).length = 8192 ∧ (∀ i < 32, (resultBlock taken)[i]? = some 0#8) ∧
        (∀ j, 1 ≤ j → j ≤ 255 →
          let e := ((resultBlock taken).drop (32 * j)).take 32
          let w := (s.settlement j).sums
          byteAt e 0 = j ∧ byteAt e 1 = w.marks ∧ (w.Legal → readLE e 2 2 = w.unsettled ∧ readLE e 4 4 = w.inCount ∧
            readLE e 8 8 = w.receivable ∧ readLE e 16 8 = w.payable ∧ readLE e 24 4 = w.outCount)) ∧
        (∀ j, u.settlement j = { s.settlement j with sums := Sums.zero }) ∧
        (∀ j, Table.read taken Sums.zero j = (s.settlement j).sums) ∧
        u.backup = { s.backup with settlements := u.backup.settlements,
                                   closeRecord := some { scope := .all (BitVec.ofNat 32 addr), taken := taken } } ∧
        u = (((markBegun slot req s).setBackup u.backup).setCarrierJob (some job)))) ∧
  (∀ (s : State) (t : Transfer) (ts : List Transfer) (slot : Nat) (req : List Byte) (tick : Tick) (r : CloseRecord),
    Completes s .carrier t ts [] → t.write = true → t.purpose = .resultBlock → s.carrierJob = some (.close slot req tick) →
    s.backup.closeRecord = some r →
    exec (.memoryBurstDone (.done [])) s = .next (serveNext .carrier (reply slot req .ok 0
      [⟨72, 4, tick.toNat⟩, ⟨76, 1, (r.taken.filter (fun e => decide (e.2.marks ≠ 0))).length⟩]
      (afterTransfer .carrier t ts s))))

/-! ### The register window and the engine -/

/-- RUN 1: while RUNNING it changes no state; from HALTED or DRAINING with no sweep owed the engine enters RUNNING and the
scan timer starts; with a sweep owed from a slot of the area, its strip is read first and no timer starts, from FAULTED too, where
the recovery waits for it; a sweep still in progress in DRAINING goes on. From FAULTED with no sweep owed the recovery begins
with the held answers, the first of which is written at once; with none held, TAKEN is written again for the first UNREAD entry;
with none of those the recovery is over. RUN 0 while RUNNING: the pass ends
at its first slot not examined, the rescan request is cleared and the scan timer stops, and the engine enters HALTED when
nothing is in hand and no mirror write or sweep is in progress, DRAINING otherwise; in any other engine state only RUN is
stored. The pass's outstanding strip read is given up (the model's choice, notes/assumptions/12.md), and a pass that the recovery
holds back is dropped (the model's choice, notes/assumptions/42.md). -/
def Obligations.RunBitDrivesTheEngine : Prop :=
  (∀ s : State, s.up = true →
    let regs := { s.regs with run := true, engine := .running }
    let unread : List Nat := (s.intake.inHand.filter (fun e => decide (e.phase = .unread))).map Entry.slot
    (s.regs.engine = .running → exec .runOne s = .next (s.setRegs regs)) ∧
    (s.regs.engine = .halted ∨ s.regs.engine = .draining → s.intake.sweep.owed = false →
      exec .runOne s = .next ((s.setRegs regs).setIntake { s.intake with timer := some s.regs.interval })) ∧
    (s.regs.engine = .halted ∨ s.regs.engine = .draining → s.intake.sweep.owed = true → s.intake.sweep.active = false →
      s.intake.sweep.next < 2 ^ s.regs.sizeExp →
      exec .runOne s = .next (ask .intake (stripFrom s .sweepStrip s.intake.sweep.next (2 ^ s.regs.sizeExp))
        ((s.setRegs regs).setIntake { s.intake with sweep := { s.intake.sweep with active := true, codes := [] } }))) ∧
    (s.regs.engine = .draining → s.intake.sweep.owed = true → s.intake.sweep.active = true →
      exec .runOne s = .next (s.setRegs regs)) ∧
    (s.regs.engine = .faulted → s.intake.sweep.owed = true → s.intake.sweep.active = false →
      s.intake.sweep.next < 2 ^ s.regs.sizeExp →
      exec .runOne s = .next (ask .intake (stripFrom s .sweepStrip s.intake.sweep.next (2 ^ s.regs.sizeExp))
        ((s.setRegs regs).setIntake { s.intake with
          recovery := some (.answers s.intake.formed.length),
          sweep := { s.intake.sweep with active := true, codes := [] } }))) ∧
    (∀ slot rest, s.regs.engine = .faulted → s.intake.sweep.owed = false → s.intake.formed = [] → unread = slot :: rest →
      exec .runOne s = .next (ask .intake (stripWrite s (.taken slot) slot 2#8)
        ((s.setRegs regs).setIntake { s.intake with
          timer := some s.regs.interval, recovery := some (.unread (slot :: rest)) }))) ∧
    (s.regs.engine = .faulted → s.intake.sweep.owed = false → s.intake.formed = [] → unread = [] →
      let ready : Intake := { s.intake with timer := some s.regs.interval, recovery := none, passDue := false }
      (s.intake.passDue = false → exec .runOne s = .next ((s.setRegs regs).setIntake ready)) ∧
      (s.intake.passDue = true → s.intake.pass = none → s.intake.resume < 2 ^ s.regs.sizeExp →
        ∃ u, exec .runOne s = .next u ∧ PassStarts ((s.setRegs regs).setIntake ready) u s.intake.resume)) ∧
    (∀ slot rest a, s.regs.engine = .faulted → s.intake.sweep.owed = false → s.intake.sweep.active = false →
      s.intake.writing = false → s.intake.formed = slot :: rest → s.intake.answerOf slot = some a →
      exec .runOne s = .next (ask .intake (bodyWrite s (.answerHalf slot) slot a)
        ((s.setRegs regs).setIntake { s.intake with
          timer := some s.regs.interval, recovery := some (.answers (rest.length + 1)), writing := true })))) ∧
  (∀ s : State, s.up = true →
    (s.regs.engine ≠ .running → exec .runZero s = .next (s.setRegs { s.regs with run := false })) ∧
    (s.regs.engine = .running →
      ∃ u, exec .runZero s = .next u ∧
        u.regs = { s.regs with
          run := false,
          engine := if s.intake.inHand = [] ∧ s.mirror.marks = none ∧ s.intake.sweep.active = false then .halted
            else .draining } ∧
        u.intake = { s.intake with
          pass := none, rescan := false, passDue := false, timer := none, resume := u.intake.resume } ∧
        (s.intake.pass = none → u.intake.resume = s.intake.resume) ∧
        (∀ p, s.intake.pass = some p → u.intake.resume = if p.left = 0 then 0 else p.next) ∧
        (let rest := { s.port with intake := s.port.intake.filter (fun t => !t.isStrip) }
         let carriesStrip := s.port.serving = some .intake ∧ ∃ t ts, s.port.intake = t :: ts ∧ t.isStrip = true
         (¬ carriesStrip → u.port = rest) ∧
         (carriesStrip → u.port = { rest with last := some .intake }.serve (burstBytes s.regs.burst))) ∧
        u = ((s.setRegs u.regs).setIntake u.intake).setPort u.port))

/-- The window places IDENT at 00h, CONTROL at 04h, AREA BASE at 08h, AREA SIZE at 0Ch, NUDGE at 10h, ATTENTION at 14h and
STATUS at 18h, for reads and writes; that another offset holds nothing, and the order in which a CONTROL write's fields act,
are the model's choice (notes/assumptions/9.md). The scan interval is stored clamped to 1..32 and the burst size as written;
AREA BASE, with bits 11..0 taken as 0, and AREA SIZE, with k clamped to 6..12, only while HALTED; IDENT and STATUS never. While
a reset is in progress every register write is ignored and reads return the reset values; that the same holds while the supply
is absent is the model's choice (notes/assumptions/1.md, notes/assumptions/20.md). Otherwise reads return what is stored, STATUS
the engine state, start kind, fault kind and fault slot, NUDGE FFFFFFFFh, and IDENT carries 0712h. That the bits which R168 does
not name read 0 is the model's choice (notes/assumptions/43.md). -/
def Obligations.RegisterWritesAndReads : Prop :=
  ∀ s : State,
    (readWindow s 0x00 = some (readRegister s .ident) ∧ readWindow s 0x04 = some (readRegister s .control) ∧
      readWindow s 0x08 = some (readRegister s .areaBase) ∧ readWindow s 0x0C = some (readRegister s .areaSize) ∧
      readWindow s 0x10 = some (readRegister s .nudge) ∧ readWindow s 0x14 = some (readRegister s .attention) ∧
      readWindow s 0x18 = some (readRegister s .status) ∧
      ∀ off, 0x18 < off ∨ off % 4 ≠ 0 → readWindow s off = none ∧ ∀ v, writeWindow off v s = s) ∧
    (∀ v : Word,
      let joins (off : Nat) (cs : List Instr) : Prop := writeWindow off v s = s.setPending (s.pending ++ cs)
      joins 0x00 [.registerWriteIgnored .ident v] ∧ joins 0x18 [.registerWriteIgnored .status v] ∧
      joins 0x08 [.areaBase v] ∧ joins 0x0C [.areaSize v] ∧ joins 0x10 [.nudge v] ∧ joins 0x14 [.attention v] ∧
      (v.getLsbD 2 = true → joins 0x04 [.softReset]) ∧
      (v.getLsbD 2 = false → ∃ (interval : BitVec 6) (burst : BitVec 2),
        interval.toNat = v.toNat / 256 % 64 ∧ burst.toNat = v.toNat / 65536 % 4 ∧
        joins 0x04 [.attnMode (v.getLsbD 1), .scanInterval interval, .burstSize burst,
          if v.getLsbD 0 then .runOne else .runZero])) ∧
    (∀ reg value, exec (.registerWriteIgnored reg value) s = .next s) ∧
    (s.up = false →
      (∀ c, (c = .runOne ∨ c = .runZero ∨ (∃ b, c = .attnMode b) ∨ (∃ x, c = .scanInterval x) ∨ (∃ x, c = .burstSize x) ∨
          (∃ v, c = .areaBase v) ∨ (∃ v, c = .areaSize v) ∨ (∃ v, c = .nudge v) ∨ (∃ v, c = .attention v) ∨
          c = .softReset) → exec c s = .next s) ∧
      readRegister s .control = 0x00020400#32 ∧ readRegister s .areaBase = 0#32 ∧ readRegister s .areaSize = 6#32 ∧
      readRegister s .attention = 0#32 ∧ readRegister s .nudge = 0xFFFFFFFF#32 ∧
      readRegister s .status = (if s.regs.startKind = .warm then 16#32 else 0#32)) ∧
    (s.up = true →
      (∀ x : BitVec 6, exec (.scanInterval x) s = .next (s.setRegs { s.regs with
        interval := if x = 0#6 then 1 else if 32 < x.toNat then 32 else x.toNat })) ∧
      (∀ x : BitVec 2, exec (.burstSize x) s = .next (s.setRegs { s.regs with burst := x.toNat })) ∧
      (∀ v : Word, s.regs.engine = .halted → ∃ w : Word, w.toNat = v.toNat / 4096 * 4096 ∧
        exec (.areaBase v) s = .next (s.setRegs { s.regs with base := w })) ∧
      (∀ v : Word, s.regs.engine = .halted → exec (.areaSize v) s = .next (s.setRegs { s.regs with
        sizeExp := if v.toNat % 16 < 6 then 6 else if 12 < v.toNat % 16 then 12 else v.toNat % 16 })) ∧
      (∀ v : Word, s.regs.engine ≠ .halted → exec (.areaBase v) s = .next s ∧ exec (.areaSize v) s = .next s) ∧
      readRegister s .areaBase = s.regs.base ∧ readRegister s .areaSize = BitVec.ofNat 32 s.regs.sizeExp ∧
      readRegister s .nudge = 0xFFFFFFFF#32 ∧
      (readRegister s .ident).toNat / 65536 = 0x0712 ∧
      (s.regs.Legal → (readRegister s .control).getLsbD 0 = s.regs.run ∧ (readRegister s .control).getLsbD 1 = s.regs.pulse ∧
        (readRegister s .control).getLsbD 2 = false ∧ (readRegister s .control).toNat / 256 % 64 = s.regs.interval ∧
        (readRegister s .control).toNat / 65536 = s.regs.burst) ∧
      (readRegister s .attention).getLsbD 0 = s.regs.answers ∧ (readRegister s .attention).getLsbD 1 = s.regs.events ∧
      (readRegister s .attention).getLsbD 2 = s.regs.fault ∧
      readRegister s .status = BitVec.ofNat 32
        ((match s.regs.engine with
          | .halted => 0
          | .running => 1
          | .draining => 2
          | .faulted => 3) +
         2 ^ 4 * (if s.regs.startKind = .warm then 1 else 0) +
         2 ^ 8 * (match s.regs.faultKind with
          | .none => 0
          | .strip => 1
          | .body => 2
          | .answer => 3
          | .mirror => 4) +
         2 ^ 16 * s.regs.faultSlot))

/-- The ATTN line: a write of ATTENTION clears the bits written as 0 and, in LATCHED mode, leaves the line asserted while a bit
is set; a change of mode to LATCHED asserts it at once if a bit is set, one to PULSE deasserts it; a pulse ends with the line
deasserted, and a cause asserts the line unless it finds its bit set. -/
def Obligations.AttentionDrivesTheLine : Prop :=
  ∀ s : State, s.up = true →
    (∀ v : Word, ∃ line, exec (.attention v) s = .next (s.setRegs { s.regs with
        answers := s.regs.answers && v.getLsbD 0, events := s.regs.events && v.getLsbD 1,
        fault := s.regs.fault && v.getLsbD 2, attnLine := line }) ∧
      (s.regs.pulse = true → line = s.regs.attnLine) ∧
      (s.regs.pulse = false → (line = true ↔ (s.regs.answers = true ∧ v.getLsbD 0 = true) ∨
        (s.regs.events = true ∧ v.getLsbD 1 = true) ∨ (s.regs.fault = true ∧ v.getLsbD 2 = true)))) ∧
    (exec (.attnMode s.regs.pulse) s = .next s) ∧
    (s.regs.pulse = false → exec (.attnMode true) s = .next (s.setRegs { s.regs with pulse := true, attnLine := false })) ∧
    (s.regs.pulse = true → exec (.attnMode false) s = .next (s.setRegs { s.regs with
      pulse := false, attnLine := s.regs.answers || s.regs.events || s.regs.fault })) ∧
    (s.regs.pulse = true → exec .attnPulseEnd s = .next (s.setRegs { s.regs with attnLine := false })) ∧
    (s.regs.pulse = false → exec .attnPulseEnd s = .next s) ∧
    (∀ b, (raiseBit b s).regs.attention b = true ∧
      (s.regs.attention b = true → raiseBit b s = s) ∧
      (s.regs.attention b = false → (raiseBit b s).regs.attnLine = true) ∧
      (∀ c, c ≠ b → (raiseBit b s).regs.attention c = s.regs.attention c))

/-- NUDGE and the scan timer: in RUNNING with no pass, sweep or recovery in progress either starts a pass of N slots from the
resume point, reading the strip from there; a NUDGE during a pass or sweep sets the rescan request, during a recovery it makes
a pass due, and outside RUNNING it does nothing; a timer that runs out during a pass starts nothing. -/
def Obligations.ScanPassesStart : Prop :=
  ∀ (s : State) (c : Instr) (v : Word), s.up = true →
    c = .nudge v ∨ (c = .scanTimerExpiry ∧ s.intake.timer ≠ none) →
    (s.regs.engine ≠ .running → exec c s = .next s) ∧
    (s.regs.engine = .running →
      (s.intake.sweep.active = true ∨ s.intake.pass ≠ none → c = .nudge v →
        exec c s = .next (s.setIntake { s.intake with rescan := true })) ∧
      (s.intake.sweep.active = false → s.intake.pass ≠ none → c = .scanTimerExpiry →
        exec c s = .next (s.setIntake { s.intake with timer := none })) ∧
      (s.intake.sweep.active = false → s.intake.pass = none → s.intake.recovery ≠ none →
        exec c s = .next (s.setIntake { s.intake with
          passDue := true, timer := if c = .scanTimerExpiry then none else s.intake.timer })) ∧
      (s.intake.sweep.active = false → s.intake.pass = none → s.intake.recovery = none →
        s.intake.resume < 2 ^ s.regs.sizeExp →
        ∃ u, exec c s = .next u ∧
          PassStarts (s.setIntake { s.intake with timer := if c = .scanTimerExpiry then none else s.intake.timer }) u
            s.intake.resume))

/-- The last bursts of a pass's and an answer's transfers. A strip read has its codes examined and the first POSTED slot taken;
once TAKEN is written the request half is read; once that is read the request waits for its owner, or is answered
FORMAT when its kind is none of the part's, and the pass goes on with the codes it holds, or the recovery with the next UNREAD
entry; once an answer half is written ANSWERED is. Once that is written, in RUNNING and in DRAINING, the entry leaves the list, a
close is settled, and the next formed answer's half is written. Step 1 of a recovery so goes on to its next held answer, and
after its last to step 2, the first UNREAD entry. With no answer left, a DRAINING engine with nothing in hand and no mirror
write enters HALTED. While a sweep is made the next answer waits. -/
def Obligations.TransfersCarryRequestsThrough : Prop :=
  ∀ (s : State) (t : Transfer) (ts : List Transfer) (data : List Byte), Completes s .intake t ts data →
    let v := afterTransfer .intake t ts s
    let bytes := t.data ++ data
    (∀ first p, t.purpose = .strip first → s.intake.pass = some p → p.next < 2 ^ s.regs.sizeExp →
      ∃ u, exec (.memoryBurstDone (.done data)) s = .next (serveNext .intake u) ∧ PassGoesOn v p bytes u) ∧
    (∀ slot, t.purpose = .taken slot →
      exec (.memoryBurstDone (.done data)) s = .next (serveNext .intake
        (ask .intake (bodyRead s (.requestHalf slot) slot 64) v))) ∧
    (∀ slot d, t.purpose = .requestHalf slot →
      (∀ k, kindOf bytes = some k → d = v.setIntake { s.intake with
        inHand := s.intake.inHand.map (fun e => if e.slot = slot then { e with phase := .withOwner bytes false } else e) }) →
      (kindOf bytes = none → d = reply slot bytes .format 0 [] v) →
      (∀ p, s.intake.pass = some p → p.taking = some slot → p.next < 2 ^ s.regs.sizeExp →
        ∃ u, exec (.memoryBurstDone (.done data)) s = .next (serveNext .intake u) ∧
          PassGoesOn d { p with taking := none } p.codes u) ∧
      (∀ next rest, s.intake.pass = none → s.intake.recovery = some (.unread (slot :: next :: rest)) →
        exec (.memoryBurstDone (.done data)) s = .next (serveNext .intake (ask .intake (stripWrite s (.taken next) next 2#8)
          (d.setIntake { d.intake with recovery := some (.unread (next :: rest)) })))) ∧
      (s.intake.pass = none → s.intake.recovery = some (.unread [slot]) →
        let ready : Intake := { d.intake with recovery := none, passDue := false }
        (s.intake.passDue = false →
          exec (.memoryBurstDone (.done data)) s = .next (serveNext .intake (d.setIntake ready))) ∧
        (s.intake.passDue = true → s.regs.engine = .running → s.intake.resume < 2 ^ s.regs.sizeExp →
          ∃ u, exec (.memoryBurstDone (.done data)) s = .next (serveNext .intake u) ∧
            PassStarts (d.setIntake ready) u s.intake.resume))) ∧
    (∀ slot, t.purpose = .answerHalf slot →
      exec (.memoryBurstDone (.done data)) s = .next (serveNext .intake
        (ask .intake (stripWrite s (.answered slot) slot 3#8) v))) ∧
    (∀ slot after, t.purpose = .answered slot → s.regs.engine = .running ∨ s.regs.engine = .draining →
      let b := if s.intake.isCloseOk slot then
          ((raiseBit .answers v).setBackup { s.backup with closeRecord := none }).setCarrierJob none
        else raiseBit .answers v
      let left := s.intake.inHand.filter (fun e => decide (e.slot ≠ slot))
      let unread := (left.filter (fun e => decide (e.phase = .unread))).map Entry.slot
      let dropped : Intake := { s.intake with inHand := left, writing := false, recovery := after }
      let goesOn := (s.intake.recovery = none ∧ after = none) ∨
        (∃ n, s.intake.recovery = some (.answers (n + 2)) ∧ after = some (.answers (n + 1))) ∨
        (∃ slots, s.intake.recovery = some (.unread slots) ∧ after = some (.unread slots))
      (∀ next rest a, goesOn → s.intake.sweep.active = false → s.intake.formed = slot :: next :: rest → slot ≠ next →
        slot ∉ rest → s.intake.answerOf next = some a →
        exec (.memoryBurstDone (.done data)) s = .next (serveNext .intake (ask .intake (bodyWrite s (.answerHalf next) next a)
          (b.setIntake { dropped with formed := next :: rest, writing := true })))) ∧
      (goesOn ∨ (s.intake.recovery = some (.answers 1) ∧ unread = [] ∧ s.intake.passDue = false ∧ after = none) →
        s.intake.sweep.active = false → s.intake.formed = [slot] →
        exec (.memoryBurstDone (.done data)) s = .next (serveNext .intake ((b.setIntake { dropped with formed := [] }).setRegs
          { b.regs with engine := if s.regs.engine = .draining ∧ left = [] ∧ s.mirror.marks = none then .halted
            else s.regs.engine }))) ∧
      (∀ x xs, s.intake.recovery = some (.answers 1) → unread = x :: xs → after = some (.unread (x :: xs)) →
        s.intake.sweep.active = false → s.intake.formed = [slot] →
        exec (.memoryBurstDone (.done data)) s = .next (serveNext .intake (ask .intake (stripWrite s (.taken x) x 2#8)
          (b.setIntake { dropped with formed := [] })))) ∧
      (s.intake.recovery = some (.answers 1) → unread = [] → after = none → s.intake.passDue = true →
        s.regs.engine = .running → s.intake.pass = none → s.intake.resume < 2 ^ s.regs.sizeExp →
        s.intake.sweep.active = false → s.intake.formed = [slot] →
        ∃ u, exec (.memoryBurstDone (.done data)) s = .next (serveNext .intake u) ∧
          PassStarts (b.setIntake { dropped with formed := [], passDue := false }) u s.intake.resume) ∧
      (goesOn → s.intake.sweep.active = true →
        exec (.memoryBurstDone (.done data)) s = .next (serveNext .intake (b.setIntake { dropped with
          formed := s.intake.formed.filter (fun i => decide (i ≠ slot)) }))))

/-- The abort sweep, with no answer waiting and no recovery in progress. Its strip reads have their codes worked through, and
a TAKEN slot's request header is read; the ABORTED_BY_RESET answer to that is written with the header's kind and tag and no
other field (that it holds no group index is the model's choice, notes/assumptions/34.md), then ANSWERED; then the ANSWERS bit is
set and the sweep goes on with the next slot. That in DRAINING none of the codes of a strip burst just read is worked through is
the model's choice (notes/assumptions/37.md). -/
def Obligations.SweepAnswersTakenSlots : Prop :=
  ∀ (s : State) (t : Transfer) (ts : List Transfer) (data : List Byte), Completes s .intake t ts data →
    s.regs.engine = .running ∨ s.regs.engine = .draining → s.intake.formed = [] → s.intake.recovery = none →
    let v := afterTransfer .intake t ts s
    let bytes := t.data ++ data
    let w := s.intake.sweep
    (t.purpose = .sweepStrip →
      ∃ u, exec (.memoryBurstDone (.done data)) s = .next (serveNext .intake u) ∧ SweepGoesOn v bytes u) ∧
    (t.purpose = .sweepHeader →
      ∃ a, exec (.memoryBurstDone (.done data)) s = .next (serveNext .intake
          (ask .intake (bodyWrite s .sweepAnswer w.next a) v)) ∧
        a.length = 64 ∧ byteAt a 0 = 16 ∧ byteAt a 1 = byteAt bytes 0 ∧ readLE a 4 4 = readLE bytes 4 4 ∧
        byteAt a 2 = 0 ∧ byteAt a 3 = 0 ∧ ∀ i, 8 ≤ i → byteAt a i = 0) ∧
    (t.purpose = .sweepAnswer →
      exec (.memoryBurstDone (.done data)) s = .next (serveNext .intake
        (ask .intake (stripWrite s .sweepAnswered w.next 3#8) v))) ∧
    (t.purpose = .sweepAnswered →
      ∃ u, exec (.memoryBurstDone (.done data)) s = .next (serveNext .intake u) ∧
        SweepGoesOn ((raiseBit .answers v).setIntake { s.intake with sweep := { w with next := w.next + 1 } }) w.codes u)

/-! ### Starts and supplies -/

/-- POWER_ON with the marker intact, SOFT_RESET and RESET_LINE_ASSERTED put every block outside the Backup Domain in its reset
state and start a warm reset: a full close record is added back, field by field up to its top with its marks set again, and
every open-handover count is carried into the unsettled count and zeroed; nothing else of the Backup Domain changes. That a warm
start's epoch is advanced at the reset's end and not here, and that a start within a cold power-on stays COLD, is the model's
choice (notes/assumptions/21.md), and so is that EVENTS set in an earlier reset is cleared (notes/assumptions/39.md) and that a
burst abandoned has stored nothing (notes/assumptions/40.md). -/
def Obligations.WarmStartsKeepTheBackupDomain : Prop :=
  ∀ (s : State) (c : Instr), s.backup.Legal →
    (c = .powerOn ∧ s.backup.marker = true) ∨ (c = .softReset ∧ s.up = true) ∨
      (c = .resetLineAsserted ∧ s.power.main = true) →
    let taken (k : Nat) : Sums := match s.backup.closeRecord with
      | some r => Table.read r.taken Sums.zero k
      | none => Sums.zero
    let v (k : Nat) := (s.settlement k).sums
    ∃ u, exec c s = .next u ∧
      (∀ k, u.settlement k =
        { openHandovers := 0,
          sums :=
            { receivable := min top48 ((v k).receivable + (taken k).receivable),
              payable := min top48 ((v k).payable + (taken k).payable),
              inCount := min top32 ((v k).inCount + (taken k).inCount),
              outCount := min top32 ((v k).outCount + (taken k).outCount),
              satReceivable := (v k).satReceivable || (taken k).satReceivable ||
                decide (top48 < (v k).receivable + (taken k).receivable),
              satPayable := (v k).satPayable || (taken k).satPayable ||
                decide (top48 < (v k).payable + (taken k).payable),
              satInCount := (v k).satInCount || (taken k).satInCount ||
                decide (top32 < (v k).inCount + (taken k).inCount),
              satOutCount := (v k).satOutCount || (taken k).satOutCount ||
                decide (top32 < (v k).outCount + (taken k).outCount),
              unsettled :=
                min 65535 (min 65535 ((v k).unsettled + (taken k).unsettled) + (s.settlement k).openHandovers) } }) ∧
      u.backup = { s.backup with settlements := u.backup.settlements, closeRecord := none } ∧
      u.power = { main := true, line := s.power.line || decide (c = .resetLineAsserted),
                  reset := some (if c = .powerOn then .power else if c = .softReset then .soft else .line) } ∧
      (s.backup.closeRecord = none → u.regs = Regs.reset u.regs.startKind) ∧
      u.regs = { Regs.reset u.regs.startKind with events := u.regs.events, attnLine := u.regs.events } ∧
      (s.power.reset = none ∨ c = .powerOn ∨ s.regs.startKind = .warm → u.regs.startKind = .warm) ∧
      u = { State.reset with
        backup := u.backup, regs := u.regs, power := u.power, mem := s.mem,
        failures := s.failures, pending := s.pending }

/-- POWER_ON with the marker lost zeroes the Backup Domain, sets the calendar and clock to their cold values, writes the
marker and makes the epoch 1. The loss of the main supply keeps the Backup Domain and abandons the rest, the part's stores
standing; while it is absent an assertion of the line changes only the line, with the backup supply a SET calendar goes on by
tenths with nothing evaluated, and a failure of the backup supply loses the marker. What the rest reads as meanwhile and
that a POWER_ON acts by the marker on a powered part too are the model's choice (notes/assumptions/20.md), and so is that
BACKUP_TENTH_ADVANCE and BACKUP_SUPPLY_FAILURE change nothing with the main supply present (notes/assumptions/1.md) and that a
burst abandoned has stored nothing (notes/assumptions/40.md). -/
def Obligations.ColdStartsAndSupplies : Prop :=
  (∀ s : State,
    (s.backup.marker = false →
      exec .powerOn s = .next { State.reset with
        power := { main := true, line := s.power.line, reset := some .power }, mem := s.mem, failures := s.failures,
        pending := s.pending }) ∧
    (s.power.main = false → exec .resetLineAsserted s = .next (s.setPower { s.power with line := true })) ∧
    (State.reset.backup.epoch = 1 ∧ State.reset.backup.marker = true ∧ State.reset.backup.clockSet = false ∧
      State.reset.backup.calendar =
        { year := 0, month := 1, day := 1, weekday := 5, hour := 0, minute := 0, second := 0, tenth := 0 } ∧
      State.reset.backup.closeRecord = none ∧ (∀ k, State.reset.settlement k = Settlement.zero) ∧
      State.reset.regs.engine = .halted ∧ State.reset.regs.startKind = .cold ∧ State.reset.clock.tick = 0#32 ∧
      State.reset.clock.reference = .freeRunning ∧ State.reset.intake.sweep.owed = true)) ∧
  (∀ s : State,
    (s.power.main = true →
      exec .mainSupplyLoss s = .next { State.reset with
        backup := s.backup, regs := Regs.reset s.regs.startKind,
        power := { main := false, line := s.power.line, reset := none }, mem := s.mem, failures := s.failures,
        pending := s.pending }) ∧
    (s.power.main = false →
      (s.backup.marker = true → s.backup.clockSet = true → exec .backupTenthAdvance s =
        .next (s.setBackup { s.backup with calendar := addTenth s.backup.calendar })) ∧
      (s.backup.marker = true → s.backup.clockSet = false → exec .backupTenthAdvance s = .next s) ∧
      (∃ u, exec .backupSupplyFailure s = .next u ∧ u.backup.marker = false ∧ u = s.setBackup u.backup)) ∧
    (s.power.main = true → exec .backupTenthAdvance s = .next s ∧ exec .backupSupplyFailure s = .next s))

/-- RESET_END ends a power-on reset or a SOFT RESET unless the line is asserted, which turns it into a reset from the line, and
RESET_LINE_RELEASED ends one from the line: the Calendar Unit stands as after any reset, a warm start's epoch is advanced, from
255 to 1, and one band evaluation is made. That a line release ends the reset itself is the model's choice
(notes/assumptions/22.md), and so are that the epoch is advanced here (notes/assumptions/21.md), that a tenth advance due and
not taken is dropped with its divider (notes/assumptions/33.md), and that with no reset in progress RESET_END changes nothing and
a release only lowers the line (notes/assumptions/1.md). -/
def Obligations.ResetsEnd : Prop :=
  ∀ (s : State) (c : Instr), s.power.main = true →
    (c = .resetEnd → s.power.line = true → (s.power.reset = some .power ∨ s.power.reset = some .soft) →
      exec c s = .next (s.setPower { s.power with reset := some .line })) ∧
    ((c = .resetEnd ∧ s.power.line = false ∧ (s.power.reset = some .power ∨ s.power.reset = some .soft)) ∨
      (c = .resetLineReleased ∧ s.power.reset = some .line) →
      (s.bank s.plan.active).bandMap = [] →
      exec c s = .next (((s.setPower { s.power with line := false, reset := none }).setClock
        { tick := 0#32, tickDivider := 0, calDivider := 0, band := 0, reference := .freeRunning, presentRun := 0,
          missingRun := 0 }).setBackup { s.backup with
            epoch := if s.regs.startKind = .warm then (if s.backup.epoch = 255 then 1 else s.backup.epoch + 1)
              else s.backup.epoch })) ∧
    (s.power.reset = none → exec .resetEnd s = .next s ∧
      exec .resetLineReleased s = .next (s.setPower { s.power with line := false }))

/-! ### The Memory Port -/

/-- The Memory Port. A transfer asked for waits behind its requester's others, and an idle port begins one at once; a transfer
begins with the burst size in force then, a strip read cut to one burst (that it is a transfer of its own is deduced,
notes/assumptions/11.md); the port serves the first requester of the rotation that waits. A MEMORY_BURST_DONE that is not the
transfer's last stores or reads its bytes, moves the transfer on and gives the next requester of the rotation its turn; the last
burst of an ANSWERED byte besides sets ANSWERS, takes the entry from the in-hand list and empties the close record if it was a
CLOSE PERIOD's OK. A burst that writes stores the transfer's next bytes at its address and no other byte of host memory
changes. -/
def Obligations.BurstsMoveTransfers : Prop :=
  (∀ (p : Port) (b : Nat), (p.serve b).last = p.last ∧
    (p.serve b).serving = (rotation p.last).find? (fun q => !(p.queue q).isEmpty) ∧
    ∀ q, (p.serve b).queue q = match p.queue q with
      | [] => []
      | x :: xs =>
        if (p.serve b).serving = some q ∧ x.burst = none then
          { x with burst := some b, left := if x.readsStrip then min x.left (b - x.addr.toNat % b) else x.left } :: xs
        else x :: xs) ∧
  (∀ r : Requester, rotation none = [.intake, .mirror, .plan, .carrier] ∧
    rotation (some r) = ((rotation none).dropWhile (fun q => decide (q ≠ r))).drop 1 ++
      (rotation none).takeWhile (fun q => decide (q ≠ r)) ++ [r]) ∧
  (∀ (r : Requester) (t : Transfer) (s : State),
    let p := s.port.setQueue r (s.port.queue r ++ [t])
    let size := if s.regs.burst = 0 then 8 else if s.regs.burst = 1 then 32 else if s.regs.burst = 2 then 64 else 128
    ask r t s = s.setPort (if s.port.serving = none then p.serve size else p)) ∧
  (∀ (s : State) (r : Requester) (t : Transfer) (ts : List Transfer) (data : List Byte),
    s.port.serving = some r → s.port.queue r = t :: ts → data.length ≤ 128 →
    data.length = (if t.write then 0 else t.burstLength) →
    (t.write = true → t.data.length = t.left) → t.burstLength ≤ 128 →
    let n := t.burstLength
    ∃ u, exec (.memoryBurstDone (.done data)) s = .next u ∧
      (t.write = false → u.mem = s.mem) ∧
      (t.write = true →
        (∀ i < n, Memory.byte u.mem ((t.addr + BitVec.ofNat 32 i).toNat) = t.data[i]?) ∧
        (∀ a, (∀ i < n, (t.addr + BitVec.ofNat 32 i).toNat ≠ a) → Memory.byte u.mem a = Memory.byte s.mem a)) ∧
      u.port.last = some r ∧
      (n < t.left →
        let moved : Transfer := { t with
          addr := t.addr + BitVec.ofNat 32 n, left := t.left - n,
          data := if t.write then t.data.drop n else t.data ++ data }
        u = (s.setMem u.mem).setPort
          ({ s.port.setQueue r (moved :: ts) with last := some r }.serve (burstBytes s.regs.burst))) ∧
      (∀ slot, n = t.left → t.purpose = .answered slot →
        u.regs.answers = true ∧ u.intake.inHand = s.intake.inHand.filter (fun e => decide (e.slot ≠ slot)) ∧
        u.intake.formed = s.intake.formed.filter (fun i => decide (i ≠ slot)) ∧
        (s.intake.isCloseOk slot = true → u.backup.closeRecord = none ∧ u.carrierJob = none) ∧
        (s.intake.isCloseOk slot = false → u.backup = s.backup ∧ u.carrierJob = s.carrierJob)))

/-- A bus error on a burst of the exchange area enters FAULTED with RUN 0, FAULT set and the fault's kind and slot, keeps the
in-hand list and the formed order, and ends the pass; the beats before the error are stored, and the failing beat is or is not
(a free value, notes/assumptions/35.md), but that of the mirror's opening write is and that of its closing write is not, so the
generation field holds the odd count. That it leaves no exchange-area transfer waiting is deduced (notes/assumptions/15.md), and so is that it brings the mirror's generation count to even when a
write was in progress, whichever transfer failed (notes/assumptions/14.md). On a load block, a tariff block or a result block it
gives MEMORY, with the banks and the tariff sets unchanged; a failed result block is restored as R153 gives, which may set
EVENTS. -/
def Obligations.BusErrorsFaultTheEngine : Prop :=
  ∀ (s : State) (r : Requester) (t : Transfer) (ts : List Transfer) (beat : Nat),
    s.port.serving = some r → s.port.queue r = t :: ts → beat < 16 → beat < beatCount t.addr.toNat t.burstLength →
    let expected : Option (FaultKind × Nat) := match t.purpose with
      | .strip first => some (.strip, first)
      | .taken slot => some (.strip, slot)
      | .requestHalf slot => some (.body, slot)
      | .answerHalf slot => some (.answer, slot)
      | .answered slot => some (.answer, slot)
      | .sweepStrip => some (.strip, s.intake.sweep.next)
      | .sweepHeader => some (.body, s.intake.sweep.next)
      | .sweepAnswer => some (.answer, s.intake.sweep.next)
      | .sweepAnswered => some (.answer, s.intake.sweep.next)
      | .mirrorOpen => some (.mirror, 0)
      | .mirrorBody => some (.mirror, 0)
      | .mirrorClose => some (.mirror, 0)
      | .loadBlock => none
      | .tariffBlock => none
      | .resultBlock => none
    let stored (beats : Nat) : Nat := if beats = 0 then 0 else min t.burstLength (8 * beats - t.addr.toNat % 8)
    ∃ u, exec (.memoryBurstDone (.busError beat)) s = .next u ∧
      (t.write = false → u.mem = s.mem) ∧
      (t.write = true → t.data.length = t.left → t.burstLength ≤ 128 →
        ∃ n, (n = stored beat ∨ n = stored (beat + 1)) ∧ (t.purpose = .mirrorOpen → n = stored (beat + 1)) ∧
          (t.purpose = .mirrorClose → n = stored beat) ∧
          (∀ i < n, Memory.byte u.mem ((t.addr + BitVec.ofNat 32 i).toNat) = t.data[i]?) ∧
          (∀ a, (∀ i < n, (t.addr + BitVec.ofNat 32 i).toNat ≠ a) → Memory.byte u.mem a = Memory.byte s.mem a)) ∧
      u.failures = (if t.write then s.failures + 1 else s.failures) ∧
      (∀ kind slot, expected = some (kind, slot) →
        u.regs = { s.regs with
          run := false, engine := .faulted, faultKind := kind, faultSlot := slot, fault := true,
          attnLine := s.regs.attnLine || !s.regs.fault } ∧
        u.port.intake = [] ∧ u.port.mirror = [] ∧
        u.intake.inHand = s.intake.inHand ∧ u.intake.formed = s.intake.formed ∧ u.intake.pass = none ∧
        u.intake.timer = none ∧ u.intake.rescan = false ∧ u.intake.sweep.owed = s.intake.sweep.owed ∧
        u.intake.sweep.active = false ∧ u.intake.sweep.next = s.intake.sweep.next ∧
        u.mirror = (if s.mirror.marks = none then s.mirror
          else { generation := if s.mirror.generation.toNat % 2 = 1 then s.mirror.generation + 1#32 else s.mirror.generation,
                 marks := none }) ∧
        (∀ p first, t.purpose = .strip first → s.intake.pass = some p → p.left ≠ 0 → u.intake.resume = p.next) ∧
        (∀ p slot, (t.purpose = .taken slot ∨ t.purpose = .requestHalf slot) → s.intake.pass = some p →
          p.taking = some slot → u.intake.resume = p.next) ∧
        u.groups = s.groups ∧ u.contexts = s.contexts ∧ u.backup = s.backup ∧ u.plan = s.plan ∧ u.carriers = s.carriers) ∧
      (∀ l rest, t.purpose = .loadBlock → r = .plan → s.plan.queue = l :: rest →
        exec (.memoryBurstDone (.busError beat)) s = .next (serveNext .plan (reply l.slot l.request .memory 0 []
          ((setTransfers .plan ts ((s.setMem u.mem).setFailures u.failures)).setPlan { s.plan with queue := rest, headBegun := false })))) ∧
      (∀ slot req, t.purpose = .tariffBlock → r = .carrier → s.carrierJob = some (.tariff slot req) →
        exec (.memoryBurstDone (.busError beat)) s = .next (serveNext .carrier (reply slot req .memory 0 []
          ((setTransfers .carrier ts ((s.setMem u.mem).setFailures u.failures)).setCarrierJob none)))) ∧
      (∀ slot req tick, t.purpose = .resultBlock → r = .carrier → s.carrierJob = some (.close slot req tick) →
        exec (.memoryBurstDone (.busError beat)) s = .next (serveNext .carrier (reply slot req .memory 0 []
          ((restoreClose (setTransfers .carrier ts ((s.setMem u.mem).setFailures u.failures))).setCarrierJob none))))
end

