-- ==== Sys2Proof/Laws/State.lean ====
section
/-! SUPPORT. What each update of State leaves and sets, one lemma per field per update, all by rfl. -/

namespace Sys2Proof.Machine

@[simp] theorem State.setPlan_plan (s : State) (x : PlanStore) : (s.setPlan x).plan = x := rfl
@[simp] theorem State.setPlan_groups (s : State) (x : PlanStore) : (s.setPlan x).groups = s.groups := rfl
@[simp] theorem State.setPlan_supervision (s : State) (x : PlanStore) : (s.setPlan x).supervision = s.supervision := rfl
@[simp] theorem State.setPlan_routeJob (s : State) (x : PlanStore) : (s.setPlan x).routeJob = s.routeJob := rfl
@[simp] theorem State.setPlan_contexts (s : State) (x : PlanStore) : (s.setPlan x).contexts = s.contexts := rfl
@[simp] theorem State.setPlan_clock (s : State) (x : PlanStore) : (s.setPlan x).clock = s.clock := rfl
@[simp] theorem State.setPlan_carriers (s : State) (x : PlanStore) : (s.setPlan x).carriers = s.carriers := rfl
@[simp] theorem State.setPlan_carrierJob (s : State) (x : PlanStore) : (s.setPlan x).carrierJob = s.carrierJob := rfl
@[simp] theorem State.setPlan_backup (s : State) (x : PlanStore) : (s.setPlan x).backup = s.backup := rfl
@[simp] theorem State.setPlan_intake (s : State) (x : PlanStore) : (s.setPlan x).intake = s.intake := rfl
@[simp] theorem State.setPlan_mirror (s : State) (x : PlanStore) : (s.setPlan x).mirror = s.mirror := rfl
@[simp] theorem State.setPlan_port (s : State) (x : PlanStore) : (s.setPlan x).port = s.port := rfl
@[simp] theorem State.setPlan_regs (s : State) (x : PlanStore) : (s.setPlan x).regs = s.regs := rfl
@[simp] theorem State.setPlan_power (s : State) (x : PlanStore) : (s.setPlan x).power = s.power := rfl
@[simp] theorem State.setPlan_mem (s : State) (x : PlanStore) : (s.setPlan x).mem = s.mem := rfl
@[simp] theorem State.setPlan_failures (s : State) (x : PlanStore) : (s.setPlan x).failures = s.failures := rfl
@[simp] theorem State.setPlan_pending (s : State) (x : PlanStore) : (s.setPlan x).pending = s.pending := rfl

@[simp] theorem State.setGroups_plan (s : State) (x : Table Group) : (s.setGroups x).plan = s.plan := rfl
@[simp] theorem State.setGroups_groups (s : State) (x : Table Group) : (s.setGroups x).groups = x := rfl
@[simp] theorem State.setGroups_supervision (s : State) (x : Table Group) : (s.setGroups x).supervision = s.supervision := rfl
@[simp] theorem State.setGroups_routeJob (s : State) (x : Table Group) : (s.setGroups x).routeJob = s.routeJob := rfl
@[simp] theorem State.setGroups_contexts (s : State) (x : Table Group) : (s.setGroups x).contexts = s.contexts := rfl
@[simp] theorem State.setGroups_clock (s : State) (x : Table Group) : (s.setGroups x).clock = s.clock := rfl
@[simp] theorem State.setGroups_carriers (s : State) (x : Table Group) : (s.setGroups x).carriers = s.carriers := rfl
@[simp] theorem State.setGroups_carrierJob (s : State) (x : Table Group) : (s.setGroups x).carrierJob = s.carrierJob := rfl
@[simp] theorem State.setGroups_backup (s : State) (x : Table Group) : (s.setGroups x).backup = s.backup := rfl
@[simp] theorem State.setGroups_intake (s : State) (x : Table Group) : (s.setGroups x).intake = s.intake := rfl
@[simp] theorem State.setGroups_mirror (s : State) (x : Table Group) : (s.setGroups x).mirror = s.mirror := rfl
@[simp] theorem State.setGroups_port (s : State) (x : Table Group) : (s.setGroups x).port = s.port := rfl
@[simp] theorem State.setGroups_regs (s : State) (x : Table Group) : (s.setGroups x).regs = s.regs := rfl
@[simp] theorem State.setGroups_power (s : State) (x : Table Group) : (s.setGroups x).power = s.power := rfl
@[simp] theorem State.setGroups_mem (s : State) (x : Table Group) : (s.setGroups x).mem = s.mem := rfl
@[simp] theorem State.setGroups_failures (s : State) (x : Table Group) : (s.setGroups x).failures = s.failures := rfl
@[simp] theorem State.setGroups_pending (s : State) (x : Table Group) : (s.setGroups x).pending = s.pending := rfl

@[simp] theorem State.setSupervision_plan (s : State) (x : Supervision) : (s.setSupervision x).plan = s.plan := rfl
@[simp] theorem State.setSupervision_groups (s : State) (x : Supervision) : (s.setSupervision x).groups = s.groups := rfl
@[simp] theorem State.setSupervision_supervision (s : State) (x : Supervision) : (s.setSupervision x).supervision = x := rfl
@[simp] theorem State.setSupervision_routeJob (s : State) (x : Supervision) : (s.setSupervision x).routeJob = s.routeJob := rfl
@[simp] theorem State.setSupervision_contexts (s : State) (x : Supervision) : (s.setSupervision x).contexts = s.contexts := rfl
@[simp] theorem State.setSupervision_clock (s : State) (x : Supervision) : (s.setSupervision x).clock = s.clock := rfl
@[simp] theorem State.setSupervision_carriers (s : State) (x : Supervision) : (s.setSupervision x).carriers = s.carriers := rfl
@[simp] theorem State.setSupervision_carrierJob (s : State) (x : Supervision) : (s.setSupervision x).carrierJob = s.carrierJob := rfl
@[simp] theorem State.setSupervision_backup (s : State) (x : Supervision) : (s.setSupervision x).backup = s.backup := rfl
@[simp] theorem State.setSupervision_intake (s : State) (x : Supervision) : (s.setSupervision x).intake = s.intake := rfl
@[simp] theorem State.setSupervision_mirror (s : State) (x : Supervision) : (s.setSupervision x).mirror = s.mirror := rfl
@[simp] theorem State.setSupervision_port (s : State) (x : Supervision) : (s.setSupervision x).port = s.port := rfl
@[simp] theorem State.setSupervision_regs (s : State) (x : Supervision) : (s.setSupervision x).regs = s.regs := rfl
@[simp] theorem State.setSupervision_power (s : State) (x : Supervision) : (s.setSupervision x).power = s.power := rfl
@[simp] theorem State.setSupervision_mem (s : State) (x : Supervision) : (s.setSupervision x).mem = s.mem := rfl
@[simp] theorem State.setSupervision_failures (s : State) (x : Supervision) : (s.setSupervision x).failures = s.failures := rfl
@[simp] theorem State.setSupervision_pending (s : State) (x : Supervision) : (s.setSupervision x).pending = s.pending := rfl

@[simp] theorem State.setRouteJob_plan (s : State) (x : Option RouteJob) : (s.setRouteJob x).plan = s.plan := rfl
@[simp] theorem State.setRouteJob_groups (s : State) (x : Option RouteJob) : (s.setRouteJob x).groups = s.groups := rfl
@[simp] theorem State.setRouteJob_supervision (s : State) (x : Option RouteJob) : (s.setRouteJob x).supervision = s.supervision := rfl
@[simp] theorem State.setRouteJob_routeJob (s : State) (x : Option RouteJob) : (s.setRouteJob x).routeJob = x := rfl
@[simp] theorem State.setRouteJob_contexts (s : State) (x : Option RouteJob) : (s.setRouteJob x).contexts = s.contexts := rfl
@[simp] theorem State.setRouteJob_clock (s : State) (x : Option RouteJob) : (s.setRouteJob x).clock = s.clock := rfl
@[simp] theorem State.setRouteJob_carriers (s : State) (x : Option RouteJob) : (s.setRouteJob x).carriers = s.carriers := rfl
@[simp] theorem State.setRouteJob_carrierJob (s : State) (x : Option RouteJob) : (s.setRouteJob x).carrierJob = s.carrierJob := rfl
@[simp] theorem State.setRouteJob_backup (s : State) (x : Option RouteJob) : (s.setRouteJob x).backup = s.backup := rfl
@[simp] theorem State.setRouteJob_intake (s : State) (x : Option RouteJob) : (s.setRouteJob x).intake = s.intake := rfl
@[simp] theorem State.setRouteJob_mirror (s : State) (x : Option RouteJob) : (s.setRouteJob x).mirror = s.mirror := rfl
@[simp] theorem State.setRouteJob_port (s : State) (x : Option RouteJob) : (s.setRouteJob x).port = s.port := rfl
@[simp] theorem State.setRouteJob_regs (s : State) (x : Option RouteJob) : (s.setRouteJob x).regs = s.regs := rfl
@[simp] theorem State.setRouteJob_power (s : State) (x : Option RouteJob) : (s.setRouteJob x).power = s.power := rfl
@[simp] theorem State.setRouteJob_mem (s : State) (x : Option RouteJob) : (s.setRouteJob x).mem = s.mem := rfl
@[simp] theorem State.setRouteJob_failures (s : State) (x : Option RouteJob) : (s.setRouteJob x).failures = s.failures := rfl
@[simp] theorem State.setRouteJob_pending (s : State) (x : Option RouteJob) : (s.setRouteJob x).pending = s.pending := rfl

@[simp] theorem State.setContexts_plan (s : State) (x : ContextTable) : (s.setContexts x).plan = s.plan := rfl
@[simp] theorem State.setContexts_groups (s : State) (x : ContextTable) : (s.setContexts x).groups = s.groups := rfl
@[simp] theorem State.setContexts_supervision (s : State) (x : ContextTable) : (s.setContexts x).supervision = s.supervision := rfl
@[simp] theorem State.setContexts_routeJob (s : State) (x : ContextTable) : (s.setContexts x).routeJob = s.routeJob := rfl
@[simp] theorem State.setContexts_contexts (s : State) (x : ContextTable) : (s.setContexts x).contexts = x := rfl
@[simp] theorem State.setContexts_clock (s : State) (x : ContextTable) : (s.setContexts x).clock = s.clock := rfl
@[simp] theorem State.setContexts_carriers (s : State) (x : ContextTable) : (s.setContexts x).carriers = s.carriers := rfl
@[simp] theorem State.setContexts_carrierJob (s : State) (x : ContextTable) : (s.setContexts x).carrierJob = s.carrierJob := rfl
@[simp] theorem State.setContexts_backup (s : State) (x : ContextTable) : (s.setContexts x).backup = s.backup := rfl
@[simp] theorem State.setContexts_intake (s : State) (x : ContextTable) : (s.setContexts x).intake = s.intake := rfl
@[simp] theorem State.setContexts_mirror (s : State) (x : ContextTable) : (s.setContexts x).mirror = s.mirror := rfl
@[simp] theorem State.setContexts_port (s : State) (x : ContextTable) : (s.setContexts x).port = s.port := rfl
@[simp] theorem State.setContexts_regs (s : State) (x : ContextTable) : (s.setContexts x).regs = s.regs := rfl
@[simp] theorem State.setContexts_power (s : State) (x : ContextTable) : (s.setContexts x).power = s.power := rfl
@[simp] theorem State.setContexts_mem (s : State) (x : ContextTable) : (s.setContexts x).mem = s.mem := rfl
@[simp] theorem State.setContexts_failures (s : State) (x : ContextTable) : (s.setContexts x).failures = s.failures := rfl
@[simp] theorem State.setContexts_pending (s : State) (x : ContextTable) : (s.setContexts x).pending = s.pending := rfl

@[simp] theorem State.setClock_plan (s : State) (x : ClockUnit) : (s.setClock x).plan = s.plan := rfl
@[simp] theorem State.setClock_groups (s : State) (x : ClockUnit) : (s.setClock x).groups = s.groups := rfl
@[simp] theorem State.setClock_supervision (s : State) (x : ClockUnit) : (s.setClock x).supervision = s.supervision := rfl
@[simp] theorem State.setClock_routeJob (s : State) (x : ClockUnit) : (s.setClock x).routeJob = s.routeJob := rfl
@[simp] theorem State.setClock_contexts (s : State) (x : ClockUnit) : (s.setClock x).contexts = s.contexts := rfl
@[simp] theorem State.setClock_clock (s : State) (x : ClockUnit) : (s.setClock x).clock = x := rfl
@[simp] theorem State.setClock_carriers (s : State) (x : ClockUnit) : (s.setClock x).carriers = s.carriers := rfl
@[simp] theorem State.setClock_carrierJob (s : State) (x : ClockUnit) : (s.setClock x).carrierJob = s.carrierJob := rfl
@[simp] theorem State.setClock_backup (s : State) (x : ClockUnit) : (s.setClock x).backup = s.backup := rfl
@[simp] theorem State.setClock_intake (s : State) (x : ClockUnit) : (s.setClock x).intake = s.intake := rfl
@[simp] theorem State.setClock_mirror (s : State) (x : ClockUnit) : (s.setClock x).mirror = s.mirror := rfl
@[simp] theorem State.setClock_port (s : State) (x : ClockUnit) : (s.setClock x).port = s.port := rfl
@[simp] theorem State.setClock_regs (s : State) (x : ClockUnit) : (s.setClock x).regs = s.regs := rfl
@[simp] theorem State.setClock_power (s : State) (x : ClockUnit) : (s.setClock x).power = s.power := rfl
@[simp] theorem State.setClock_mem (s : State) (x : ClockUnit) : (s.setClock x).mem = s.mem := rfl
@[simp] theorem State.setClock_failures (s : State) (x : ClockUnit) : (s.setClock x).failures = s.failures := rfl
@[simp] theorem State.setClock_pending (s : State) (x : ClockUnit) : (s.setClock x).pending = s.pending := rfl

@[simp] theorem State.setCarriers_plan (s : State) (x : Table Carrier) : (s.setCarriers x).plan = s.plan := rfl
@[simp] theorem State.setCarriers_groups (s : State) (x : Table Carrier) : (s.setCarriers x).groups = s.groups := rfl
@[simp] theorem State.setCarriers_supervision (s : State) (x : Table Carrier) : (s.setCarriers x).supervision = s.supervision := rfl
@[simp] theorem State.setCarriers_routeJob (s : State) (x : Table Carrier) : (s.setCarriers x).routeJob = s.routeJob := rfl
@[simp] theorem State.setCarriers_contexts (s : State) (x : Table Carrier) : (s.setCarriers x).contexts = s.contexts := rfl
@[simp] theorem State.setCarriers_clock (s : State) (x : Table Carrier) : (s.setCarriers x).clock = s.clock := rfl
@[simp] theorem State.setCarriers_carriers (s : State) (x : Table Carrier) : (s.setCarriers x).carriers = x := rfl
@[simp] theorem State.setCarriers_carrierJob (s : State) (x : Table Carrier) : (s.setCarriers x).carrierJob = s.carrierJob := rfl
@[simp] theorem State.setCarriers_backup (s : State) (x : Table Carrier) : (s.setCarriers x).backup = s.backup := rfl
@[simp] theorem State.setCarriers_intake (s : State) (x : Table Carrier) : (s.setCarriers x).intake = s.intake := rfl
@[simp] theorem State.setCarriers_mirror (s : State) (x : Table Carrier) : (s.setCarriers x).mirror = s.mirror := rfl
@[simp] theorem State.setCarriers_port (s : State) (x : Table Carrier) : (s.setCarriers x).port = s.port := rfl
@[simp] theorem State.setCarriers_regs (s : State) (x : Table Carrier) : (s.setCarriers x).regs = s.regs := rfl
@[simp] theorem State.setCarriers_power (s : State) (x : Table Carrier) : (s.setCarriers x).power = s.power := rfl
@[simp] theorem State.setCarriers_mem (s : State) (x : Table Carrier) : (s.setCarriers x).mem = s.mem := rfl
@[simp] theorem State.setCarriers_failures (s : State) (x : Table Carrier) : (s.setCarriers x).failures = s.failures := rfl
@[simp] theorem State.setCarriers_pending (s : State) (x : Table Carrier) : (s.setCarriers x).pending = s.pending := rfl

@[simp] theorem State.setCarrierJob_plan (s : State) (x : Option CarrierJob) : (s.setCarrierJob x).plan = s.plan := rfl
@[simp] theorem State.setCarrierJob_groups (s : State) (x : Option CarrierJob) : (s.setCarrierJob x).groups = s.groups := rfl
@[simp] theorem State.setCarrierJob_supervision (s : State) (x : Option CarrierJob) : (s.setCarrierJob x).supervision = s.supervision := rfl
@[simp] theorem State.setCarrierJob_routeJob (s : State) (x : Option CarrierJob) : (s.setCarrierJob x).routeJob = s.routeJob := rfl
@[simp] theorem State.setCarrierJob_contexts (s : State) (x : Option CarrierJob) : (s.setCarrierJob x).contexts = s.contexts := rfl
@[simp] theorem State.setCarrierJob_clock (s : State) (x : Option CarrierJob) : (s.setCarrierJob x).clock = s.clock := rfl
@[simp] theorem State.setCarrierJob_carriers (s : State) (x : Option CarrierJob) : (s.setCarrierJob x).carriers = s.carriers := rfl
@[simp] theorem State.setCarrierJob_carrierJob (s : State) (x : Option CarrierJob) : (s.setCarrierJob x).carrierJob = x := rfl
@[simp] theorem State.setCarrierJob_backup (s : State) (x : Option CarrierJob) : (s.setCarrierJob x).backup = s.backup := rfl
@[simp] theorem State.setCarrierJob_intake (s : State) (x : Option CarrierJob) : (s.setCarrierJob x).intake = s.intake := rfl
@[simp] theorem State.setCarrierJob_mirror (s : State) (x : Option CarrierJob) : (s.setCarrierJob x).mirror = s.mirror := rfl
@[simp] theorem State.setCarrierJob_port (s : State) (x : Option CarrierJob) : (s.setCarrierJob x).port = s.port := rfl
@[simp] theorem State.setCarrierJob_regs (s : State) (x : Option CarrierJob) : (s.setCarrierJob x).regs = s.regs := rfl
@[simp] theorem State.setCarrierJob_power (s : State) (x : Option CarrierJob) : (s.setCarrierJob x).power = s.power := rfl
@[simp] theorem State.setCarrierJob_mem (s : State) (x : Option CarrierJob) : (s.setCarrierJob x).mem = s.mem := rfl
@[simp] theorem State.setCarrierJob_failures (s : State) (x : Option CarrierJob) : (s.setCarrierJob x).failures = s.failures := rfl
@[simp] theorem State.setCarrierJob_pending (s : State) (x : Option CarrierJob) : (s.setCarrierJob x).pending = s.pending := rfl

@[simp] theorem State.setBackup_plan (s : State) (x : Backup) : (s.setBackup x).plan = s.plan := rfl
@[simp] theorem State.setBackup_groups (s : State) (x : Backup) : (s.setBackup x).groups = s.groups := rfl
@[simp] theorem State.setBackup_supervision (s : State) (x : Backup) : (s.setBackup x).supervision = s.supervision := rfl
@[simp] theorem State.setBackup_routeJob (s : State) (x : Backup) : (s.setBackup x).routeJob = s.routeJob := rfl
@[simp] theorem State.setBackup_contexts (s : State) (x : Backup) : (s.setBackup x).contexts = s.contexts := rfl
@[simp] theorem State.setBackup_clock (s : State) (x : Backup) : (s.setBackup x).clock = s.clock := rfl
@[simp] theorem State.setBackup_carriers (s : State) (x : Backup) : (s.setBackup x).carriers = s.carriers := rfl
@[simp] theorem State.setBackup_carrierJob (s : State) (x : Backup) : (s.setBackup x).carrierJob = s.carrierJob := rfl
@[simp] theorem State.setBackup_backup (s : State) (x : Backup) : (s.setBackup x).backup = x := rfl
@[simp] theorem State.setBackup_intake (s : State) (x : Backup) : (s.setBackup x).intake = s.intake := rfl
@[simp] theorem State.setBackup_mirror (s : State) (x : Backup) : (s.setBackup x).mirror = s.mirror := rfl
@[simp] theorem State.setBackup_port (s : State) (x : Backup) : (s.setBackup x).port = s.port := rfl
@[simp] theorem State.setBackup_regs (s : State) (x : Backup) : (s.setBackup x).regs = s.regs := rfl
@[simp] theorem State.setBackup_power (s : State) (x : Backup) : (s.setBackup x).power = s.power := rfl
@[simp] theorem State.setBackup_mem (s : State) (x : Backup) : (s.setBackup x).mem = s.mem := rfl
@[simp] theorem State.setBackup_failures (s : State) (x : Backup) : (s.setBackup x).failures = s.failures := rfl
@[simp] theorem State.setBackup_pending (s : State) (x : Backup) : (s.setBackup x).pending = s.pending := rfl

@[simp] theorem State.setIntake_plan (s : State) (x : Intake) : (s.setIntake x).plan = s.plan := rfl
@[simp] theorem State.setIntake_groups (s : State) (x : Intake) : (s.setIntake x).groups = s.groups := rfl
@[simp] theorem State.setIntake_supervision (s : State) (x : Intake) : (s.setIntake x).supervision = s.supervision := rfl
@[simp] theorem State.setIntake_routeJob (s : State) (x : Intake) : (s.setIntake x).routeJob = s.routeJob := rfl
@[simp] theorem State.setIntake_contexts (s : State) (x : Intake) : (s.setIntake x).contexts = s.contexts := rfl
@[simp] theorem State.setIntake_clock (s : State) (x : Intake) : (s.setIntake x).clock = s.clock := rfl
@[simp] theorem State.setIntake_carriers (s : State) (x : Intake) : (s.setIntake x).carriers = s.carriers := rfl
@[simp] theorem State.setIntake_carrierJob (s : State) (x : Intake) : (s.setIntake x).carrierJob = s.carrierJob := rfl
@[simp] theorem State.setIntake_backup (s : State) (x : Intake) : (s.setIntake x).backup = s.backup := rfl
@[simp] theorem State.setIntake_intake (s : State) (x : Intake) : (s.setIntake x).intake = x := rfl
@[simp] theorem State.setIntake_mirror (s : State) (x : Intake) : (s.setIntake x).mirror = s.mirror := rfl
@[simp] theorem State.setIntake_port (s : State) (x : Intake) : (s.setIntake x).port = s.port := rfl
@[simp] theorem State.setIntake_regs (s : State) (x : Intake) : (s.setIntake x).regs = s.regs := rfl
@[simp] theorem State.setIntake_power (s : State) (x : Intake) : (s.setIntake x).power = s.power := rfl
@[simp] theorem State.setIntake_mem (s : State) (x : Intake) : (s.setIntake x).mem = s.mem := rfl
@[simp] theorem State.setIntake_failures (s : State) (x : Intake) : (s.setIntake x).failures = s.failures := rfl
@[simp] theorem State.setIntake_pending (s : State) (x : Intake) : (s.setIntake x).pending = s.pending := rfl

@[simp] theorem State.setMirror_plan (s : State) (x : Mirror) : (s.setMirror x).plan = s.plan := rfl
@[simp] theorem State.setMirror_groups (s : State) (x : Mirror) : (s.setMirror x).groups = s.groups := rfl
@[simp] theorem State.setMirror_supervision (s : State) (x : Mirror) : (s.setMirror x).supervision = s.supervision := rfl
@[simp] theorem State.setMirror_routeJob (s : State) (x : Mirror) : (s.setMirror x).routeJob = s.routeJob := rfl
@[simp] theorem State.setMirror_contexts (s : State) (x : Mirror) : (s.setMirror x).contexts = s.contexts := rfl
@[simp] theorem State.setMirror_clock (s : State) (x : Mirror) : (s.setMirror x).clock = s.clock := rfl
@[simp] theorem State.setMirror_carriers (s : State) (x : Mirror) : (s.setMirror x).carriers = s.carriers := rfl
@[simp] theorem State.setMirror_carrierJob (s : State) (x : Mirror) : (s.setMirror x).carrierJob = s.carrierJob := rfl
@[simp] theorem State.setMirror_backup (s : State) (x : Mirror) : (s.setMirror x).backup = s.backup := rfl
@[simp] theorem State.setMirror_intake (s : State) (x : Mirror) : (s.setMirror x).intake = s.intake := rfl
@[simp] theorem State.setMirror_mirror (s : State) (x : Mirror) : (s.setMirror x).mirror = x := rfl
@[simp] theorem State.setMirror_port (s : State) (x : Mirror) : (s.setMirror x).port = s.port := rfl
@[simp] theorem State.setMirror_regs (s : State) (x : Mirror) : (s.setMirror x).regs = s.regs := rfl
@[simp] theorem State.setMirror_power (s : State) (x : Mirror) : (s.setMirror x).power = s.power := rfl
@[simp] theorem State.setMirror_mem (s : State) (x : Mirror) : (s.setMirror x).mem = s.mem := rfl
@[simp] theorem State.setMirror_failures (s : State) (x : Mirror) : (s.setMirror x).failures = s.failures := rfl
@[simp] theorem State.setMirror_pending (s : State) (x : Mirror) : (s.setMirror x).pending = s.pending := rfl

@[simp] theorem State.setPort_plan (s : State) (x : Port) : (s.setPort x).plan = s.plan := rfl
@[simp] theorem State.setPort_groups (s : State) (x : Port) : (s.setPort x).groups = s.groups := rfl
@[simp] theorem State.setPort_supervision (s : State) (x : Port) : (s.setPort x).supervision = s.supervision := rfl
@[simp] theorem State.setPort_routeJob (s : State) (x : Port) : (s.setPort x).routeJob = s.routeJob := rfl
@[simp] theorem State.setPort_contexts (s : State) (x : Port) : (s.setPort x).contexts = s.contexts := rfl
@[simp] theorem State.setPort_clock (s : State) (x : Port) : (s.setPort x).clock = s.clock := rfl
@[simp] theorem State.setPort_carriers (s : State) (x : Port) : (s.setPort x).carriers = s.carriers := rfl
@[simp] theorem State.setPort_carrierJob (s : State) (x : Port) : (s.setPort x).carrierJob = s.carrierJob := rfl
@[simp] theorem State.setPort_backup (s : State) (x : Port) : (s.setPort x).backup = s.backup := rfl
@[simp] theorem State.setPort_intake (s : State) (x : Port) : (s.setPort x).intake = s.intake := rfl
@[simp] theorem State.setPort_mirror (s : State) (x : Port) : (s.setPort x).mirror = s.mirror := rfl
@[simp] theorem State.setPort_port (s : State) (x : Port) : (s.setPort x).port = x := rfl
@[simp] theorem State.setPort_regs (s : State) (x : Port) : (s.setPort x).regs = s.regs := rfl
@[simp] theorem State.setPort_power (s : State) (x : Port) : (s.setPort x).power = s.power := rfl
@[simp] theorem State.setPort_mem (s : State) (x : Port) : (s.setPort x).mem = s.mem := rfl
@[simp] theorem State.setPort_failures (s : State) (x : Port) : (s.setPort x).failures = s.failures := rfl
@[simp] theorem State.setPort_pending (s : State) (x : Port) : (s.setPort x).pending = s.pending := rfl

@[simp] theorem State.setRegs_plan (s : State) (x : Regs) : (s.setRegs x).plan = s.plan := rfl
@[simp] theorem State.setRegs_groups (s : State) (x : Regs) : (s.setRegs x).groups = s.groups := rfl
@[simp] theorem State.setRegs_supervision (s : State) (x : Regs) : (s.setRegs x).supervision = s.supervision := rfl
@[simp] theorem State.setRegs_routeJob (s : State) (x : Regs) : (s.setRegs x).routeJob = s.routeJob := rfl
@[simp] theorem State.setRegs_contexts (s : State) (x : Regs) : (s.setRegs x).contexts = s.contexts := rfl
@[simp] theorem State.setRegs_clock (s : State) (x : Regs) : (s.setRegs x).clock = s.clock := rfl
@[simp] theorem State.setRegs_carriers (s : State) (x : Regs) : (s.setRegs x).carriers = s.carriers := rfl
@[simp] theorem State.setRegs_carrierJob (s : State) (x : Regs) : (s.setRegs x).carrierJob = s.carrierJob := rfl
@[simp] theorem State.setRegs_backup (s : State) (x : Regs) : (s.setRegs x).backup = s.backup := rfl
@[simp] theorem State.setRegs_intake (s : State) (x : Regs) : (s.setRegs x).intake = s.intake := rfl
@[simp] theorem State.setRegs_mirror (s : State) (x : Regs) : (s.setRegs x).mirror = s.mirror := rfl
@[simp] theorem State.setRegs_port (s : State) (x : Regs) : (s.setRegs x).port = s.port := rfl
@[simp] theorem State.setRegs_regs (s : State) (x : Regs) : (s.setRegs x).regs = x := rfl
@[simp] theorem State.setRegs_power (s : State) (x : Regs) : (s.setRegs x).power = s.power := rfl
@[simp] theorem State.setRegs_mem (s : State) (x : Regs) : (s.setRegs x).mem = s.mem := rfl
@[simp] theorem State.setRegs_failures (s : State) (x : Regs) : (s.setRegs x).failures = s.failures := rfl
@[simp] theorem State.setRegs_pending (s : State) (x : Regs) : (s.setRegs x).pending = s.pending := rfl

@[simp] theorem State.setPower_plan (s : State) (x : Power) : (s.setPower x).plan = s.plan := rfl
@[simp] theorem State.setPower_groups (s : State) (x : Power) : (s.setPower x).groups = s.groups := rfl
@[simp] theorem State.setPower_supervision (s : State) (x : Power) : (s.setPower x).supervision = s.supervision := rfl
@[simp] theorem State.setPower_routeJob (s : State) (x : Power) : (s.setPower x).routeJob = s.routeJob := rfl
@[simp] theorem State.setPower_contexts (s : State) (x : Power) : (s.setPower x).contexts = s.contexts := rfl
@[simp] theorem State.setPower_clock (s : State) (x : Power) : (s.setPower x).clock = s.clock := rfl
@[simp] theorem State.setPower_carriers (s : State) (x : Power) : (s.setPower x).carriers = s.carriers := rfl
@[simp] theorem State.setPower_carrierJob (s : State) (x : Power) : (s.setPower x).carrierJob = s.carrierJob := rfl
@[simp] theorem State.setPower_backup (s : State) (x : Power) : (s.setPower x).backup = s.backup := rfl
@[simp] theorem State.setPower_intake (s : State) (x : Power) : (s.setPower x).intake = s.intake := rfl
@[simp] theorem State.setPower_mirror (s : State) (x : Power) : (s.setPower x).mirror = s.mirror := rfl
@[simp] theorem State.setPower_port (s : State) (x : Power) : (s.setPower x).port = s.port := rfl
@[simp] theorem State.setPower_regs (s : State) (x : Power) : (s.setPower x).regs = s.regs := rfl
@[simp] theorem State.setPower_power (s : State) (x : Power) : (s.setPower x).power = x := rfl
@[simp] theorem State.setPower_mem (s : State) (x : Power) : (s.setPower x).mem = s.mem := rfl
@[simp] theorem State.setPower_failures (s : State) (x : Power) : (s.setPower x).failures = s.failures := rfl
@[simp] theorem State.setPower_pending (s : State) (x : Power) : (s.setPower x).pending = s.pending := rfl

@[simp] theorem State.setMem_plan (s : State) (x : List Host.Cell) : (s.setMem x).plan = s.plan := rfl
@[simp] theorem State.setMem_groups (s : State) (x : List Host.Cell) : (s.setMem x).groups = s.groups := rfl
@[simp] theorem State.setMem_supervision (s : State) (x : List Host.Cell) : (s.setMem x).supervision = s.supervision := rfl
@[simp] theorem State.setMem_routeJob (s : State) (x : List Host.Cell) : (s.setMem x).routeJob = s.routeJob := rfl
@[simp] theorem State.setMem_contexts (s : State) (x : List Host.Cell) : (s.setMem x).contexts = s.contexts := rfl
@[simp] theorem State.setMem_clock (s : State) (x : List Host.Cell) : (s.setMem x).clock = s.clock := rfl
@[simp] theorem State.setMem_carriers (s : State) (x : List Host.Cell) : (s.setMem x).carriers = s.carriers := rfl
@[simp] theorem State.setMem_carrierJob (s : State) (x : List Host.Cell) : (s.setMem x).carrierJob = s.carrierJob := rfl
@[simp] theorem State.setMem_backup (s : State) (x : List Host.Cell) : (s.setMem x).backup = s.backup := rfl
@[simp] theorem State.setMem_intake (s : State) (x : List Host.Cell) : (s.setMem x).intake = s.intake := rfl
@[simp] theorem State.setMem_mirror (s : State) (x : List Host.Cell) : (s.setMem x).mirror = s.mirror := rfl
@[simp] theorem State.setMem_port (s : State) (x : List Host.Cell) : (s.setMem x).port = s.port := rfl
@[simp] theorem State.setMem_regs (s : State) (x : List Host.Cell) : (s.setMem x).regs = s.regs := rfl
@[simp] theorem State.setMem_power (s : State) (x : List Host.Cell) : (s.setMem x).power = s.power := rfl
@[simp] theorem State.setMem_mem (s : State) (x : List Host.Cell) : (s.setMem x).mem = x := rfl
@[simp] theorem State.setMem_failures (s : State) (x : List Host.Cell) : (s.setMem x).failures = s.failures := rfl
@[simp] theorem State.setMem_pending (s : State) (x : List Host.Cell) : (s.setMem x).pending = s.pending := rfl

@[simp] theorem State.setFailures_plan (s : State) (x : Nat) : (s.setFailures x).plan = s.plan := rfl
@[simp] theorem State.setFailures_groups (s : State) (x : Nat) : (s.setFailures x).groups = s.groups := rfl
@[simp] theorem State.setFailures_supervision (s : State) (x : Nat) : (s.setFailures x).supervision = s.supervision := rfl
@[simp] theorem State.setFailures_routeJob (s : State) (x : Nat) : (s.setFailures x).routeJob = s.routeJob := rfl
@[simp] theorem State.setFailures_contexts (s : State) (x : Nat) : (s.setFailures x).contexts = s.contexts := rfl
@[simp] theorem State.setFailures_clock (s : State) (x : Nat) : (s.setFailures x).clock = s.clock := rfl
@[simp] theorem State.setFailures_carriers (s : State) (x : Nat) : (s.setFailures x).carriers = s.carriers := rfl
@[simp] theorem State.setFailures_carrierJob (s : State) (x : Nat) : (s.setFailures x).carrierJob = s.carrierJob := rfl
@[simp] theorem State.setFailures_backup (s : State) (x : Nat) : (s.setFailures x).backup = s.backup := rfl
@[simp] theorem State.setFailures_intake (s : State) (x : Nat) : (s.setFailures x).intake = s.intake := rfl
@[simp] theorem State.setFailures_mirror (s : State) (x : Nat) : (s.setFailures x).mirror = s.mirror := rfl
@[simp] theorem State.setFailures_port (s : State) (x : Nat) : (s.setFailures x).port = s.port := rfl
@[simp] theorem State.setFailures_regs (s : State) (x : Nat) : (s.setFailures x).regs = s.regs := rfl
@[simp] theorem State.setFailures_power (s : State) (x : Nat) : (s.setFailures x).power = s.power := rfl
@[simp] theorem State.setFailures_mem (s : State) (x : Nat) : (s.setFailures x).mem = s.mem := rfl
@[simp] theorem State.setFailures_failures (s : State) (x : Nat) : (s.setFailures x).failures = x := rfl
@[simp] theorem State.setFailures_pending (s : State) (x : Nat) : (s.setFailures x).pending = s.pending := rfl

@[simp] theorem State.setPending_plan (s : State) (x : List Instr) : (s.setPending x).plan = s.plan := rfl
@[simp] theorem State.setPending_groups (s : State) (x : List Instr) : (s.setPending x).groups = s.groups := rfl
@[simp] theorem State.setPending_supervision (s : State) (x : List Instr) : (s.setPending x).supervision = s.supervision := rfl
@[simp] theorem State.setPending_routeJob (s : State) (x : List Instr) : (s.setPending x).routeJob = s.routeJob := rfl
@[simp] theorem State.setPending_contexts (s : State) (x : List Instr) : (s.setPending x).contexts = s.contexts := rfl
@[simp] theorem State.setPending_clock (s : State) (x : List Instr) : (s.setPending x).clock = s.clock := rfl
@[simp] theorem State.setPending_carriers (s : State) (x : List Instr) : (s.setPending x).carriers = s.carriers := rfl
@[simp] theorem State.setPending_carrierJob (s : State) (x : List Instr) : (s.setPending x).carrierJob = s.carrierJob := rfl
@[simp] theorem State.setPending_backup (s : State) (x : List Instr) : (s.setPending x).backup = s.backup := rfl
@[simp] theorem State.setPending_intake (s : State) (x : List Instr) : (s.setPending x).intake = s.intake := rfl
@[simp] theorem State.setPending_mirror (s : State) (x : List Instr) : (s.setPending x).mirror = s.mirror := rfl
@[simp] theorem State.setPending_port (s : State) (x : List Instr) : (s.setPending x).port = s.port := rfl
@[simp] theorem State.setPending_regs (s : State) (x : List Instr) : (s.setPending x).regs = s.regs := rfl
@[simp] theorem State.setPending_power (s : State) (x : List Instr) : (s.setPending x).power = s.power := rfl
@[simp] theorem State.setPending_mem (s : State) (x : List Instr) : (s.setPending x).mem = s.mem := rfl
@[simp] theorem State.setPending_failures (s : State) (x : List Instr) : (s.setPending x).failures = s.failures := rfl
@[simp] theorem State.setPending_pending (s : State) (x : List Instr) : (s.setPending x).pending = x := rfl

end Sys2Proof.Machine
end

