-- ==== Sys2Proof/Laws/FramesIntake.lean ====
section
/-! SUPPORT. Frames: for each shared operation of the flags, the port and the Intake Unit, the fields of State that it leaves as they are. -/

namespace Sys2Proof.Machine

/-- What `raiseBit` leaves as it is. -/
@[simp] theorem raiseBit_keeps (b : AttentionBit) (s : State) :
    (raiseBit b s).plan = s.plan ∧
    (raiseBit b s).groups = s.groups ∧
    (raiseBit b s).supervision = s.supervision ∧
    (raiseBit b s).routeJob = s.routeJob ∧
    (raiseBit b s).contexts = s.contexts ∧
    (raiseBit b s).clock = s.clock ∧
    (raiseBit b s).carriers = s.carriers ∧
    (raiseBit b s).carrierJob = s.carrierJob ∧
    (raiseBit b s).backup = s.backup ∧
    (raiseBit b s).intake = s.intake ∧
    (raiseBit b s).mirror = s.mirror ∧
    (raiseBit b s).port = s.port ∧
    (raiseBit b s).power = s.power ∧
    (raiseBit b s).mem = s.mem ∧
    (raiseBit b s).failures = s.failures ∧
    (raiseBit b s).pending = s.pending := by
  unfold raiseBit
  (repeat' split) <;> simp


/-- What `statusEvent` leaves as it is. -/
@[simp] theorem statusEvent_keeps (s : State) :
    (statusEvent s).plan = s.plan ∧
    (statusEvent s).groups = s.groups ∧
    (statusEvent s).supervision = s.supervision ∧
    (statusEvent s).routeJob = s.routeJob ∧
    (statusEvent s).contexts = s.contexts ∧
    (statusEvent s).clock = s.clock ∧
    (statusEvent s).carriers = s.carriers ∧
    (statusEvent s).carrierJob = s.carrierJob ∧
    (statusEvent s).backup = s.backup ∧
    (statusEvent s).intake = s.intake ∧
    (statusEvent s).mirror = s.mirror ∧
    (statusEvent s).port = s.port ∧
    (statusEvent s).power = s.power ∧
    (statusEvent s).mem = s.mem ∧
    (statusEvent s).failures = s.failures ∧
    (statusEvent s).pending = s.pending := by
  simp [statusEvent]


/-- What `ask` leaves as it is. -/
@[simp] theorem ask_keeps (r : Requester) (t : Transfer) (s : State) :
    (ask r t s).plan = s.plan ∧
    (ask r t s).groups = s.groups ∧
    (ask r t s).supervision = s.supervision ∧
    (ask r t s).routeJob = s.routeJob ∧
    (ask r t s).contexts = s.contexts ∧
    (ask r t s).clock = s.clock ∧
    (ask r t s).carriers = s.carriers ∧
    (ask r t s).carrierJob = s.carrierJob ∧
    (ask r t s).backup = s.backup ∧
    (ask r t s).intake = s.intake ∧
    (ask r t s).mirror = s.mirror ∧
    (ask r t s).regs = s.regs ∧
    (ask r t s).power = s.power ∧
    (ask r t s).mem = s.mem ∧
    (ask r t s).failures = s.failures ∧
    (ask r t s).pending = s.pending := by
  unfold ask
  dsimp only
  (repeat' split) <;> simp


/-- What `setEngine` leaves as it is. -/
@[simp] theorem setEngine_keeps (e : Engine) (s : State) :
    (setEngine e s).plan = s.plan ∧
    (setEngine e s).groups = s.groups ∧
    (setEngine e s).supervision = s.supervision ∧
    (setEngine e s).routeJob = s.routeJob ∧
    (setEngine e s).contexts = s.contexts ∧
    (setEngine e s).clock = s.clock ∧
    (setEngine e s).carriers = s.carriers ∧
    (setEngine e s).carrierJob = s.carrierJob ∧
    (setEngine e s).backup = s.backup ∧
    (setEngine e s).intake = s.intake ∧
    (setEngine e s).mirror = s.mirror ∧
    (setEngine e s).port = s.port ∧
    (setEngine e s).power = s.power ∧
    (setEngine e s).mem = s.mem ∧
    (setEngine e s).failures = s.failures ∧
    (setEngine e s).pending = s.pending := by
  simp [setEngine]


/-- What `checkHalt` leaves as it is. -/
@[simp] theorem checkHalt_keeps (s : State) :
    (checkHalt s).plan = s.plan ∧
    (checkHalt s).groups = s.groups ∧
    (checkHalt s).supervision = s.supervision ∧
    (checkHalt s).routeJob = s.routeJob ∧
    (checkHalt s).contexts = s.contexts ∧
    (checkHalt s).clock = s.clock ∧
    (checkHalt s).carriers = s.carriers ∧
    (checkHalt s).carrierJob = s.carrierJob ∧
    (checkHalt s).backup = s.backup ∧
    (checkHalt s).intake = s.intake ∧
    (checkHalt s).mirror = s.mirror ∧
    (checkHalt s).port = s.port ∧
    (checkHalt s).power = s.power ∧
    (checkHalt s).mem = s.mem ∧
    (checkHalt s).failures = s.failures ∧
    (checkHalt s).pending = s.pending := by
  unfold checkHalt
  (repeat' split) <;> simp


/-- What `startAnswerWrite` leaves as it is. -/
@[simp] theorem startAnswerWrite_keeps (s : State) :
    (startAnswerWrite s).plan = s.plan ∧
    (startAnswerWrite s).groups = s.groups ∧
    (startAnswerWrite s).supervision = s.supervision ∧
    (startAnswerWrite s).routeJob = s.routeJob ∧
    (startAnswerWrite s).contexts = s.contexts ∧
    (startAnswerWrite s).clock = s.clock ∧
    (startAnswerWrite s).carriers = s.carriers ∧
    (startAnswerWrite s).carrierJob = s.carrierJob ∧
    (startAnswerWrite s).backup = s.backup ∧
    (startAnswerWrite s).mirror = s.mirror ∧
    (startAnswerWrite s).regs = s.regs ∧
    (startAnswerWrite s).power = s.power ∧
    (startAnswerWrite s).mem = s.mem ∧
    (startAnswerWrite s).failures = s.failures ∧
    (startAnswerWrite s).pending = s.pending := by
  unfold startAnswerWrite
  (repeat' split) <;> simp


/-- What `formAnswer` leaves as it is. -/
@[simp] theorem formAnswer_keeps (slot : Nat) (req answer : List Byte) (s : State) :
    (formAnswer slot req answer s).plan = s.plan ∧
    (formAnswer slot req answer s).groups = s.groups ∧
    (formAnswer slot req answer s).supervision = s.supervision ∧
    (formAnswer slot req answer s).routeJob = s.routeJob ∧
    (formAnswer slot req answer s).contexts = s.contexts ∧
    (formAnswer slot req answer s).clock = s.clock ∧
    (formAnswer slot req answer s).carriers = s.carriers ∧
    (formAnswer slot req answer s).carrierJob = s.carrierJob ∧
    (formAnswer slot req answer s).backup = s.backup ∧
    (formAnswer slot req answer s).mirror = s.mirror ∧
    (formAnswer slot req answer s).regs = s.regs ∧
    (formAnswer slot req answer s).power = s.power ∧
    (formAnswer slot req answer s).mem = s.mem ∧
    (formAnswer slot req answer s).failures = s.failures ∧
    (formAnswer slot req answer s).pending = s.pending := by
  simp [formAnswer]


/-- What `reply` leaves as it is. -/
@[simp] theorem reply_keeps (slot : Nat) (req : List Byte) (code : Code) (detail : Nat) (fields : List Field) (s : State) :
    (reply slot req code detail fields s).plan = s.plan ∧
    (reply slot req code detail fields s).groups = s.groups ∧
    (reply slot req code detail fields s).supervision = s.supervision ∧
    (reply slot req code detail fields s).routeJob = s.routeJob ∧
    (reply slot req code detail fields s).contexts = s.contexts ∧
    (reply slot req code detail fields s).clock = s.clock ∧
    (reply slot req code detail fields s).carriers = s.carriers ∧
    (reply slot req code detail fields s).carrierJob = s.carrierJob ∧
    (reply slot req code detail fields s).backup = s.backup ∧
    (reply slot req code detail fields s).mirror = s.mirror ∧
    (reply slot req code detail fields s).regs = s.regs ∧
    (reply slot req code detail fields s).power = s.power ∧
    (reply slot req code detail fields s).mem = s.mem ∧
    (reply slot req code detail fields s).failures = s.failures ∧
    (reply slot req code detail fields s).pending = s.pending := by
  simp [reply]


/-- What `markBegun` leaves as it is. -/
@[simp] theorem markBegun_keeps (slot : Nat) (req : List Byte) (s : State) :
    (markBegun slot req s).plan = s.plan ∧
    (markBegun slot req s).groups = s.groups ∧
    (markBegun slot req s).supervision = s.supervision ∧
    (markBegun slot req s).routeJob = s.routeJob ∧
    (markBegun slot req s).contexts = s.contexts ∧
    (markBegun slot req s).clock = s.clock ∧
    (markBegun slot req s).carriers = s.carriers ∧
    (markBegun slot req s).carrierJob = s.carrierJob ∧
    (markBegun slot req s).backup = s.backup ∧
    (markBegun slot req s).mirror = s.mirror ∧
    (markBegun slot req s).port = s.port ∧
    (markBegun slot req s).regs = s.regs ∧
    (markBegun slot req s).power = s.power ∧
    (markBegun slot req s).mem = s.mem ∧
    (markBegun slot req s).failures = s.failures ∧
    (markBegun slot req s).pending = s.pending := by
  simp [markBegun]


/-- What `dispatch` leaves as it is. -/
@[simp] theorem dispatch_keeps (slot : Nat) (req : List Byte) (s : State) :
    (dispatch slot req s).plan = s.plan ∧
    (dispatch slot req s).groups = s.groups ∧
    (dispatch slot req s).supervision = s.supervision ∧
    (dispatch slot req s).routeJob = s.routeJob ∧
    (dispatch slot req s).contexts = s.contexts ∧
    (dispatch slot req s).clock = s.clock ∧
    (dispatch slot req s).carriers = s.carriers ∧
    (dispatch slot req s).carrierJob = s.carrierJob ∧
    (dispatch slot req s).backup = s.backup ∧
    (dispatch slot req s).mirror = s.mirror ∧
    (dispatch slot req s).regs = s.regs ∧
    (dispatch slot req s).power = s.power ∧
    (dispatch slot req s).mem = s.mem ∧
    (dispatch slot req s).failures = s.failures ∧
    (dispatch slot req s).pending = s.pending := by
  unfold dispatch
  (repeat' split) <;> simp


/-- What `restartTimer` leaves as it is. -/
@[simp] theorem restartTimer_keeps (s : State) :
    (restartTimer s).plan = s.plan ∧
    (restartTimer s).groups = s.groups ∧
    (restartTimer s).supervision = s.supervision ∧
    (restartTimer s).routeJob = s.routeJob ∧
    (restartTimer s).contexts = s.contexts ∧
    (restartTimer s).clock = s.clock ∧
    (restartTimer s).carriers = s.carriers ∧
    (restartTimer s).carrierJob = s.carrierJob ∧
    (restartTimer s).backup = s.backup ∧
    (restartTimer s).mirror = s.mirror ∧
    (restartTimer s).port = s.port ∧
    (restartTimer s).regs = s.regs ∧
    (restartTimer s).power = s.power ∧
    (restartTimer s).mem = s.mem ∧
    (restartTimer s).failures = s.failures ∧
    (restartTimer s).pending = s.pending := by
  simp [restartTimer]


/-- What `askStrip` leaves as it is. -/
@[simp] theorem askStrip_keeps (p : Pass) (s : State) :
    (askStrip p s).plan = s.plan ∧
    (askStrip p s).groups = s.groups ∧
    (askStrip p s).supervision = s.supervision ∧
    (askStrip p s).routeJob = s.routeJob ∧
    (askStrip p s).contexts = s.contexts ∧
    (askStrip p s).clock = s.clock ∧
    (askStrip p s).carriers = s.carriers ∧
    (askStrip p s).carrierJob = s.carrierJob ∧
    (askStrip p s).backup = s.backup ∧
    (askStrip p s).mirror = s.mirror ∧
    (askStrip p s).regs = s.regs ∧
    (askStrip p s).power = s.power ∧
    (askStrip p s).mem = s.mem ∧
    (askStrip p s).failures = s.failures ∧
    (askStrip p s).pending = s.pending := by
  simp [askStrip]


/-- What `startPass` leaves as it is. -/
@[simp] theorem startPass_keeps (s : State) :
    (startPass s).plan = s.plan ∧
    (startPass s).groups = s.groups ∧
    (startPass s).supervision = s.supervision ∧
    (startPass s).routeJob = s.routeJob ∧
    (startPass s).contexts = s.contexts ∧
    (startPass s).clock = s.clock ∧
    (startPass s).carriers = s.carriers ∧
    (startPass s).carrierJob = s.carrierJob ∧
    (startPass s).backup = s.backup ∧
    (startPass s).mirror = s.mirror ∧
    (startPass s).regs = s.regs ∧
    (startPass s).power = s.power ∧
    (startPass s).mem = s.mem ∧
    (startPass s).failures = s.failures ∧
    (startPass s).pending = s.pending := by
  unfold startPass
  dsimp only
  (repeat' split) <;> simp


/-- What `passFallsDue` leaves as it is. -/
@[simp] theorem passFallsDue_keeps (s : State) :
    (passFallsDue s).plan = s.plan ∧
    (passFallsDue s).groups = s.groups ∧
    (passFallsDue s).supervision = s.supervision ∧
    (passFallsDue s).routeJob = s.routeJob ∧
    (passFallsDue s).contexts = s.contexts ∧
    (passFallsDue s).clock = s.clock ∧
    (passFallsDue s).carriers = s.carriers ∧
    (passFallsDue s).carrierJob = s.carrierJob ∧
    (passFallsDue s).backup = s.backup ∧
    (passFallsDue s).mirror = s.mirror ∧
    (passFallsDue s).regs = s.regs ∧
    (passFallsDue s).power = s.power ∧
    (passFallsDue s).mem = s.mem ∧
    (passFallsDue s).failures = s.failures ∧
    (passFallsDue s).pending = s.pending := by
  unfold passFallsDue
  (repeat' split) <;> simp


/-- What `endPass` leaves as it is. -/
@[simp] theorem endPass_keeps (resume : Nat) (s : State) :
    (endPass resume s).plan = s.plan ∧
    (endPass resume s).groups = s.groups ∧
    (endPass resume s).supervision = s.supervision ∧
    (endPass resume s).routeJob = s.routeJob ∧
    (endPass resume s).contexts = s.contexts ∧
    (endPass resume s).clock = s.clock ∧
    (endPass resume s).carriers = s.carriers ∧
    (endPass resume s).carrierJob = s.carrierJob ∧
    (endPass resume s).backup = s.backup ∧
    (endPass resume s).mirror = s.mirror ∧
    (endPass resume s).regs = s.regs ∧
    (endPass resume s).power = s.power ∧
    (endPass resume s).mem = s.mem ∧
    (endPass resume s).failures = s.failures ∧
    (endPass resume s).pending = s.pending := by
  unfold endPass
  dsimp only
  (repeat' split) <;> simp


/-- What `takeSlot` leaves as it is. -/
@[simp] theorem takeSlot_keeps (slot : Nat) (p : Pass) (s : State) :
    (takeSlot slot p s).plan = s.plan ∧
    (takeSlot slot p s).groups = s.groups ∧
    (takeSlot slot p s).supervision = s.supervision ∧
    (takeSlot slot p s).routeJob = s.routeJob ∧
    (takeSlot slot p s).contexts = s.contexts ∧
    (takeSlot slot p s).clock = s.clock ∧
    (takeSlot slot p s).carriers = s.carriers ∧
    (takeSlot slot p s).carrierJob = s.carrierJob ∧
    (takeSlot slot p s).backup = s.backup ∧
    (takeSlot slot p s).mirror = s.mirror ∧
    (takeSlot slot p s).regs = s.regs ∧
    (takeSlot slot p s).power = s.power ∧
    (takeSlot slot p s).mem = s.mem ∧
    (takeSlot slot p s).failures = s.failures ∧
    (takeSlot slot p s).pending = s.pending := by
  simp [takeSlot]


/-- What `examineCodes` leaves as it is. -/
@[simp] theorem examineCodes_keeps (x : List Byte) (y : Pass) (s : State) :
    (examineCodes x y s).plan = s.plan ∧
    (examineCodes x y s).groups = s.groups ∧
    (examineCodes x y s).supervision = s.supervision ∧
    (examineCodes x y s).routeJob = s.routeJob ∧
    (examineCodes x y s).contexts = s.contexts ∧
    (examineCodes x y s).clock = s.clock ∧
    (examineCodes x y s).carriers = s.carriers ∧
    (examineCodes x y s).carrierJob = s.carrierJob ∧
    (examineCodes x y s).backup = s.backup ∧
    (examineCodes x y s).mirror = s.mirror ∧
    (examineCodes x y s).regs = s.regs ∧
    (examineCodes x y s).power = s.power ∧
    (examineCodes x y s).mem = s.mem ∧
    (examineCodes x y s).failures = s.failures ∧
    (examineCodes x y s).pending = s.pending := by
  induction x generalizing y s with
  | nil => unfold examineCodes; split <;> simp
  | cons c cs ih => unfold examineCodes; (repeat' split) <;> first | simp | exact ih _ _


/-- What `launchDuePass` leaves as it is. -/
@[simp] theorem launchDuePass_keeps (s : State) :
    (launchDuePass s).plan = s.plan ∧
    (launchDuePass s).groups = s.groups ∧
    (launchDuePass s).supervision = s.supervision ∧
    (launchDuePass s).routeJob = s.routeJob ∧
    (launchDuePass s).contexts = s.contexts ∧
    (launchDuePass s).clock = s.clock ∧
    (launchDuePass s).carriers = s.carriers ∧
    (launchDuePass s).carrierJob = s.carrierJob ∧
    (launchDuePass s).backup = s.backup ∧
    (launchDuePass s).mirror = s.mirror ∧
    (launchDuePass s).regs = s.regs ∧
    (launchDuePass s).power = s.power ∧
    (launchDuePass s).mem = s.mem ∧
    (launchDuePass s).failures = s.failures ∧
    (launchDuePass s).pending = s.pending := by
  unfold launchDuePass
  dsimp only
  (repeat' split) <;> simp


/-- What `recoverUnread` leaves as it is. -/
@[simp] theorem recoverUnread_keeps (slots : List Nat) (s : State) :
    (recoverUnread slots s).plan = s.plan ∧
    (recoverUnread slots s).groups = s.groups ∧
    (recoverUnread slots s).supervision = s.supervision ∧
    (recoverUnread slots s).routeJob = s.routeJob ∧
    (recoverUnread slots s).contexts = s.contexts ∧
    (recoverUnread slots s).clock = s.clock ∧
    (recoverUnread slots s).carriers = s.carriers ∧
    (recoverUnread slots s).carrierJob = s.carrierJob ∧
    (recoverUnread slots s).backup = s.backup ∧
    (recoverUnread slots s).mirror = s.mirror ∧
    (recoverUnread slots s).regs = s.regs ∧
    (recoverUnread slots s).power = s.power ∧
    (recoverUnread slots s).mem = s.mem ∧
    (recoverUnread slots s).failures = s.failures ∧
    (recoverUnread slots s).pending = s.pending := by
  unfold recoverUnread
  (repeat' split) <;> simp


/-- What `proceedAnswers` leaves as it is. -/
@[simp] theorem proceedAnswers_keeps (s : State) :
    (proceedAnswers s).plan = s.plan ∧
    (proceedAnswers s).groups = s.groups ∧
    (proceedAnswers s).supervision = s.supervision ∧
    (proceedAnswers s).routeJob = s.routeJob ∧
    (proceedAnswers s).contexts = s.contexts ∧
    (proceedAnswers s).clock = s.clock ∧
    (proceedAnswers s).carriers = s.carriers ∧
    (proceedAnswers s).carrierJob = s.carrierJob ∧
    (proceedAnswers s).backup = s.backup ∧
    (proceedAnswers s).mirror = s.mirror ∧
    (proceedAnswers s).regs = s.regs ∧
    (proceedAnswers s).power = s.power ∧
    (proceedAnswers s).mem = s.mem ∧
    (proceedAnswers s).failures = s.failures ∧
    (proceedAnswers s).pending = s.pending := by
  unfold proceedAnswers
  (repeat' split) <;> simp


/-- What `startRecovery` leaves as it is. -/
@[simp] theorem startRecovery_keeps (s : State) :
    (startRecovery s).plan = s.plan ∧
    (startRecovery s).groups = s.groups ∧
    (startRecovery s).supervision = s.supervision ∧
    (startRecovery s).routeJob = s.routeJob ∧
    (startRecovery s).contexts = s.contexts ∧
    (startRecovery s).clock = s.clock ∧
    (startRecovery s).carriers = s.carriers ∧
    (startRecovery s).carrierJob = s.carrierJob ∧
    (startRecovery s).backup = s.backup ∧
    (startRecovery s).mirror = s.mirror ∧
    (startRecovery s).port = s.port ∧
    (startRecovery s).regs = s.regs ∧
    (startRecovery s).power = s.power ∧
    (startRecovery s).mem = s.mem ∧
    (startRecovery s).failures = s.failures ∧
    (startRecovery s).pending = s.pending := by
  simp [startRecovery]


/-- What `setSweep` leaves as it is. -/
@[simp] theorem setSweep_keeps (w : Sweep) (s : State) :
    (setSweep w s).plan = s.plan ∧
    (setSweep w s).groups = s.groups ∧
    (setSweep w s).supervision = s.supervision ∧
    (setSweep w s).routeJob = s.routeJob ∧
    (setSweep w s).contexts = s.contexts ∧
    (setSweep w s).clock = s.clock ∧
    (setSweep w s).carriers = s.carriers ∧
    (setSweep w s).carrierJob = s.carrierJob ∧
    (setSweep w s).backup = s.backup ∧
    (setSweep w s).mirror = s.mirror ∧
    (setSweep w s).port = s.port ∧
    (setSweep w s).regs = s.regs ∧
    (setSweep w s).power = s.power ∧
    (setSweep w s).mem = s.mem ∧
    (setSweep w s).failures = s.failures ∧
    (setSweep w s).pending = s.pending := by
  simp [setSweep]


/-- What `finishSweep` leaves as it is. -/
@[simp] theorem finishSweep_keeps (s : State) :
    (finishSweep s).plan = s.plan ∧
    (finishSweep s).groups = s.groups ∧
    (finishSweep s).supervision = s.supervision ∧
    (finishSweep s).routeJob = s.routeJob ∧
    (finishSweep s).contexts = s.contexts ∧
    (finishSweep s).clock = s.clock ∧
    (finishSweep s).carriers = s.carriers ∧
    (finishSweep s).carrierJob = s.carrierJob ∧
    (finishSweep s).backup = s.backup ∧
    (finishSweep s).mirror = s.mirror ∧
    (finishSweep s).power = s.power ∧
    (finishSweep s).mem = s.mem ∧
    (finishSweep s).failures = s.failures ∧
    (finishSweep s).pending = s.pending := by
  unfold finishSweep
  dsimp only
  (repeat' split) <;> simp


/-- What `stopSweep` leaves as it is. -/
@[simp] theorem stopSweep_keeps (s : State) :
    (stopSweep s).plan = s.plan ∧
    (stopSweep s).groups = s.groups ∧
    (stopSweep s).supervision = s.supervision ∧
    (stopSweep s).routeJob = s.routeJob ∧
    (stopSweep s).contexts = s.contexts ∧
    (stopSweep s).clock = s.clock ∧
    (stopSweep s).carriers = s.carriers ∧
    (stopSweep s).carrierJob = s.carrierJob ∧
    (stopSweep s).backup = s.backup ∧
    (stopSweep s).mirror = s.mirror ∧
    (stopSweep s).power = s.power ∧
    (stopSweep s).mem = s.mem ∧
    (stopSweep s).failures = s.failures ∧
    (stopSweep s).pending = s.pending := by
  simp [stopSweep]


/-- What `askSweepStrip` leaves as it is. -/
@[simp] theorem askSweepStrip_keeps (s : State) :
    (askSweepStrip s).plan = s.plan ∧
    (askSweepStrip s).groups = s.groups ∧
    (askSweepStrip s).supervision = s.supervision ∧
    (askSweepStrip s).routeJob = s.routeJob ∧
    (askSweepStrip s).contexts = s.contexts ∧
    (askSweepStrip s).clock = s.clock ∧
    (askSweepStrip s).carriers = s.carriers ∧
    (askSweepStrip s).carrierJob = s.carrierJob ∧
    (askSweepStrip s).backup = s.backup ∧
    (askSweepStrip s).intake = s.intake ∧
    (askSweepStrip s).mirror = s.mirror ∧
    (askSweepStrip s).regs = s.regs ∧
    (askSweepStrip s).power = s.power ∧
    (askSweepStrip s).mem = s.mem ∧
    (askSweepStrip s).failures = s.failures ∧
    (askSweepStrip s).pending = s.pending := by
  simp [askSweepStrip]


/-- What `sweepCodes` leaves as it is. -/
@[simp] theorem sweepCodes_keeps (x : List Byte) (s : State) :
    (sweepCodes x s).plan = s.plan ∧
    (sweepCodes x s).groups = s.groups ∧
    (sweepCodes x s).supervision = s.supervision ∧
    (sweepCodes x s).routeJob = s.routeJob ∧
    (sweepCodes x s).contexts = s.contexts ∧
    (sweepCodes x s).clock = s.clock ∧
    (sweepCodes x s).carriers = s.carriers ∧
    (sweepCodes x s).carrierJob = s.carrierJob ∧
    (sweepCodes x s).backup = s.backup ∧
    (sweepCodes x s).mirror = s.mirror ∧
    (sweepCodes x s).power = s.power ∧
    (sweepCodes x s).mem = s.mem ∧
    (sweepCodes x s).failures = s.failures ∧
    (sweepCodes x s).pending = s.pending := by
  induction x generalizing s with
  | nil => unfold sweepCodes; (repeat' split) <;> simp
  | cons c cs ih => unfold sweepCodes; (repeat' split) <;> simp [ih]


/-- What `startSweep` leaves as it is. -/
@[simp] theorem startSweep_keeps (s : State) :
    (startSweep s).plan = s.plan ∧
    (startSweep s).groups = s.groups ∧
    (startSweep s).supervision = s.supervision ∧
    (startSweep s).routeJob = s.routeJob ∧
    (startSweep s).contexts = s.contexts ∧
    (startSweep s).clock = s.clock ∧
    (startSweep s).carriers = s.carriers ∧
    (startSweep s).carrierJob = s.carrierJob ∧
    (startSweep s).backup = s.backup ∧
    (startSweep s).mirror = s.mirror ∧
    (startSweep s).power = s.power ∧
    (startSweep s).mem = s.mem ∧
    (startSweep s).failures = s.failures ∧
    (startSweep s).pending = s.pending := by
  simp [startSweep]


/-- What `takenWritten` leaves as it is. -/
@[simp] theorem takenWritten_keeps (slot : Nat) (s : State) :
    (takenWritten slot s).plan = s.plan ∧
    (takenWritten slot s).groups = s.groups ∧
    (takenWritten slot s).supervision = s.supervision ∧
    (takenWritten slot s).routeJob = s.routeJob ∧
    (takenWritten slot s).contexts = s.contexts ∧
    (takenWritten slot s).clock = s.clock ∧
    (takenWritten slot s).carriers = s.carriers ∧
    (takenWritten slot s).carrierJob = s.carrierJob ∧
    (takenWritten slot s).backup = s.backup ∧
    (takenWritten slot s).intake = s.intake ∧
    (takenWritten slot s).mirror = s.mirror ∧
    (takenWritten slot s).regs = s.regs ∧
    (takenWritten slot s).power = s.power ∧
    (takenWritten slot s).mem = s.mem ∧
    (takenWritten slot s).failures = s.failures ∧
    (takenWritten slot s).pending = s.pending := by
  simp [takenWritten]


/-- What `requestRead` leaves as it is. -/
@[simp] theorem requestRead_keeps (slot : Nat) (req : List Byte) (s : State) :
    (requestRead slot req s).plan = s.plan ∧
    (requestRead slot req s).groups = s.groups ∧
    (requestRead slot req s).supervision = s.supervision ∧
    (requestRead slot req s).routeJob = s.routeJob ∧
    (requestRead slot req s).contexts = s.contexts ∧
    (requestRead slot req s).clock = s.clock ∧
    (requestRead slot req s).carriers = s.carriers ∧
    (requestRead slot req s).carrierJob = s.carrierJob ∧
    (requestRead slot req s).backup = s.backup ∧
    (requestRead slot req s).mirror = s.mirror ∧
    (requestRead slot req s).regs = s.regs ∧
    (requestRead slot req s).power = s.power ∧
    (requestRead slot req s).mem = s.mem ∧
    (requestRead slot req s).failures = s.failures ∧
    (requestRead slot req s).pending = s.pending := by
  unfold requestRead
  dsimp only
  (repeat' split) <;> simp


/-- What `stripRead` leaves as it is. -/
@[simp] theorem stripRead_keeps (codes : List Byte) (s : State) :
    (stripRead codes s).plan = s.plan ∧
    (stripRead codes s).groups = s.groups ∧
    (stripRead codes s).supervision = s.supervision ∧
    (stripRead codes s).routeJob = s.routeJob ∧
    (stripRead codes s).contexts = s.contexts ∧
    (stripRead codes s).clock = s.clock ∧
    (stripRead codes s).carriers = s.carriers ∧
    (stripRead codes s).carrierJob = s.carrierJob ∧
    (stripRead codes s).backup = s.backup ∧
    (stripRead codes s).mirror = s.mirror ∧
    (stripRead codes s).regs = s.regs ∧
    (stripRead codes s).power = s.power ∧
    (stripRead codes s).mem = s.mem ∧
    (stripRead codes s).failures = s.failures ∧
    (stripRead codes s).pending = s.pending := by
  unfold stripRead
  (repeat' split) <;> simp


/-- What `answerHalfWritten` leaves as it is. -/
@[simp] theorem answerHalfWritten_keeps (slot : Nat) (s : State) :
    (answerHalfWritten slot s).plan = s.plan ∧
    (answerHalfWritten slot s).groups = s.groups ∧
    (answerHalfWritten slot s).supervision = s.supervision ∧
    (answerHalfWritten slot s).routeJob = s.routeJob ∧
    (answerHalfWritten slot s).contexts = s.contexts ∧
    (answerHalfWritten slot s).clock = s.clock ∧
    (answerHalfWritten slot s).carriers = s.carriers ∧
    (answerHalfWritten slot s).carrierJob = s.carrierJob ∧
    (answerHalfWritten slot s).backup = s.backup ∧
    (answerHalfWritten slot s).intake = s.intake ∧
    (answerHalfWritten slot s).mirror = s.mirror ∧
    (answerHalfWritten slot s).regs = s.regs ∧
    (answerHalfWritten slot s).power = s.power ∧
    (answerHalfWritten slot s).mem = s.mem ∧
    (answerHalfWritten slot s).failures = s.failures ∧
    (answerHalfWritten slot s).pending = s.pending := by
  simp [answerHalfWritten]


/-- What `settleClose` leaves as it is. -/
@[simp] theorem settleClose_keeps (s : State) :
    (settleClose s).plan = s.plan ∧
    (settleClose s).groups = s.groups ∧
    (settleClose s).supervision = s.supervision ∧
    (settleClose s).routeJob = s.routeJob ∧
    (settleClose s).contexts = s.contexts ∧
    (settleClose s).clock = s.clock ∧
    (settleClose s).carriers = s.carriers ∧
    (settleClose s).intake = s.intake ∧
    (settleClose s).mirror = s.mirror ∧
    (settleClose s).port = s.port ∧
    (settleClose s).regs = s.regs ∧
    (settleClose s).power = s.power ∧
    (settleClose s).mem = s.mem ∧
    (settleClose s).failures = s.failures ∧
    (settleClose s).pending = s.pending := by
  simp [settleClose]


/-- What `answeredWritten` leaves as it is. -/
@[simp] theorem answeredWritten_keeps (slot : Nat) (s : State) :
    (answeredWritten slot s).plan = s.plan ∧
    (answeredWritten slot s).groups = s.groups ∧
    (answeredWritten slot s).supervision = s.supervision ∧
    (answeredWritten slot s).routeJob = s.routeJob ∧
    (answeredWritten slot s).contexts = s.contexts ∧
    (answeredWritten slot s).clock = s.clock ∧
    (answeredWritten slot s).carriers = s.carriers ∧
    (answeredWritten slot s).mirror = s.mirror ∧
    (answeredWritten slot s).power = s.power ∧
    (answeredWritten slot s).mem = s.mem ∧
    (answeredWritten slot s).failures = s.failures ∧
    (answeredWritten slot s).pending = s.pending := by
  unfold answeredWritten
  dsimp only
  (repeat' split) <;> simp


/-- What `sweepHeaderRead` leaves as it is. -/
@[simp] theorem sweepHeaderRead_keeps (header : List Byte) (s : State) :
    (sweepHeaderRead header s).plan = s.plan ∧
    (sweepHeaderRead header s).groups = s.groups ∧
    (sweepHeaderRead header s).supervision = s.supervision ∧
    (sweepHeaderRead header s).routeJob = s.routeJob ∧
    (sweepHeaderRead header s).contexts = s.contexts ∧
    (sweepHeaderRead header s).clock = s.clock ∧
    (sweepHeaderRead header s).carriers = s.carriers ∧
    (sweepHeaderRead header s).carrierJob = s.carrierJob ∧
    (sweepHeaderRead header s).backup = s.backup ∧
    (sweepHeaderRead header s).intake = s.intake ∧
    (sweepHeaderRead header s).mirror = s.mirror ∧
    (sweepHeaderRead header s).regs = s.regs ∧
    (sweepHeaderRead header s).power = s.power ∧
    (sweepHeaderRead header s).mem = s.mem ∧
    (sweepHeaderRead header s).failures = s.failures ∧
    (sweepHeaderRead header s).pending = s.pending := by
  simp [sweepHeaderRead]


/-- What `sweepAnswerWritten` leaves as it is. -/
@[simp] theorem sweepAnswerWritten_keeps (s : State) :
    (sweepAnswerWritten s).plan = s.plan ∧
    (sweepAnswerWritten s).groups = s.groups ∧
    (sweepAnswerWritten s).supervision = s.supervision ∧
    (sweepAnswerWritten s).routeJob = s.routeJob ∧
    (sweepAnswerWritten s).contexts = s.contexts ∧
    (sweepAnswerWritten s).clock = s.clock ∧
    (sweepAnswerWritten s).carriers = s.carriers ∧
    (sweepAnswerWritten s).carrierJob = s.carrierJob ∧
    (sweepAnswerWritten s).backup = s.backup ∧
    (sweepAnswerWritten s).intake = s.intake ∧
    (sweepAnswerWritten s).mirror = s.mirror ∧
    (sweepAnswerWritten s).regs = s.regs ∧
    (sweepAnswerWritten s).power = s.power ∧
    (sweepAnswerWritten s).mem = s.mem ∧
    (sweepAnswerWritten s).failures = s.failures ∧
    (sweepAnswerWritten s).pending = s.pending := by
  simp [sweepAnswerWritten]


/-- What `sweepAnsweredWritten` leaves as it is. -/
@[simp] theorem sweepAnsweredWritten_keeps (s : State) :
    (sweepAnsweredWritten s).plan = s.plan ∧
    (sweepAnsweredWritten s).groups = s.groups ∧
    (sweepAnsweredWritten s).supervision = s.supervision ∧
    (sweepAnsweredWritten s).routeJob = s.routeJob ∧
    (sweepAnsweredWritten s).contexts = s.contexts ∧
    (sweepAnsweredWritten s).clock = s.clock ∧
    (sweepAnsweredWritten s).carriers = s.carriers ∧
    (sweepAnsweredWritten s).carrierJob = s.carrierJob ∧
    (sweepAnsweredWritten s).backup = s.backup ∧
    (sweepAnsweredWritten s).mirror = s.mirror ∧
    (sweepAnsweredWritten s).power = s.power ∧
    (sweepAnsweredWritten s).mem = s.mem ∧
    (sweepAnsweredWritten s).failures = s.failures ∧
    (sweepAnsweredWritten s).pending = s.pending := by
  simp [sweepAnsweredWritten]


/-- What `enterFault` leaves as it is. -/
@[simp] theorem enterFault_keeps (kind : FaultKind) (slot : Nat) (failed : Option Nat) (s : State) :
    (enterFault kind slot failed s).plan = s.plan ∧
    (enterFault kind slot failed s).groups = s.groups ∧
    (enterFault kind slot failed s).supervision = s.supervision ∧
    (enterFault kind slot failed s).routeJob = s.routeJob ∧
    (enterFault kind slot failed s).contexts = s.contexts ∧
    (enterFault kind slot failed s).clock = s.clock ∧
    (enterFault kind slot failed s).carriers = s.carriers ∧
    (enterFault kind slot failed s).carrierJob = s.carrierJob ∧
    (enterFault kind slot failed s).backup = s.backup ∧
    (enterFault kind slot failed s).power = s.power ∧
    (enterFault kind slot failed s).mem = s.mem ∧
    (enterFault kind slot failed s).failures = s.failures ∧
    (enterFault kind slot failed s).pending = s.pending := by
  unfold enterFault
  dsimp only
  (repeat' split) <;> simp


end Sys2Proof.Machine
end

