-- ==== Sys2Proof/Laws/FramesBlocks.lean ====
section
/-! SUPPORT. Frames: for each shared operation of the records, groups, supervision, calendar, settlement, contexts and routing, the fields of State that it leaves as they are. -/

namespace Sys2Proof.Machine

/-- What `putBank` leaves as it is. -/
@[simp] theorem putBank_keeps (k : Bank) (d : BankData) (s : State) :
    (putBank k d s).groups = s.groups ∧
    (putBank k d s).supervision = s.supervision ∧
    (putBank k d s).routeJob = s.routeJob ∧
    (putBank k d s).contexts = s.contexts ∧
    (putBank k d s).clock = s.clock ∧
    (putBank k d s).carriers = s.carriers ∧
    (putBank k d s).carrierJob = s.carrierJob ∧
    (putBank k d s).backup = s.backup ∧
    (putBank k d s).intake = s.intake ∧
    (putBank k d s).mirror = s.mirror ∧
    (putBank k d s).port = s.port ∧
    (putBank k d s).regs = s.regs ∧
    (putBank k d s).power = s.power ∧
    (putBank k d s).mem = s.mem ∧
    (putBank k d s).failures = s.failures ∧
    (putBank k d s).pending = s.pending := by
  simp [putBank]


/-- What `changeDest` leaves as it is. -/
@[simp] theorem changeDest_keeps (k : Bank) (index : Nat) (f : Dest → Dest) (s : State) :
    (changeDest k index f s).groups = s.groups ∧
    (changeDest k index f s).supervision = s.supervision ∧
    (changeDest k index f s).routeJob = s.routeJob ∧
    (changeDest k index f s).contexts = s.contexts ∧
    (changeDest k index f s).clock = s.clock ∧
    (changeDest k index f s).carriers = s.carriers ∧
    (changeDest k index f s).carrierJob = s.carrierJob ∧
    (changeDest k index f s).backup = s.backup ∧
    (changeDest k index f s).intake = s.intake ∧
    (changeDest k index f s).mirror = s.mirror ∧
    (changeDest k index f s).port = s.port ∧
    (changeDest k index f s).regs = s.regs ∧
    (changeDest k index f s).power = s.power ∧
    (changeDest k index f s).mem = s.mem ∧
    (changeDest k index f s).failures = s.failures ∧
    (changeDest k index f s).pending = s.pending := by
  simp [changeDest]


/-- What `changeProvisional` leaves as it is. -/
@[simp] theorem changeProvisional_keeps (k : Bank) (f : Nat → Nat) (s : State) :
    (changeProvisional k f s).groups = s.groups ∧
    (changeProvisional k f s).supervision = s.supervision ∧
    (changeProvisional k f s).routeJob = s.routeJob ∧
    (changeProvisional k f s).contexts = s.contexts ∧
    (changeProvisional k f s).clock = s.clock ∧
    (changeProvisional k f s).carriers = s.carriers ∧
    (changeProvisional k f s).carrierJob = s.carrierJob ∧
    (changeProvisional k f s).backup = s.backup ∧
    (changeProvisional k f s).intake = s.intake ∧
    (changeProvisional k f s).mirror = s.mirror ∧
    (changeProvisional k f s).port = s.port ∧
    (changeProvisional k f s).regs = s.regs ∧
    (changeProvisional k f s).power = s.power ∧
    (changeProvisional k f s).mem = s.mem ∧
    (changeProvisional k f s).failures = s.failures ∧
    (changeProvisional k f s).pending = s.pending := by
  simp [changeProvisional]


/-- What `clearRetainedGroup` leaves as it is. -/
@[simp] theorem clearRetainedGroup_keeps (g : Nat) (s : State) :
    (clearRetainedGroup g s).groups = s.groups ∧
    (clearRetainedGroup g s).supervision = s.supervision ∧
    (clearRetainedGroup g s).routeJob = s.routeJob ∧
    (clearRetainedGroup g s).contexts = s.contexts ∧
    (clearRetainedGroup g s).clock = s.clock ∧
    (clearRetainedGroup g s).carriers = s.carriers ∧
    (clearRetainedGroup g s).carrierJob = s.carrierJob ∧
    (clearRetainedGroup g s).backup = s.backup ∧
    (clearRetainedGroup g s).intake = s.intake ∧
    (clearRetainedGroup g s).mirror = s.mirror ∧
    (clearRetainedGroup g s).port = s.port ∧
    (clearRetainedGroup g s).regs = s.regs ∧
    (clearRetainedGroup g s).power = s.power ∧
    (clearRetainedGroup g s).mem = s.mem ∧
    (clearRetainedGroup g s).failures = s.failures ∧
    (clearRetainedGroup g s).pending = s.pending := by
  simp [clearRetainedGroup]


/-- What `putGroup` leaves as it is. -/
@[simp] theorem putGroup_keeps (g : Nat) (r : Group) (s : State) :
    (putGroup g r s).plan = s.plan ∧
    (putGroup g r s).supervision = s.supervision ∧
    (putGroup g r s).routeJob = s.routeJob ∧
    (putGroup g r s).contexts = s.contexts ∧
    (putGroup g r s).clock = s.clock ∧
    (putGroup g r s).carriers = s.carriers ∧
    (putGroup g r s).carrierJob = s.carrierJob ∧
    (putGroup g r s).backup = s.backup ∧
    (putGroup g r s).intake = s.intake ∧
    (putGroup g r s).mirror = s.mirror ∧
    (putGroup g r s).port = s.port ∧
    (putGroup g r s).regs = s.regs ∧
    (putGroup g r s).power = s.power ∧
    (putGroup g r s).mem = s.mem ∧
    (putGroup g r s).failures = s.failures ∧
    (putGroup g r s).pending = s.pending := by
  simp [putGroup]


/-- What `putCarrier` leaves as it is. -/
@[simp] theorem putCarrier_keeps (c : Nat) (r : Carrier) (s : State) :
    (putCarrier c r s).plan = s.plan ∧
    (putCarrier c r s).groups = s.groups ∧
    (putCarrier c r s).supervision = s.supervision ∧
    (putCarrier c r s).routeJob = s.routeJob ∧
    (putCarrier c r s).contexts = s.contexts ∧
    (putCarrier c r s).clock = s.clock ∧
    (putCarrier c r s).carrierJob = s.carrierJob ∧
    (putCarrier c r s).backup = s.backup ∧
    (putCarrier c r s).intake = s.intake ∧
    (putCarrier c r s).mirror = s.mirror ∧
    (putCarrier c r s).port = s.port ∧
    (putCarrier c r s).regs = s.regs ∧
    (putCarrier c r s).power = s.power ∧
    (putCarrier c r s).mem = s.mem ∧
    (putCarrier c r s).failures = s.failures ∧
    (putCarrier c r s).pending = s.pending := by
  simp [putCarrier]


/-- What `putSettlement` leaves as it is. -/
@[simp] theorem putSettlement_keeps (c : Nat) (r : Settlement) (s : State) :
    (putSettlement c r s).plan = s.plan ∧
    (putSettlement c r s).groups = s.groups ∧
    (putSettlement c r s).supervision = s.supervision ∧
    (putSettlement c r s).routeJob = s.routeJob ∧
    (putSettlement c r s).contexts = s.contexts ∧
    (putSettlement c r s).clock = s.clock ∧
    (putSettlement c r s).carriers = s.carriers ∧
    (putSettlement c r s).carrierJob = s.carrierJob ∧
    (putSettlement c r s).intake = s.intake ∧
    (putSettlement c r s).mirror = s.mirror ∧
    (putSettlement c r s).port = s.port ∧
    (putSettlement c r s).regs = s.regs ∧
    (putSettlement c r s).power = s.power ∧
    (putSettlement c r s).mem = s.mem ∧
    (putSettlement c r s).failures = s.failures ∧
    (putSettlement c r s).pending = s.pending := by
  simp [putSettlement]


/-- What `putContext` leaves as it is. -/
@[simp] theorem putContext_keeps (i : Nat) (c : Context) (s : State) :
    (putContext i c s).plan = s.plan ∧
    (putContext i c s).groups = s.groups ∧
    (putContext i c s).supervision = s.supervision ∧
    (putContext i c s).routeJob = s.routeJob ∧
    (putContext i c s).clock = s.clock ∧
    (putContext i c s).carriers = s.carriers ∧
    (putContext i c s).carrierJob = s.carrierJob ∧
    (putContext i c s).backup = s.backup ∧
    (putContext i c s).intake = s.intake ∧
    (putContext i c s).mirror = s.mirror ∧
    (putContext i c s).port = s.port ∧
    (putContext i c s).regs = s.regs ∧
    (putContext i c s).power = s.power ∧
    (putContext i c s).mem = s.mem ∧
    (putContext i c s).failures = s.failures ∧
    (putContext i c s).pending = s.pending := by
  simp [putContext]


/-- What `freeContext` leaves as it is. -/
@[simp] theorem freeContext_keeps (i : Nat) (s : State) :
    (freeContext i s).plan = s.plan ∧
    (freeContext i s).groups = s.groups ∧
    (freeContext i s).supervision = s.supervision ∧
    (freeContext i s).routeJob = s.routeJob ∧
    (freeContext i s).clock = s.clock ∧
    (freeContext i s).carriers = s.carriers ∧
    (freeContext i s).carrierJob = s.carrierJob ∧
    (freeContext i s).backup = s.backup ∧
    (freeContext i s).intake = s.intake ∧
    (freeContext i s).mirror = s.mirror ∧
    (freeContext i s).port = s.port ∧
    (freeContext i s).regs = s.regs ∧
    (freeContext i s).power = s.power ∧
    (freeContext i s).mem = s.mem ∧
    (freeContext i s).failures = s.failures ∧
    (freeContext i s).pending = s.pending := by
  simp [freeContext]


/-- What `countExamination` leaves as it is. -/
@[simp] theorem countExamination_keeps (g a f : Nat) (s : State) :
    (countExamination g a f s).plan = s.plan ∧
    (countExamination g a f s).supervision = s.supervision ∧
    (countExamination g a f s).routeJob = s.routeJob ∧
    (countExamination g a f s).contexts = s.contexts ∧
    (countExamination g a f s).clock = s.clock ∧
    (countExamination g a f s).carriers = s.carriers ∧
    (countExamination g a f s).carrierJob = s.carrierJob ∧
    (countExamination g a f s).backup = s.backup ∧
    (countExamination g a f s).intake = s.intake ∧
    (countExamination g a f s).mirror = s.mirror ∧
    (countExamination g a f s).port = s.port ∧
    (countExamination g a f s).regs = s.regs ∧
    (countExamination g a f s).power = s.power ∧
    (countExamination g a f s).mem = s.mem ∧
    (countExamination g a f s).failures = s.failures ∧
    (countExamination g a f s).pending = s.pending := by
  unfold countExamination
  dsimp only
  (repeat' split) <;> simp


/-- What `countCeilingRefusal` leaves as it is. -/
@[simp] theorem countCeilingRefusal_keeps (c : Nat) (s : State) :
    (countCeilingRefusal c s).plan = s.plan ∧
    (countCeilingRefusal c s).groups = s.groups ∧
    (countCeilingRefusal c s).supervision = s.supervision ∧
    (countCeilingRefusal c s).routeJob = s.routeJob ∧
    (countCeilingRefusal c s).contexts = s.contexts ∧
    (countCeilingRefusal c s).clock = s.clock ∧
    (countCeilingRefusal c s).carrierJob = s.carrierJob ∧
    (countCeilingRefusal c s).backup = s.backup ∧
    (countCeilingRefusal c s).intake = s.intake ∧
    (countCeilingRefusal c s).mirror = s.mirror ∧
    (countCeilingRefusal c s).port = s.port ∧
    (countCeilingRefusal c s).regs = s.regs ∧
    (countCeilingRefusal c s).power = s.power ∧
    (countCeilingRefusal c s).mem = s.mem ∧
    (countCeilingRefusal c s).failures = s.failures ∧
    (countCeilingRefusal c s).pending = s.pending := by
  simp [countCeilingRefusal]


/-- What `countVerdict` leaves as it is. -/
@[simp] theorem countVerdict_keeps (g : Nat) (v : Verdict) (s : State) :
    (countVerdict g v s).plan = s.plan ∧
    (countVerdict g v s).supervision = s.supervision ∧
    (countVerdict g v s).routeJob = s.routeJob ∧
    (countVerdict g v s).contexts = s.contexts ∧
    (countVerdict g v s).clock = s.clock ∧
    (countVerdict g v s).carrierJob = s.carrierJob ∧
    (countVerdict g v s).backup = s.backup ∧
    (countVerdict g v s).intake = s.intake ∧
    (countVerdict g v s).mirror = s.mirror ∧
    (countVerdict g v s).port = s.port ∧
    (countVerdict g v s).regs = s.regs ∧
    (countVerdict g v s).power = s.power ∧
    (countVerdict g v s).mem = s.mem ∧
    (countVerdict g v s).failures = s.failures ∧
    (countVerdict g v s).pending = s.pending := by
  unfold countVerdict
  (repeat' split) <;> simp


/-- What `changeOpen` leaves as it is. -/
@[simp] theorem changeOpen_keeps (c : Nat) (f : Nat → Nat) (s : State) :
    (changeOpen c f s).plan = s.plan ∧
    (changeOpen c f s).groups = s.groups ∧
    (changeOpen c f s).supervision = s.supervision ∧
    (changeOpen c f s).routeJob = s.routeJob ∧
    (changeOpen c f s).contexts = s.contexts ∧
    (changeOpen c f s).clock = s.clock ∧
    (changeOpen c f s).carriers = s.carriers ∧
    (changeOpen c f s).carrierJob = s.carrierJob ∧
    (changeOpen c f s).intake = s.intake ∧
    (changeOpen c f s).mirror = s.mirror ∧
    (changeOpen c f s).port = s.port ∧
    (changeOpen c f s).regs = s.regs ∧
    (changeOpen c f s).power = s.power ∧
    (changeOpen c f s).mem = s.mem ∧
    (changeOpen c f s).failures = s.failures ∧
    (changeOpen c f s).pending = s.pending := by
  unfold changeOpen
  (repeat' split) <;> simp


/-- What `grantSeizure` leaves as it is. -/
@[simp] theorem grantSeizure_keeps (g : Nat) (s : State) :
    (grantSeizure g s).plan = s.plan ∧
    (grantSeizure g s).supervision = s.supervision ∧
    (grantSeizure g s).routeJob = s.routeJob ∧
    (grantSeizure g s).contexts = s.contexts ∧
    (grantSeizure g s).clock = s.clock ∧
    (grantSeizure g s).carriers = s.carriers ∧
    (grantSeizure g s).carrierJob = s.carrierJob ∧
    (grantSeizure g s).intake = s.intake ∧
    (grantSeizure g s).mirror = s.mirror ∧
    (grantSeizure g s).port = s.port ∧
    (grantSeizure g s).regs = s.regs ∧
    (grantSeizure g s).power = s.power ∧
    (grantSeizure g s).mem = s.mem ∧
    (grantSeizure g s).failures = s.failures ∧
    (grantSeizure g s).pending = s.pending := by
  simp [grantSeizure]


/-- What `returnSeizure` leaves as it is. -/
@[simp] theorem returnSeizure_keeps (g : Nat) (s : State) :
    (returnSeizure g s).plan = s.plan ∧
    (returnSeizure g s).supervision = s.supervision ∧
    (returnSeizure g s).routeJob = s.routeJob ∧
    (returnSeizure g s).contexts = s.contexts ∧
    (returnSeizure g s).clock = s.clock ∧
    (returnSeizure g s).carriers = s.carriers ∧
    (returnSeizure g s).carrierJob = s.carrierJob ∧
    (returnSeizure g s).intake = s.intake ∧
    (returnSeizure g s).mirror = s.mirror ∧
    (returnSeizure g s).port = s.port ∧
    (returnSeizure g s).regs = s.regs ∧
    (returnSeizure g s).power = s.power ∧
    (returnSeizure g s).mem = s.mem ∧
    (returnSeizure g s).failures = s.failures ∧
    (returnSeizure g s).pending = s.pending := by
  simp [returnSeizure]


/-- What a seizure request leaves as it is. -/
@[simp] theorem seize_keeps (h : List Nat) (cs : List Candidate) (s : State) :
    (seize h cs s).2.plan = s.plan ∧
    (seize h cs s).2.supervision = s.supervision ∧
    (seize h cs s).2.routeJob = s.routeJob ∧
    (seize h cs s).2.contexts = s.contexts ∧
    (seize h cs s).2.clock = s.clock ∧
    (seize h cs s).2.carrierJob = s.carrierJob ∧
    (seize h cs s).2.intake = s.intake ∧
    (seize h cs s).2.mirror = s.mirror ∧
    (seize h cs s).2.port = s.port ∧
    (seize h cs s).2.regs = s.regs ∧
    (seize h cs s).2.power = s.power ∧
    (seize h cs s).2.mem = s.mem ∧
    (seize h cs s).2.failures = s.failures ∧
    (seize h cs s).2.pending = s.pending := by
  induction cs generalizing s with
  | nil => simp [seize]
  | cons c cs ih => simp only [seize]; split <;> simp [ih]

/-- The same of a seizure request's outcome. -/
theorem seize_leaves {h : List Nat} {cs : List Candidate} {s t : State} {r : Option Candidate} (e : seize h cs s = (r, t)) :
    t.plan = s.plan ∧
    t.supervision = s.supervision ∧
    t.routeJob = s.routeJob ∧
    t.contexts = s.contexts ∧
    t.clock = s.clock ∧
    t.carrierJob = s.carrierJob ∧
    t.intake = s.intake ∧
    t.mirror = s.mirror ∧
    t.port = s.port ∧
    t.regs = s.regs ∧
    t.power = s.power ∧
    t.mem = s.mem ∧
    t.failures = s.failures ∧
    t.pending = s.pending := by
  have := seize_keeps h cs s
  rw [e] at this
  exact this

/-- What `serveSetGroup` leaves as it is. -/
@[simp] theorem serveSetGroup_keeps (slot : Nat) (req : List Byte) (s : State) :
    (serveSetGroup slot req s).plan = s.plan ∧
    (serveSetGroup slot req s).supervision = s.supervision ∧
    (serveSetGroup slot req s).routeJob = s.routeJob ∧
    (serveSetGroup slot req s).contexts = s.contexts ∧
    (serveSetGroup slot req s).clock = s.clock ∧
    (serveSetGroup slot req s).carriers = s.carriers ∧
    (serveSetGroup slot req s).carrierJob = s.carrierJob ∧
    (serveSetGroup slot req s).backup = s.backup ∧
    (serveSetGroup slot req s).mirror = s.mirror ∧
    (serveSetGroup slot req s).regs = s.regs ∧
    (serveSetGroup slot req s).power = s.power ∧
    (serveSetGroup slot req s).mem = s.mem ∧
    (serveSetGroup slot req s).failures = s.failures ∧
    (serveSetGroup slot req s).pending = s.pending := by
  unfold serveSetGroup
  dsimp only
  (repeat' split) <;> simp


/-- What `serveBlocking` leaves as it is. -/
@[simp] theorem serveBlocking_keeps (k : Kind) (applied : Group → Nat → Nat) (after : Group → Nat → Group) (slot : Nat) (req : List Byte) (s : State) :
    (serveBlocking k applied after slot req s).plan = s.plan ∧
    (serveBlocking k applied after slot req s).supervision = s.supervision ∧
    (serveBlocking k applied after slot req s).routeJob = s.routeJob ∧
    (serveBlocking k applied after slot req s).contexts = s.contexts ∧
    (serveBlocking k applied after slot req s).clock = s.clock ∧
    (serveBlocking k applied after slot req s).carriers = s.carriers ∧
    (serveBlocking k applied after slot req s).carrierJob = s.carrierJob ∧
    (serveBlocking k applied after slot req s).backup = s.backup ∧
    (serveBlocking k applied after slot req s).mirror = s.mirror ∧
    (serveBlocking k applied after slot req s).regs = s.regs ∧
    (serveBlocking k applied after slot req s).power = s.power ∧
    (serveBlocking k applied after slot req s).mem = s.mem ∧
    (serveBlocking k applied after slot req s).failures = s.failures ∧
    (serveBlocking k applied after slot req s).pending = s.pending := by
  unfold serveBlocking
  dsimp only
  (repeat' split) <;> simp


/-- What `putGaps` leaves as it is. -/
@[simp] theorem putGaps_keeps (gaps : List GapEntry) (s : State) :
    (putGaps gaps s).plan = s.plan ∧
    (putGaps gaps s).groups = s.groups ∧
    (putGaps gaps s).routeJob = s.routeJob ∧
    (putGaps gaps s).contexts = s.contexts ∧
    (putGaps gaps s).clock = s.clock ∧
    (putGaps gaps s).carriers = s.carriers ∧
    (putGaps gaps s).carrierJob = s.carrierJob ∧
    (putGaps gaps s).backup = s.backup ∧
    (putGaps gaps s).intake = s.intake ∧
    (putGaps gaps s).mirror = s.mirror ∧
    (putGaps gaps s).port = s.port ∧
    (putGaps gaps s).regs = s.regs ∧
    (putGaps gaps s).power = s.power ∧
    (putGaps gaps s).mem = s.mem ∧
    (putGaps gaps s).failures = s.failures ∧
    (putGaps gaps s).pending = s.pending := by
  simp [putGaps]


/-- What `serveSetSupervision` leaves as it is. -/
@[simp] theorem serveSetSupervision_keeps (slot : Nat) (req : List Byte) (s : State) :
    (serveSetSupervision slot req s).plan = s.plan ∧
    (serveSetSupervision slot req s).groups = s.groups ∧
    (serveSetSupervision slot req s).routeJob = s.routeJob ∧
    (serveSetSupervision slot req s).contexts = s.contexts ∧
    (serveSetSupervision slot req s).clock = s.clock ∧
    (serveSetSupervision slot req s).carriers = s.carriers ∧
    (serveSetSupervision slot req s).carrierJob = s.carrierJob ∧
    (serveSetSupervision slot req s).backup = s.backup ∧
    (serveSetSupervision slot req s).mirror = s.mirror ∧
    (serveSetSupervision slot req s).regs = s.regs ∧
    (serveSetSupervision slot req s).power = s.power ∧
    (serveSetSupervision slot req s).mem = s.mem ∧
    (serveSetSupervision slot req s).failures = s.failures ∧
    (serveSetSupervision slot req s).pending = s.pending := by
  unfold serveSetSupervision
  dsimp only
  (repeat' split) <;> simp


/-- What `congestionChanged` leaves as it is. -/
@[simp] theorem congestionChanged_keeps (g : Nat) (next : Congestion) (s : State) :
    (congestionChanged g next s).groups = s.groups ∧
    (congestionChanged g next s).supervision = s.supervision ∧
    (congestionChanged g next s).routeJob = s.routeJob ∧
    (congestionChanged g next s).contexts = s.contexts ∧
    (congestionChanged g next s).clock = s.clock ∧
    (congestionChanged g next s).carriers = s.carriers ∧
    (congestionChanged g next s).carrierJob = s.carrierJob ∧
    (congestionChanged g next s).backup = s.backup ∧
    (congestionChanged g next s).intake = s.intake ∧
    (congestionChanged g next s).port = s.port ∧
    (congestionChanged g next s).power = s.power ∧
    (congestionChanged g next s).mem = s.mem ∧
    (congestionChanged g next s).failures = s.failures ∧
    (congestionChanged g next s).pending = s.pending := by
  unfold congestionChanged
  dsimp only
  (repeat' split) <;> simp


/-- What `evaluateOne` leaves as it is. -/
@[simp] theorem evaluateOne_keeps (g : Nat) (s : State) :
    (evaluateOne g s).supervision = s.supervision ∧
    (evaluateOne g s).routeJob = s.routeJob ∧
    (evaluateOne g s).contexts = s.contexts ∧
    (evaluateOne g s).clock = s.clock ∧
    (evaluateOne g s).carriers = s.carriers ∧
    (evaluateOne g s).carrierJob = s.carrierJob ∧
    (evaluateOne g s).backup = s.backup ∧
    (evaluateOne g s).intake = s.intake ∧
    (evaluateOne g s).port = s.port ∧
    (evaluateOne g s).power = s.power ∧
    (evaluateOne g s).mem = s.mem ∧
    (evaluateOne g s).failures = s.failures ∧
    (evaluateOne g s).pending = s.pending := by
  unfold evaluateOne
  dsimp only
  (repeat' split) <;> simp


/-- What `evaluateGroups` leaves as it is. -/
@[simp] theorem evaluateGroups_keeps (s : State) :
    (evaluateGroups s).supervision = s.supervision ∧
    (evaluateGroups s).routeJob = s.routeJob ∧
    (evaluateGroups s).contexts = s.contexts ∧
    (evaluateGroups s).clock = s.clock ∧
    (evaluateGroups s).carriers = s.carriers ∧
    (evaluateGroups s).carrierJob = s.carrierJob ∧
    (evaluateGroups s).backup = s.backup ∧
    (evaluateGroups s).intake = s.intake ∧
    (evaluateGroups s).port = s.port ∧
    (evaluateGroups s).power = s.power ∧
    (evaluateGroups s).mem = s.mem ∧
    (evaluateGroups s).failures = s.failures ∧
    (evaluateGroups s).pending = s.pending := by
  unfold evaluateGroups
  generalize List.range 1024 = l
  induction l generalizing s with
  | nil => simp
  | cons g gs ih => simp [ih]


/-- What `changeGap` leaves as it is. -/
@[simp] theorem changeGap_keeps (code : List Nat) (f : GapEntry → GapEntry) (s : State) :
    (changeGap code f s).plan = s.plan ∧
    (changeGap code f s).groups = s.groups ∧
    (changeGap code f s).routeJob = s.routeJob ∧
    (changeGap code f s).contexts = s.contexts ∧
    (changeGap code f s).clock = s.clock ∧
    (changeGap code f s).carriers = s.carriers ∧
    (changeGap code f s).carrierJob = s.carrierJob ∧
    (changeGap code f s).backup = s.backup ∧
    (changeGap code f s).intake = s.intake ∧
    (changeGap code f s).mirror = s.mirror ∧
    (changeGap code f s).port = s.port ∧
    (changeGap code f s).regs = s.regs ∧
    (changeGap code f s).power = s.power ∧
    (changeGap code f s).mem = s.mem ∧
    (changeGap code f s).failures = s.failures ∧
    (changeGap code f s).pending = s.pending := by
  unfold changeGap
  (repeat' split) <;> simp


/-- What `removeGap` leaves as it is. -/
@[simp] theorem removeGap_keeps (code : List Nat) (s : State) :
    (removeGap code s).plan = s.plan ∧
    (removeGap code s).groups = s.groups ∧
    (removeGap code s).routeJob = s.routeJob ∧
    (removeGap code s).contexts = s.contexts ∧
    (removeGap code s).clock = s.clock ∧
    (removeGap code s).carriers = s.carriers ∧
    (removeGap code s).carrierJob = s.carrierJob ∧
    (removeGap code s).backup = s.backup ∧
    (removeGap code s).intake = s.intake ∧
    (removeGap code s).mirror = s.mirror ∧
    (removeGap code s).port = s.port ∧
    (removeGap code s).regs = s.regs ∧
    (removeGap code s).power = s.power ∧
    (removeGap code s).mem = s.mem ∧
    (removeGap code s).failures = s.failures ∧
    (removeGap code s).pending = s.pending := by
  simp [removeGap]


/-- What `addGap` leaves as it is. -/
@[simp] theorem addGap_keeps (e : GapEntry) (s : State) :
    (addGap e s).plan = s.plan ∧
    (addGap e s).groups = s.groups ∧
    (addGap e s).routeJob = s.routeJob ∧
    (addGap e s).contexts = s.contexts ∧
    (addGap e s).clock = s.clock ∧
    (addGap e s).carriers = s.carriers ∧
    (addGap e s).carrierJob = s.carrierJob ∧
    (addGap e s).backup = s.backup ∧
    (addGap e s).intake = s.intake ∧
    (addGap e s).mirror = s.mirror ∧
    (addGap e s).port = s.port ∧
    (addGap e s).regs = s.regs ∧
    (addGap e s).power = s.power ∧
    (addGap e s).mem = s.mem ∧
    (addGap e s).failures = s.failures ∧
    (addGap e s).pending = s.pending := by
  simp [addGap]


/-- What `renewGap` leaves as it is. -/
@[simp] theorem renewGap_keeps (code : List Nat) (s : State) :
    (renewGap code s).plan = s.plan ∧
    (renewGap code s).groups = s.groups ∧
    (renewGap code s).routeJob = s.routeJob ∧
    (renewGap code s).contexts = s.contexts ∧
    (renewGap code s).clock = s.clock ∧
    (renewGap code s).carriers = s.carriers ∧
    (renewGap code s).carrierJob = s.carrierJob ∧
    (renewGap code s).backup = s.backup ∧
    (renewGap code s).intake = s.intake ∧
    (renewGap code s).mirror = s.mirror ∧
    (renewGap code s).port = s.port ∧
    (renewGap code s).regs = s.regs ∧
    (renewGap code s).power = s.power ∧
    (renewGap code s).mem = s.mem ∧
    (renewGap code s).failures = s.failures ∧
    (renewGap code s).pending = s.pending := by
  unfold renewGap
  (repeat' split) <;> simp


/-- What `installGap` leaves as it is. -/
@[simp] theorem installGap_keeps (code : List Nat) (s : State) :
    (installGap code s).plan = s.plan ∧
    (installGap code s).groups = s.groups ∧
    (installGap code s).routeJob = s.routeJob ∧
    (installGap code s).contexts = s.contexts ∧
    (installGap code s).clock = s.clock ∧
    (installGap code s).carriers = s.carriers ∧
    (installGap code s).carrierJob = s.carrierJob ∧
    (installGap code s).backup = s.backup ∧
    (installGap code s).intake = s.intake ∧
    (installGap code s).mirror = s.mirror ∧
    (installGap code s).port = s.port ∧
    (installGap code s).power = s.power ∧
    (installGap code s).mem = s.mem ∧
    (installGap code s).failures = s.failures ∧
    (installGap code s).pending = s.pending := by
  unfold installGap
  (repeat' split) <;> simp


/-- What `serveSetGap` leaves as it is. -/
@[simp] theorem serveSetGap_keeps (slot : Nat) (req : List Byte) (s : State) :
    (serveSetGap slot req s).plan = s.plan ∧
    (serveSetGap slot req s).groups = s.groups ∧
    (serveSetGap slot req s).routeJob = s.routeJob ∧
    (serveSetGap slot req s).contexts = s.contexts ∧
    (serveSetGap slot req s).clock = s.clock ∧
    (serveSetGap slot req s).carriers = s.carriers ∧
    (serveSetGap slot req s).carrierJob = s.carrierJob ∧
    (serveSetGap slot req s).backup = s.backup ∧
    (serveSetGap slot req s).mirror = s.mirror ∧
    (serveSetGap slot req s).regs = s.regs ∧
    (serveSetGap slot req s).power = s.power ∧
    (serveSetGap slot req s).mem = s.mem ∧
    (serveSetGap slot req s).failures = s.failures ∧
    (serveSetGap slot req s).pending = s.pending := by
  unfold serveSetGap
  dsimp only
  (repeat' split) <;> simp


/-- What `serveClearGap` leaves as it is. -/
@[simp] theorem serveClearGap_keeps (slot : Nat) (req : List Byte) (s : State) :
    (serveClearGap slot req s).plan = s.plan ∧
    (serveClearGap slot req s).groups = s.groups ∧
    (serveClearGap slot req s).routeJob = s.routeJob ∧
    (serveClearGap slot req s).contexts = s.contexts ∧
    (serveClearGap slot req s).clock = s.clock ∧
    (serveClearGap slot req s).carriers = s.carriers ∧
    (serveClearGap slot req s).carrierJob = s.carrierJob ∧
    (serveClearGap slot req s).backup = s.backup ∧
    (serveClearGap slot req s).mirror = s.mirror ∧
    (serveClearGap slot req s).regs = s.regs ∧
    (serveClearGap slot req s).power = s.power ∧
    (serveClearGap slot req s).mem = s.mem ∧
    (serveClearGap slot req s).failures = s.failures ∧
    (serveClearGap slot req s).pending = s.pending := by
  unfold serveClearGap
  (repeat' split) <;> simp


/-- What `countDownGaps` leaves as it is. -/
@[simp] theorem countDownGaps_keeps (s : State) :
    (countDownGaps s).plan = s.plan ∧
    (countDownGaps s).groups = s.groups ∧
    (countDownGaps s).routeJob = s.routeJob ∧
    (countDownGaps s).contexts = s.contexts ∧
    (countDownGaps s).clock = s.clock ∧
    (countDownGaps s).carriers = s.carriers ∧
    (countDownGaps s).carrierJob = s.carrierJob ∧
    (countDownGaps s).backup = s.backup ∧
    (countDownGaps s).intake = s.intake ∧
    (countDownGaps s).mirror = s.mirror ∧
    (countDownGaps s).port = s.port ∧
    (countDownGaps s).regs = s.regs ∧
    (countDownGaps s).power = s.power ∧
    (countDownGaps s).mem = s.mem ∧
    (countDownGaps s).failures = s.failures ∧
    (countDownGaps s).pending = s.pending := by
  simp [countDownGaps]


/-- What `removeLapsed` leaves as it is. -/
@[simp] theorem removeLapsed_keeps (s : State) :
    (removeLapsed s).plan = s.plan ∧
    (removeLapsed s).groups = s.groups ∧
    (removeLapsed s).routeJob = s.routeJob ∧
    (removeLapsed s).contexts = s.contexts ∧
    (removeLapsed s).clock = s.clock ∧
    (removeLapsed s).carriers = s.carriers ∧
    (removeLapsed s).carrierJob = s.carrierJob ∧
    (removeLapsed s).backup = s.backup ∧
    (removeLapsed s).intake = s.intake ∧
    (removeLapsed s).mirror = s.mirror ∧
    (removeLapsed s).port = s.port ∧
    (removeLapsed s).regs = s.regs ∧
    (removeLapsed s).power = s.power ∧
    (removeLapsed s).mem = s.mem ∧
    (removeLapsed s).failures = s.failures ∧
    (removeLapsed s).pending = s.pending := by
  simp [removeLapsed]


/-- What `gapUpkeep` leaves as it is. -/
@[simp] theorem gapUpkeep_keeps (tick : Tick) (s : State) :
    (gapUpkeep tick s).plan = s.plan ∧
    (gapUpkeep tick s).groups = s.groups ∧
    (gapUpkeep tick s).routeJob = s.routeJob ∧
    (gapUpkeep tick s).contexts = s.contexts ∧
    (gapUpkeep tick s).clock = s.clock ∧
    (gapUpkeep tick s).carriers = s.carriers ∧
    (gapUpkeep tick s).carrierJob = s.carrierJob ∧
    (gapUpkeep tick s).backup = s.backup ∧
    (gapUpkeep tick s).intake = s.intake ∧
    (gapUpkeep tick s).mirror = s.mirror ∧
    (gapUpkeep tick s).port = s.port ∧
    (gapUpkeep tick s).regs = s.regs ∧
    (gapUpkeep tick s).power = s.power ∧
    (gapUpkeep tick s).mem = s.mem ∧
    (gapUpkeep tick s).failures = s.failures ∧
    (gapUpkeep tick s).pending = s.pending := by
  unfold gapUpkeep
  (repeat' split) <;> simp


/-- What `boundaryEvent` leaves as it is. -/
@[simp] theorem boundaryEvent_keeps (reaches : Call → Bool) (s : State) :
    (boundaryEvent reaches s).plan = s.plan ∧
    (boundaryEvent reaches s).groups = s.groups ∧
    (boundaryEvent reaches s).supervision = s.supervision ∧
    (boundaryEvent reaches s).routeJob = s.routeJob ∧
    (boundaryEvent reaches s).clock = s.clock ∧
    (boundaryEvent reaches s).carriers = s.carriers ∧
    (boundaryEvent reaches s).carrierJob = s.carrierJob ∧
    (boundaryEvent reaches s).backup = s.backup ∧
    (boundaryEvent reaches s).intake = s.intake ∧
    (boundaryEvent reaches s).mirror = s.mirror ∧
    (boundaryEvent reaches s).port = s.port ∧
    (boundaryEvent reaches s).regs = s.regs ∧
    (boundaryEvent reaches s).power = s.power ∧
    (boundaryEvent reaches s).mem = s.mem ∧
    (boundaryEvent reaches s).failures = s.failures ∧
    (boundaryEvent reaches s).pending = s.pending := by
  simp [boundaryEvent]


/-- What `evaluateBand` leaves as it is. -/
@[simp] theorem evaluateBand_keeps (s : State) :
    (evaluateBand s).plan = s.plan ∧
    (evaluateBand s).groups = s.groups ∧
    (evaluateBand s).supervision = s.supervision ∧
    (evaluateBand s).routeJob = s.routeJob ∧
    (evaluateBand s).carriers = s.carriers ∧
    (evaluateBand s).carrierJob = s.carrierJob ∧
    (evaluateBand s).backup = s.backup ∧
    (evaluateBand s).intake = s.intake ∧
    (evaluateBand s).mirror = s.mirror ∧
    (evaluateBand s).port = s.port ∧
    (evaluateBand s).regs = s.regs ∧
    (evaluateBand s).power = s.power ∧
    (evaluateBand s).mem = s.mem ∧
    (evaluateBand s).failures = s.failures ∧
    (evaluateBand s).pending = s.pending := by
  unfold evaluateBand
  dsimp only
  (repeat' split) <;> simp


/-- What `putTariffs` leaves as it is. -/
@[simp] theorem putTariffs_keeps (c : Nat) (d : Direction) (t : Tariffs) (s : State) :
    (putTariffs c d t s).plan = s.plan ∧
    (putTariffs c d t s).groups = s.groups ∧
    (putTariffs c d t s).supervision = s.supervision ∧
    (putTariffs c d t s).routeJob = s.routeJob ∧
    (putTariffs c d t s).contexts = s.contexts ∧
    (putTariffs c d t s).clock = s.clock ∧
    (putTariffs c d t s).carrierJob = s.carrierJob ∧
    (putTariffs c d t s).backup = s.backup ∧
    (putTariffs c d t s).intake = s.intake ∧
    (putTariffs c d t s).mirror = s.mirror ∧
    (putTariffs c d t s).port = s.port ∧
    (putTariffs c d t s).regs = s.regs ∧
    (putTariffs c d t s).power = s.power ∧
    (putTariffs c d t s).mem = s.mem ∧
    (putTariffs c d t s).failures = s.failures ∧
    (putTariffs c d t s).pending = s.pending := by
  simp [putTariffs]


/-- What `activate` leaves as it is. -/
@[simp] theorem activate_keeps (c : Nat) (d : Direction) (t : Tariffs) (s : State) :
    (activate c d t s).plan = s.plan ∧
    (activate c d t s).groups = s.groups ∧
    (activate c d t s).supervision = s.supervision ∧
    (activate c d t s).routeJob = s.routeJob ∧
    (activate c d t s).clock = s.clock ∧
    (activate c d t s).carrierJob = s.carrierJob ∧
    (activate c d t s).backup = s.backup ∧
    (activate c d t s).intake = s.intake ∧
    (activate c d t s).mirror = s.mirror ∧
    (activate c d t s).port = s.port ∧
    (activate c d t s).power = s.power ∧
    (activate c d t s).mem = s.mem ∧
    (activate c d t s).failures = s.failures ∧
    (activate c d t s).pending = s.pending := by
  simp [activate]


/-- What `takeHanded` leaves as it is. -/
@[simp] theorem takeHanded_keeps (c : Nat) (d : Direction) (s : State) :
    (takeHanded c d s).plan = s.plan ∧
    (takeHanded c d s).groups = s.groups ∧
    (takeHanded c d s).supervision = s.supervision ∧
    (takeHanded c d s).routeJob = s.routeJob ∧
    (takeHanded c d s).clock = s.clock ∧
    (takeHanded c d s).carrierJob = s.carrierJob ∧
    (takeHanded c d s).backup = s.backup ∧
    (takeHanded c d s).intake = s.intake ∧
    (takeHanded c d s).mirror = s.mirror ∧
    (takeHanded c d s).port = s.port ∧
    (takeHanded c d s).power = s.power ∧
    (takeHanded c d s).mem = s.mem ∧
    (takeHanded c d s).failures = s.failures ∧
    (takeHanded c d s).pending = s.pending := by
  unfold takeHanded
  (repeat' split) <;> simp


/-- What `compareTariffs` leaves as it is. -/
@[simp] theorem compareTariffs_keeps (s : State) :
    (compareTariffs s).plan = s.plan ∧
    (compareTariffs s).groups = s.groups ∧
    (compareTariffs s).supervision = s.supervision ∧
    (compareTariffs s).routeJob = s.routeJob ∧
    (compareTariffs s).contexts = s.contexts ∧
    (compareTariffs s).clock = s.clock ∧
    (compareTariffs s).carrierJob = s.carrierJob ∧
    (compareTariffs s).backup = s.backup ∧
    (compareTariffs s).intake = s.intake ∧
    (compareTariffs s).mirror = s.mirror ∧
    (compareTariffs s).port = s.port ∧
    (compareTariffs s).regs = s.regs ∧
    (compareTariffs s).power = s.power ∧
    (compareTariffs s).mem = s.mem ∧
    (compareTariffs s).failures = s.failures ∧
    (compareTariffs s).pending = s.pending := by
  simp [compareTariffs]


/-- What `moveCalendar` leaves as it is. -/
@[simp] theorem moveCalendar_keeps (cal : Calendar) (s : State) :
    (moveCalendar cal s).plan = s.plan ∧
    (moveCalendar cal s).groups = s.groups ∧
    (moveCalendar cal s).supervision = s.supervision ∧
    (moveCalendar cal s).routeJob = s.routeJob ∧
    (moveCalendar cal s).carrierJob = s.carrierJob ∧
    (moveCalendar cal s).intake = s.intake ∧
    (moveCalendar cal s).mirror = s.mirror ∧
    (moveCalendar cal s).port = s.port ∧
    (moveCalendar cal s).regs = s.regs ∧
    (moveCalendar cal s).power = s.power ∧
    (moveCalendar cal s).mem = s.mem ∧
    (moveCalendar cal s).failures = s.failures ∧
    (moveCalendar cal s).pending = s.pending := by
  simp [moveCalendar]


/-- What `serveSetCalendar` leaves as it is. -/
@[simp] theorem serveSetCalendar_keeps (slot : Nat) (req : List Byte) (s : State) :
    (serveSetCalendar slot req s).plan = s.plan ∧
    (serveSetCalendar slot req s).groups = s.groups ∧
    (serveSetCalendar slot req s).supervision = s.supervision ∧
    (serveSetCalendar slot req s).routeJob = s.routeJob ∧
    (serveSetCalendar slot req s).carrierJob = s.carrierJob ∧
    (serveSetCalendar slot req s).mirror = s.mirror ∧
    (serveSetCalendar slot req s).regs = s.regs ∧
    (serveSetCalendar slot req s).power = s.power ∧
    (serveSetCalendar slot req s).mem = s.mem ∧
    (serveSetCalendar slot req s).failures = s.failures ∧
    (serveSetCalendar slot req s).pending = s.pending := by
  unfold serveSetCalendar
  dsimp only
  (repeat' split) <;> simp


/-- What `serveAlignMinute` leaves as it is. -/
@[simp] theorem serveAlignMinute_keeps (slot : Nat) (req : List Byte) (s : State) :
    (serveAlignMinute slot req s).plan = s.plan ∧
    (serveAlignMinute slot req s).groups = s.groups ∧
    (serveAlignMinute slot req s).supervision = s.supervision ∧
    (serveAlignMinute slot req s).routeJob = s.routeJob ∧
    (serveAlignMinute slot req s).carrierJob = s.carrierJob ∧
    (serveAlignMinute slot req s).mirror = s.mirror ∧
    (serveAlignMinute slot req s).regs = s.regs ∧
    (serveAlignMinute slot req s).power = s.power ∧
    (serveAlignMinute slot req s).mem = s.mem ∧
    (serveAlignMinute slot req s).failures = s.failures ∧
    (serveAlignMinute slot req s).pending = s.pending := by
  unfold serveAlignMinute
  dsimp only
  (repeat' split) <;> simp


/-- What `statusEvents` leaves as it is. -/
@[simp] theorem statusEvents_keeps (x : Nat) (s : State) :
    (statusEvents x s).plan = s.plan ∧
    (statusEvents x s).groups = s.groups ∧
    (statusEvents x s).supervision = s.supervision ∧
    (statusEvents x s).routeJob = s.routeJob ∧
    (statusEvents x s).contexts = s.contexts ∧
    (statusEvents x s).clock = s.clock ∧
    (statusEvents x s).carriers = s.carriers ∧
    (statusEvents x s).carrierJob = s.carrierJob ∧
    (statusEvents x s).backup = s.backup ∧
    (statusEvents x s).intake = s.intake ∧
    (statusEvents x s).mirror = s.mirror ∧
    (statusEvents x s).port = s.port ∧
    (statusEvents x s).power = s.power ∧
    (statusEvents x s).mem = s.mem ∧
    (statusEvents x s).failures = s.failures ∧
    (statusEvents x s).pending = s.pending := by
  induction x generalizing s with
  | zero => simp [statusEvents]
  | succ n ih => simp [statusEvents, ih]


/-- What `putSums` leaves as it is. -/
@[simp] theorem putSums_keeps (c : Nat) (v : Sums) (s : State) :
    (putSums c v s).plan = s.plan ∧
    (putSums c v s).groups = s.groups ∧
    (putSums c v s).supervision = s.supervision ∧
    (putSums c v s).routeJob = s.routeJob ∧
    (putSums c v s).contexts = s.contexts ∧
    (putSums c v s).clock = s.clock ∧
    (putSums c v s).carriers = s.carriers ∧
    (putSums c v s).carrierJob = s.carrierJob ∧
    (putSums c v s).intake = s.intake ∧
    (putSums c v s).mirror = s.mirror ∧
    (putSums c v s).port = s.port ∧
    (putSums c v s).power = s.power ∧
    (putSums c v s).mem = s.mem ∧
    (putSums c v s).failures = s.failures ∧
    (putSums c v s).pending = s.pending := by
  simp [putSums]


/-- What `accumulate` leaves as it is. -/
@[simp] theorem accumulate_keeps (c : Nat) (d : Direction) (total : Nat) (s : State) :
    (accumulate c d total s).plan = s.plan ∧
    (accumulate c d total s).groups = s.groups ∧
    (accumulate c d total s).supervision = s.supervision ∧
    (accumulate c d total s).routeJob = s.routeJob ∧
    (accumulate c d total s).contexts = s.contexts ∧
    (accumulate c d total s).clock = s.clock ∧
    (accumulate c d total s).carriers = s.carriers ∧
    (accumulate c d total s).carrierJob = s.carrierJob ∧
    (accumulate c d total s).intake = s.intake ∧
    (accumulate c d total s).mirror = s.mirror ∧
    (accumulate c d total s).port = s.port ∧
    (accumulate c d total s).power = s.power ∧
    (accumulate c d total s).mem = s.mem ∧
    (accumulate c d total s).failures = s.failures ∧
    (accumulate c d total s).pending = s.pending := by
  simp [accumulate]


/-- What `restoreSums` leaves as it is. -/
@[simp] theorem restoreSums_keeps (x : Table Sums) (s : State) :
    (restoreSums x s).plan = s.plan ∧
    (restoreSums x s).groups = s.groups ∧
    (restoreSums x s).supervision = s.supervision ∧
    (restoreSums x s).routeJob = s.routeJob ∧
    (restoreSums x s).contexts = s.contexts ∧
    (restoreSums x s).clock = s.clock ∧
    (restoreSums x s).carriers = s.carriers ∧
    (restoreSums x s).carrierJob = s.carrierJob ∧
    (restoreSums x s).intake = s.intake ∧
    (restoreSums x s).mirror = s.mirror ∧
    (restoreSums x s).port = s.port ∧
    (restoreSums x s).power = s.power ∧
    (restoreSums x s).mem = s.mem ∧
    (restoreSums x s).failures = s.failures ∧
    (restoreSums x s).pending = s.pending := by
  induction x generalizing s with
  | nil => simp [restoreSums]
  | cons e es ih => simp [restoreSums, ih]


/-- What `restoreClose` leaves as it is. -/
@[simp] theorem restoreClose_keeps (s : State) :
    (restoreClose s).plan = s.plan ∧
    (restoreClose s).groups = s.groups ∧
    (restoreClose s).supervision = s.supervision ∧
    (restoreClose s).routeJob = s.routeJob ∧
    (restoreClose s).contexts = s.contexts ∧
    (restoreClose s).clock = s.clock ∧
    (restoreClose s).carriers = s.carriers ∧
    (restoreClose s).carrierJob = s.carrierJob ∧
    (restoreClose s).intake = s.intake ∧
    (restoreClose s).mirror = s.mirror ∧
    (restoreClose s).port = s.port ∧
    (restoreClose s).power = s.power ∧
    (restoreClose s).mem = s.mem ∧
    (restoreClose s).failures = s.failures ∧
    (restoreClose s).pending = s.pending := by
  unfold restoreClose
  (repeat' split) <;> simp


/-- What `carryUnsettled` leaves as it is. -/
@[simp] theorem carryUnsettled_keeps (s : State) :
    (carryUnsettled s).plan = s.plan ∧
    (carryUnsettled s).groups = s.groups ∧
    (carryUnsettled s).supervision = s.supervision ∧
    (carryUnsettled s).routeJob = s.routeJob ∧
    (carryUnsettled s).contexts = s.contexts ∧
    (carryUnsettled s).clock = s.clock ∧
    (carryUnsettled s).carriers = s.carriers ∧
    (carryUnsettled s).carrierJob = s.carrierJob ∧
    (carryUnsettled s).intake = s.intake ∧
    (carryUnsettled s).mirror = s.mirror ∧
    (carryUnsettled s).port = s.port ∧
    (carryUnsettled s).regs = s.regs ∧
    (carryUnsettled s).power = s.power ∧
    (carryUnsettled s).mem = s.mem ∧
    (carryUnsettled s).failures = s.failures ∧
    (carryUnsettled s).pending = s.pending := by
  simp [carryUnsettled]


/-- What `closeOne` leaves as it is. -/
@[simp] theorem closeOne_keeps (slot : Nat) (req : List Byte) (c : Nat) (s : State) :
    (closeOne slot req c s).plan = s.plan ∧
    (closeOne slot req c s).groups = s.groups ∧
    (closeOne slot req c s).supervision = s.supervision ∧
    (closeOne slot req c s).routeJob = s.routeJob ∧
    (closeOne slot req c s).contexts = s.contexts ∧
    (closeOne slot req c s).clock = s.clock ∧
    (closeOne slot req c s).carriers = s.carriers ∧
    (closeOne slot req c s).mirror = s.mirror ∧
    (closeOne slot req c s).regs = s.regs ∧
    (closeOne slot req c s).power = s.power ∧
    (closeOne slot req c s).mem = s.mem ∧
    (closeOne slot req c s).failures = s.failures ∧
    (closeOne slot req c s).pending = s.pending := by
  simp [closeOne]


/-- What `closeAll` leaves as it is. -/
@[simp] theorem closeAll_keeps (slot : Nat) (req : List Byte) (addr : Word) (s : State) :
    (closeAll slot req addr s).plan = s.plan ∧
    (closeAll slot req addr s).groups = s.groups ∧
    (closeAll slot req addr s).supervision = s.supervision ∧
    (closeAll slot req addr s).routeJob = s.routeJob ∧
    (closeAll slot req addr s).contexts = s.contexts ∧
    (closeAll slot req addr s).clock = s.clock ∧
    (closeAll slot req addr s).carriers = s.carriers ∧
    (closeAll slot req addr s).mirror = s.mirror ∧
    (closeAll slot req addr s).regs = s.regs ∧
    (closeAll slot req addr s).power = s.power ∧
    (closeAll slot req addr s).mem = s.mem ∧
    (closeAll slot req addr s).failures = s.failures ∧
    (closeAll slot req addr s).pending = s.pending := by
  simp [closeAll]


/-- What `serveClosePeriod` leaves as it is. -/
@[simp] theorem serveClosePeriod_keeps (slot : Nat) (req : List Byte) (s : State) :
    (serveClosePeriod slot req s).plan = s.plan ∧
    (serveClosePeriod slot req s).groups = s.groups ∧
    (serveClosePeriod slot req s).supervision = s.supervision ∧
    (serveClosePeriod slot req s).routeJob = s.routeJob ∧
    (serveClosePeriod slot req s).contexts = s.contexts ∧
    (serveClosePeriod slot req s).clock = s.clock ∧
    (serveClosePeriod slot req s).carriers = s.carriers ∧
    (serveClosePeriod slot req s).mirror = s.mirror ∧
    (serveClosePeriod slot req s).regs = s.regs ∧
    (serveClosePeriod slot req s).power = s.power ∧
    (serveClosePeriod slot req s).mem = s.mem ∧
    (serveClosePeriod slot req s).failures = s.failures ∧
    (serveClosePeriod slot req s).pending = s.pending := by
  unfold serveClosePeriod
  dsimp only
  (repeat' split) <;> simp


/-- What `resultWritten` leaves as it is. -/
@[simp] theorem resultWritten_keeps (s : State) :
    (resultWritten s).plan = s.plan ∧
    (resultWritten s).groups = s.groups ∧
    (resultWritten s).supervision = s.supervision ∧
    (resultWritten s).routeJob = s.routeJob ∧
    (resultWritten s).contexts = s.contexts ∧
    (resultWritten s).clock = s.clock ∧
    (resultWritten s).carriers = s.carriers ∧
    (resultWritten s).carrierJob = s.carrierJob ∧
    (resultWritten s).backup = s.backup ∧
    (resultWritten s).mirror = s.mirror ∧
    (resultWritten s).regs = s.regs ∧
    (resultWritten s).power = s.power ∧
    (resultWritten s).mem = s.mem ∧
    (resultWritten s).failures = s.failures ∧
    (resultWritten s).pending = s.pending := by
  unfold resultWritten
  (repeat' split) <;> simp


/-- What `resultFailed` leaves as it is. -/
@[simp] theorem resultFailed_keeps (s : State) :
    (resultFailed s).plan = s.plan ∧
    (resultFailed s).groups = s.groups ∧
    (resultFailed s).supervision = s.supervision ∧
    (resultFailed s).routeJob = s.routeJob ∧
    (resultFailed s).contexts = s.contexts ∧
    (resultFailed s).clock = s.clock ∧
    (resultFailed s).carriers = s.carriers ∧
    (resultFailed s).mirror = s.mirror ∧
    (resultFailed s).power = s.power ∧
    (resultFailed s).mem = s.mem ∧
    (resultFailed s).failures = s.failures ∧
    (resultFailed s).pending = s.pending := by
  unfold resultFailed
  (repeat' split) <;> simp


/-- What `dropExpired` leaves as it is. -/
@[simp] theorem dropExpired_keeps (i : Nat) (s : State) :
    (dropExpired i s).plan = s.plan ∧
    (dropExpired i s).groups = s.groups ∧
    (dropExpired i s).supervision = s.supervision ∧
    (dropExpired i s).routeJob = s.routeJob ∧
    (dropExpired i s).clock = s.clock ∧
    (dropExpired i s).carriers = s.carriers ∧
    (dropExpired i s).carrierJob = s.carrierJob ∧
    (dropExpired i s).backup = s.backup ∧
    (dropExpired i s).intake = s.intake ∧
    (dropExpired i s).mirror = s.mirror ∧
    (dropExpired i s).port = s.port ∧
    (dropExpired i s).regs = s.regs ∧
    (dropExpired i s).power = s.power ∧
    (dropExpired i s).mem = s.mem ∧
    (dropExpired i s).failures = s.failures ∧
    (dropExpired i s).pending = s.pending := by
  simp [dropExpired]


/-- What `tooLate` leaves as it is. -/
@[simp] theorem tooLate_keeps (slot : Nat) (req : List Byte) (i : Nat) (call : Call) (deadline : Tick) (s : State) :
    (tooLate slot req i call deadline s).plan = s.plan ∧
    (tooLate slot req i call deadline s).groups = s.groups ∧
    (tooLate slot req i call deadline s).supervision = s.supervision ∧
    (tooLate slot req i call deadline s).routeJob = s.routeJob ∧
    (tooLate slot req i call deadline s).clock = s.clock ∧
    (tooLate slot req i call deadline s).carriers = s.carriers ∧
    (tooLate slot req i call deadline s).carrierJob = s.carrierJob ∧
    (tooLate slot req i call deadline s).backup = s.backup ∧
    (tooLate slot req i call deadline s).mirror = s.mirror ∧
    (tooLate slot req i call deadline s).regs = s.regs ∧
    (tooLate slot req i call deadline s).power = s.power ∧
    (tooLate slot req i call deadline s).mem = s.mem ∧
    (tooLate slot req i call deadline s).failures = s.failures ∧
    (tooLate slot req i call deadline s).pending = s.pending := by
  simp [tooLate]


/-- What `retainAlternate` leaves as it is. -/
@[simp] theorem retainAlternate_keeps (call : Call) (s : State) :
    (retainAlternate call s).groups = s.groups ∧
    (retainAlternate call s).supervision = s.supervision ∧
    (retainAlternate call s).routeJob = s.routeJob ∧
    (retainAlternate call s).contexts = s.contexts ∧
    (retainAlternate call s).clock = s.clock ∧
    (retainAlternate call s).carriers = s.carriers ∧
    (retainAlternate call s).carrierJob = s.carrierJob ∧
    (retainAlternate call s).backup = s.backup ∧
    (retainAlternate call s).intake = s.intake ∧
    (retainAlternate call s).mirror = s.mirror ∧
    (retainAlternate call s).port = s.port ∧
    (retainAlternate call s).regs = s.regs ∧
    (retainAlternate call s).power = s.power ∧
    (retainAlternate call s).mem = s.mem ∧
    (retainAlternate call s).failures = s.failures ∧
    (retainAlternate call s).pending = s.pending := by
  simp [retainAlternate]


/-- What `confirmRule` leaves as it is. -/
@[simp] theorem confirmRule_keeps (slot : Nat) (req : List Byte) (i : Nat) (c : Context) (s : State) :
    (confirmRule slot req i c s).groups = s.groups ∧
    (confirmRule slot req i c s).supervision = s.supervision ∧
    (confirmRule slot req i c s).routeJob = s.routeJob ∧
    (confirmRule slot req i c s).clock = s.clock ∧
    (confirmRule slot req i c s).carriers = s.carriers ∧
    (confirmRule slot req i c s).carrierJob = s.carrierJob ∧
    (confirmRule slot req i c s).backup = s.backup ∧
    (confirmRule slot req i c s).mirror = s.mirror ∧
    (confirmRule slot req i c s).regs = s.regs ∧
    (confirmRule slot req i c s).power = s.power ∧
    (confirmRule slot req i c s).mem = s.mem ∧
    (confirmRule slot req i c s).failures = s.failures ∧
    (confirmRule slot req i c s).pending = s.pending := by
  unfold confirmRule
  dsimp only
  (repeat' split) <;> simp


/-- What `answerRule` leaves as it is. -/
@[simp] theorem answerRule_keeps (slot : Nat) (req : List Byte) (i : Nat) (c : Context) (s : State) :
    (answerRule slot req i c s).plan = s.plan ∧
    (answerRule slot req i c s).groups = s.groups ∧
    (answerRule slot req i c s).supervision = s.supervision ∧
    (answerRule slot req i c s).routeJob = s.routeJob ∧
    (answerRule slot req i c s).clock = s.clock ∧
    (answerRule slot req i c s).carriers = s.carriers ∧
    (answerRule slot req i c s).carrierJob = s.carrierJob ∧
    (answerRule slot req i c s).backup = s.backup ∧
    (answerRule slot req i c s).mirror = s.mirror ∧
    (answerRule slot req i c s).regs = s.regs ∧
    (answerRule slot req i c s).power = s.power ∧
    (answerRule slot req i c s).mem = s.mem ∧
    (answerRule slot req i c s).failures = s.failures ∧
    (answerRule slot req i c s).pending = s.pending := by
  unfold answerRule
  dsimp only
  (repeat' split) <;> simp


/-- What `handTotal` leaves as it is. -/
@[simp] theorem handTotal_keeps (c : Nat) (d : Direction) (p : Option Price) (s : State) :
    (handTotal c d p s).plan = s.plan ∧
    (handTotal c d p s).groups = s.groups ∧
    (handTotal c d p s).supervision = s.supervision ∧
    (handTotal c d p s).routeJob = s.routeJob ∧
    (handTotal c d p s).contexts = s.contexts ∧
    (handTotal c d p s).clock = s.clock ∧
    (handTotal c d p s).carriers = s.carriers ∧
    (handTotal c d p s).carrierJob = s.carrierJob ∧
    (handTotal c d p s).intake = s.intake ∧
    (handTotal c d p s).mirror = s.mirror ∧
    (handTotal c d p s).port = s.port ∧
    (handTotal c d p s).power = s.power ∧
    (handTotal c d p s).mem = s.mem ∧
    (handTotal c d p s).failures = s.failures ∧
    (handTotal c d p s).pending = s.pending := by
  unfold handTotal
  (repeat' split) <;> simp


/-- What `releaseRule` leaves as it is. -/
@[simp] theorem releaseRule_keeps (slot : Nat) (req : List Byte) (i : Nat) (c : Context) (s : State) :
    (releaseRule slot req i c s).supervision = s.supervision ∧
    (releaseRule slot req i c s).routeJob = s.routeJob ∧
    (releaseRule slot req i c s).clock = s.clock ∧
    (releaseRule slot req i c s).carriers = s.carriers ∧
    (releaseRule slot req i c s).carrierJob = s.carrierJob ∧
    (releaseRule slot req i c s).mirror = s.mirror ∧
    (releaseRule slot req i c s).power = s.power ∧
    (releaseRule slot req i c s).mem = s.mem ∧
    (releaseRule slot req i c s).failures = s.failures ∧
    (releaseRule slot req i c s).pending = s.pending := by
  unfold releaseRule
  dsimp only
  (repeat' split) <;> simp


/-- What `queryRule` leaves as it is. -/
@[simp] theorem queryRule_keeps (slot : Nat) (req : List Byte) (i : Nat) (c : Context) (s : State) :
    (queryRule slot req i c s).plan = s.plan ∧
    (queryRule slot req i c s).groups = s.groups ∧
    (queryRule slot req i c s).supervision = s.supervision ∧
    (queryRule slot req i c s).routeJob = s.routeJob ∧
    (queryRule slot req i c s).contexts = s.contexts ∧
    (queryRule slot req i c s).clock = s.clock ∧
    (queryRule slot req i c s).carriers = s.carriers ∧
    (queryRule slot req i c s).carrierJob = s.carrierJob ∧
    (queryRule slot req i c s).backup = s.backup ∧
    (queryRule slot req i c s).mirror = s.mirror ∧
    (queryRule slot req i c s).regs = s.regs ∧
    (queryRule slot req i c s).power = s.power ∧
    (queryRule slot req i c s).mem = s.mem ∧
    (queryRule slot req i c s).failures = s.failures ∧
    (queryRule slot req i c s).pending = s.pending := by
  unfold queryRule
  (repeat' split) <;> simp


/-- What `freeAll` leaves as it is. -/
@[simp] theorem freeAll_keeps (x : List Nat) (s : State) :
    (freeAll x s).plan = s.plan ∧
    (freeAll x s).groups = s.groups ∧
    (freeAll x s).supervision = s.supervision ∧
    (freeAll x s).routeJob = s.routeJob ∧
    (freeAll x s).clock = s.clock ∧
    (freeAll x s).carriers = s.carriers ∧
    (freeAll x s).carrierJob = s.carrierJob ∧
    (freeAll x s).backup = s.backup ∧
    (freeAll x s).intake = s.intake ∧
    (freeAll x s).mirror = s.mirror ∧
    (freeAll x s).port = s.port ∧
    (freeAll x s).regs = s.regs ∧
    (freeAll x s).power = s.power ∧
    (freeAll x s).mem = s.mem ∧
    (freeAll x s).failures = s.failures ∧
    (freeAll x s).pending = s.pending := by
  induction x generalizing s with
  | nil => simp [freeAll]
  | cons a as ih => simp [freeAll, ih]


/-- What `trimExpired` leaves as it is. -/
@[simp] theorem trimExpired_keeps (s : State) :
    (trimExpired s).plan = s.plan ∧
    (trimExpired s).groups = s.groups ∧
    (trimExpired s).supervision = s.supervision ∧
    (trimExpired s).routeJob = s.routeJob ∧
    (trimExpired s).clock = s.clock ∧
    (trimExpired s).carriers = s.carriers ∧
    (trimExpired s).carrierJob = s.carrierJob ∧
    (trimExpired s).backup = s.backup ∧
    (trimExpired s).intake = s.intake ∧
    (trimExpired s).mirror = s.mirror ∧
    (trimExpired s).port = s.port ∧
    (trimExpired s).regs = s.regs ∧
    (trimExpired s).power = s.power ∧
    (trimExpired s).mem = s.mem ∧
    (trimExpired s).failures = s.failures ∧
    (trimExpired s).pending = s.pending := by
  simp [trimExpired]


/-- What `serveSetCallTimers` leaves as it is. -/
@[simp] theorem serveSetCallTimers_keeps (slot : Nat) (req : List Byte) (s : State) :
    (serveSetCallTimers slot req s).plan = s.plan ∧
    (serveSetCallTimers slot req s).groups = s.groups ∧
    (serveSetCallTimers slot req s).supervision = s.supervision ∧
    (serveSetCallTimers slot req s).routeJob = s.routeJob ∧
    (serveSetCallTimers slot req s).clock = s.clock ∧
    (serveSetCallTimers slot req s).carriers = s.carriers ∧
    (serveSetCallTimers slot req s).carrierJob = s.carrierJob ∧
    (serveSetCallTimers slot req s).backup = s.backup ∧
    (serveSetCallTimers slot req s).mirror = s.mirror ∧
    (serveSetCallTimers slot req s).regs = s.regs ∧
    (serveSetCallTimers slot req s).power = s.power ∧
    (serveSetCallTimers slot req s).mem = s.mem ∧
    (serveSetCallTimers slot req s).failures = s.failures ∧
    (serveSetCallTimers slot req s).pending = s.pending := by
  unfold serveSetCallTimers
  dsimp only
  (repeat' split) <;> simp


/-- What `expire` leaves as it is. -/
@[simp] theorem expire_keeps (i : Nat) (s : State) :
    (expire i s).supervision = s.supervision ∧
    (expire i s).routeJob = s.routeJob ∧
    (expire i s).clock = s.clock ∧
    (expire i s).carriers = s.carriers ∧
    (expire i s).carrierJob = s.carrierJob ∧
    (expire i s).intake = s.intake ∧
    (expire i s).mirror = s.mirror ∧
    (expire i s).port = s.port ∧
    (expire i s).regs = s.regs ∧
    (expire i s).power = s.power ∧
    (expire i s).mem = s.mem ∧
    (expire i s).failures = s.failures ∧
    (expire i s).pending = s.pending := by
  unfold expire
  dsimp only
  (repeat' split) <;> simp


/-- What `markLong` leaves as it is. -/
@[simp] theorem markLong_keeps (i : Nat) (s : State) :
    (markLong i s).plan = s.plan ∧
    (markLong i s).groups = s.groups ∧
    (markLong i s).supervision = s.supervision ∧
    (markLong i s).routeJob = s.routeJob ∧
    (markLong i s).clock = s.clock ∧
    (markLong i s).carriers = s.carriers ∧
    (markLong i s).carrierJob = s.carrierJob ∧
    (markLong i s).backup = s.backup ∧
    (markLong i s).intake = s.intake ∧
    (markLong i s).mirror = s.mirror ∧
    (markLong i s).port = s.port ∧
    (markLong i s).regs = s.regs ∧
    (markLong i s).power = s.power ∧
    (markLong i s).mem = s.mem ∧
    (markLong i s).failures = s.failures ∧
    (markLong i s).pending = s.pending := by
  unfold markLong
  (repeat' split) <;> simp


/-- What `admitRoute` leaves as it is. -/
@[simp] theorem admitRoute_keeps (slot : Nat) (req : List Byte) (through : Option (List Nat × GapOrigin)) (s : State) :
    (admitRoute slot req through s).plan = s.plan ∧
    (admitRoute slot req through s).groups = s.groups ∧
    (admitRoute slot req through s).supervision = s.supervision ∧
    (admitRoute slot req through s).contexts = s.contexts ∧
    (admitRoute slot req through s).clock = s.clock ∧
    (admitRoute slot req through s).carriers = s.carriers ∧
    (admitRoute slot req through s).carrierJob = s.carrierJob ∧
    (admitRoute slot req through s).backup = s.backup ∧
    (admitRoute slot req through s).mirror = s.mirror ∧
    (admitRoute slot req through s).port = s.port ∧
    (admitRoute slot req through s).regs = s.regs ∧
    (admitRoute slot req through s).power = s.power ∧
    (admitRoute slot req through s).mem = s.mem ∧
    (admitRoute slot req through s).failures = s.failures ∧
    (admitRoute slot req through s).pending = s.pending := by
  simp [admitRoute]


/-- What `serveRoute` leaves as it is. -/
@[simp] theorem serveRoute_keeps (slot : Nat) (req : List Byte) (s : State) :
    (serveRoute slot req s).plan = s.plan ∧
    (serveRoute slot req s).groups = s.groups ∧
    (serveRoute slot req s).contexts = s.contexts ∧
    (serveRoute slot req s).clock = s.clock ∧
    (serveRoute slot req s).carriers = s.carriers ∧
    (serveRoute slot req s).carrierJob = s.carrierJob ∧
    (serveRoute slot req s).backup = s.backup ∧
    (serveRoute slot req s).mirror = s.mirror ∧
    (serveRoute slot req s).regs = s.regs ∧
    (serveRoute slot req s).power = s.power ∧
    (serveRoute slot req s).mem = s.mem ∧
    (serveRoute slot req s).failures = s.failures ∧
    (serveRoute slot req s).pending = s.pending := by
  unfold serveRoute
  (repeat' split) <;> simp


/-- What `takeContext` leaves as it is. -/
@[simp] theorem takeContext_keeps (i : Nat) (s : State) :
    (takeContext i s).plan = s.plan ∧
    (takeContext i s).groups = s.groups ∧
    (takeContext i s).supervision = s.supervision ∧
    (takeContext i s).routeJob = s.routeJob ∧
    (takeContext i s).clock = s.clock ∧
    (takeContext i s).carriers = s.carriers ∧
    (takeContext i s).carrierJob = s.carrierJob ∧
    (takeContext i s).backup = s.backup ∧
    (takeContext i s).intake = s.intake ∧
    (takeContext i s).mirror = s.mirror ∧
    (takeContext i s).port = s.port ∧
    (takeContext i s).regs = s.regs ∧
    (takeContext i s).power = s.power ∧
    (takeContext i s).mem = s.mem ∧
    (takeContext i s).failures = s.failures ∧
    (takeContext i s).pending = s.pending := by
  simp [takeContext]


/-- What `finishRoute` leaves as it is. -/
@[simp] theorem finishRoute_keeps (job : RouteJob) (code : Code) (fields : List Field) (s : State) :
    (finishRoute job code fields s).plan = s.plan ∧
    (finishRoute job code fields s).groups = s.groups ∧
    (finishRoute job code fields s).supervision = s.supervision ∧
    (finishRoute job code fields s).contexts = s.contexts ∧
    (finishRoute job code fields s).clock = s.clock ∧
    (finishRoute job code fields s).carriers = s.carriers ∧
    (finishRoute job code fields s).carrierJob = s.carrierJob ∧
    (finishRoute job code fields s).backup = s.backup ∧
    (finishRoute job code fields s).mirror = s.mirror ∧
    (finishRoute job code fields s).regs = s.regs ∧
    (finishRoute job code fields s).power = s.power ∧
    (finishRoute job code fields s).mem = s.mem ∧
    (finishRoute job code fields s).failures = s.failures ∧
    (finishRoute job code fields s).pending = s.pending := by
  simp [finishRoute]


/-- What `walkGranted` leaves as it is. -/
@[simp] theorem walkGranted_keeps (job : RouteJob) (i dest : Nat) (c : Candidate) (s : State) :
    (walkGranted job i dest c s).groups = s.groups ∧
    (walkGranted job i dest c s).supervision = s.supervision ∧
    (walkGranted job i dest c s).clock = s.clock ∧
    (walkGranted job i dest c s).carriers = s.carriers ∧
    (walkGranted job i dest c s).carrierJob = s.carrierJob ∧
    (walkGranted job i dest c s).backup = s.backup ∧
    (walkGranted job i dest c s).mirror = s.mirror ∧
    (walkGranted job i dest c s).regs = s.regs ∧
    (walkGranted job i dest c s).power = s.power ∧
    (walkGranted job i dest c s).mem = s.mem ∧
    (walkGranted job i dest c s).failures = s.failures ∧
    (walkGranted job i dest c s).pending = s.pending := by
  simp [walkGranted]


/-- What `walkRefused` leaves as it is. -/
@[simp] theorem walkRefused_keeps (job : RouteJob) (through : Option (List Nat × GapOrigin)) (dest : Nat) (e : Dest) (s : State) :
    (walkRefused job through dest e s).groups = s.groups ∧
    (walkRefused job through dest e s).supervision = s.supervision ∧
    (walkRefused job through dest e s).contexts = s.contexts ∧
    (walkRefused job through dest e s).clock = s.clock ∧
    (walkRefused job through dest e s).carriers = s.carriers ∧
    (walkRefused job through dest e s).carrierJob = s.carrierJob ∧
    (walkRefused job through dest e s).backup = s.backup ∧
    (walkRefused job through dest e s).mirror = s.mirror ∧
    (walkRefused job through dest e s).regs = s.regs ∧
    (walkRefused job through dest e s).power = s.power ∧
    (walkRefused job through dest e s).mem = s.mem ∧
    (walkRefused job through dest e s).failures = s.failures ∧
    (walkRefused job through dest e s).pending = s.pending := by
  unfold walkRefused
  dsimp only
  (repeat' split) <;> simp


/-- What taking a context for a new call leaves as it is. -/
theorem allocate_keeps {s t : State} {i : Nat} (h : allocate s = some (i, t)) :
    t.plan = s.plan ∧
    t.groups = s.groups ∧
    t.supervision = s.supervision ∧
    t.routeJob = s.routeJob ∧
    t.clock = s.clock ∧
    t.carriers = s.carriers ∧
    t.carrierJob = s.carrierJob ∧
    t.backup = s.backup ∧
    t.intake = s.intake ∧
    t.mirror = s.mirror ∧
    t.port = s.port ∧
    t.regs = s.regs ∧
    t.power = s.power ∧
    t.mem = s.mem ∧
    t.failures = s.failures ∧
    t.pending = s.pending := by
  unfold allocate at h
  split at h
  · obtain ⟨rfl, rfl⟩ := by simpa using h
    simp
  · split at h
    · obtain ⟨rfl, rfl⟩ := by simpa using h
      simp
    · simp at h

/-- What `walk` leaves as it is. -/
@[simp] theorem walk_keeps (job : RouteJob) (through : Option (List Nat × GapOrigin)) (s : State) :
    (walk job through s).supervision = s.supervision ∧
    (walk job through s).clock = s.clock ∧
    (walk job through s).carrierJob = s.carrierJob ∧
    (walk job through s).mirror = s.mirror ∧
    (walk job through s).regs = s.regs ∧
    (walk job through s).power = s.power ∧
    (walk job through s).mem = s.mem ∧
    (walk job through s).failures = s.failures ∧
    (walk job through s).pending = s.pending := by
  unfold walk
  dsimp only
  split
  · simp
  · split
    · simp
    · split
      · simp
      · rename_i ha
        have h1 := allocate_keeps ha
        split <;> rename_i hs <;> have h2 := seize_leaves hs <;> simp [h1, h2]


/-- What `makeReports` leaves as it is. -/
@[simp] theorem makeReports_keeps (renew install : Option (List Nat)) (s : State) :
    (makeReports renew install s).plan = s.plan ∧
    (makeReports renew install s).groups = s.groups ∧
    (makeReports renew install s).routeJob = s.routeJob ∧
    (makeReports renew install s).contexts = s.contexts ∧
    (makeReports renew install s).clock = s.clock ∧
    (makeReports renew install s).carriers = s.carriers ∧
    (makeReports renew install s).carrierJob = s.carrierJob ∧
    (makeReports renew install s).backup = s.backup ∧
    (makeReports renew install s).intake = s.intake ∧
    (makeReports renew install s).mirror = s.mirror ∧
    (makeReports renew install s).port = s.port ∧
    (makeReports renew install s).power = s.power ∧
    (makeReports renew install s).mem = s.mem ∧
    (makeReports renew install s).failures = s.failures ∧
    (makeReports renew install s).pending = s.pending := by
  unfold makeReports
  dsimp only
  (repeat' split) <;> simp


/-- What `clearOwnRetained` leaves as it is. -/
@[simp] theorem clearOwnRetained_keeps (call : Call) (s : State) :
    (clearOwnRetained call s).groups = s.groups ∧
    (clearOwnRetained call s).supervision = s.supervision ∧
    (clearOwnRetained call s).routeJob = s.routeJob ∧
    (clearOwnRetained call s).contexts = s.contexts ∧
    (clearOwnRetained call s).clock = s.clock ∧
    (clearOwnRetained call s).carriers = s.carriers ∧
    (clearOwnRetained call s).carrierJob = s.carrierJob ∧
    (clearOwnRetained call s).backup = s.backup ∧
    (clearOwnRetained call s).intake = s.intake ∧
    (clearOwnRetained call s).mirror = s.mirror ∧
    (clearOwnRetained call s).port = s.port ∧
    (clearOwnRetained call s).regs = s.regs ∧
    (clearOwnRetained call s).power = s.power ∧
    (clearOwnRetained call s).mem = s.mem ∧
    (clearOwnRetained call s).failures = s.failures ∧
    (clearOwnRetained call s).pending = s.pending := by
  unfold clearOwnRetained
  (repeat' split) <;> simp


/-- What `endCall` leaves as it is. -/
@[simp] theorem endCall_keeps (i : Nat) (call : Call) (s : State) :
    (endCall i call s).groups = s.groups ∧
    (endCall i call s).supervision = s.supervision ∧
    (endCall i call s).routeJob = s.routeJob ∧
    (endCall i call s).clock = s.clock ∧
    (endCall i call s).carriers = s.carriers ∧
    (endCall i call s).carrierJob = s.carrierJob ∧
    (endCall i call s).backup = s.backup ∧
    (endCall i call s).intake = s.intake ∧
    (endCall i call s).mirror = s.mirror ∧
    (endCall i call s).port = s.port ∧
    (endCall i call s).regs = s.regs ∧
    (endCall i call s).power = s.power ∧
    (endCall i call s).mem = s.mem ∧
    (endCall i call s).failures = s.failures ∧
    (endCall i call s).pending = s.pending := by
  simp [endCall]


/-- What `crankContinue` leaves as it is. -/
@[simp] theorem crankContinue_keeps (slot : Nat) (req : List Byte) (i : Nat) (call : Call) (s : State) :
    (crankContinue slot req i call s).supervision = s.supervision ∧
    (crankContinue slot req i call s).routeJob = s.routeJob ∧
    (crankContinue slot req i call s).clock = s.clock ∧
    (crankContinue slot req i call s).carrierJob = s.carrierJob ∧
    (crankContinue slot req i call s).mirror = s.mirror ∧
    (crankContinue slot req i call s).regs = s.regs ∧
    (crankContinue slot req i call s).power = s.power ∧
    (crankContinue slot req i call s).mem = s.mem ∧
    (crankContinue slot req i call s).failures = s.failures ∧
    (crankContinue slot req i call s).pending = s.pending := by
  unfold crankContinue
  dsimp only
  split
  · simp
  · split <;> rename_i hs <;> have h := seize_leaves hs <;> simp [h]


/-- What `crankbackRule` leaves as it is. -/
@[simp] theorem crankbackRule_keeps (slot : Nat) (req : List Byte) (i : Nat) (c : Context) (s : State) :
    (crankbackRule slot req i c s).supervision = s.supervision ∧
    (crankbackRule slot req i c s).routeJob = s.routeJob ∧
    (crankbackRule slot req i c s).clock = s.clock ∧
    (crankbackRule slot req i c s).carrierJob = s.carrierJob ∧
    (crankbackRule slot req i c s).mirror = s.mirror ∧
    (crankbackRule slot req i c s).regs = s.regs ∧
    (crankbackRule slot req i c s).power = s.power ∧
    (crankbackRule slot req i c s).mem = s.mem ∧
    (crankbackRule slot req i c s).failures = s.failures ∧
    (crankbackRule slot req i c s).pending = s.pending := by
  unfold crankbackRule
  (repeat' split) <;> simp


end Sys2Proof.Machine
end

