-- ==== Sys2Proof/Laws/FramesRest.lean ====
section
/-! SUPPORT. Frames: for each shared operation of plans, carriers, mirror, clock, registers, starts and bursts, the fields of State that it leaves as they are. -/

namespace Sys2Proof.Machine

/-- What `serveLoad` leaves as it is. -/
@[simp] theorem serveLoad_keeps (k : Kind) (fields : List Byte → Option LoadFields) (slot : Nat) (req : List Byte) (s : State) :
    (serveLoad k fields slot req s).groups = s.groups ∧
    (serveLoad k fields slot req s).supervision = s.supervision ∧
    (serveLoad k fields slot req s).routeJob = s.routeJob ∧
    (serveLoad k fields slot req s).contexts = s.contexts ∧
    (serveLoad k fields slot req s).clock = s.clock ∧
    (serveLoad k fields slot req s).carriers = s.carriers ∧
    (serveLoad k fields slot req s).carrierJob = s.carrierJob ∧
    (serveLoad k fields slot req s).backup = s.backup ∧
    (serveLoad k fields slot req s).mirror = s.mirror ∧
    (serveLoad k fields slot req s).regs = s.regs ∧
    (serveLoad k fields slot req s).power = s.power ∧
    (serveLoad k fields slot req s).mem = s.mem ∧
    (serveLoad k fields slot req s).failures = s.failures ∧
    (serveLoad k fields slot req s).pending = s.pending := by
  unfold serveLoad
  dsimp only
  (repeat' split) <;> simp


/-- What `finishLoad` leaves as it is. -/
@[simp] theorem finishLoad_keeps (l : Load) (code : Code) (record : Nat) (fields : List Field) (s : State) :
    (finishLoad l code record fields s).groups = s.groups ∧
    (finishLoad l code record fields s).supervision = s.supervision ∧
    (finishLoad l code record fields s).routeJob = s.routeJob ∧
    (finishLoad l code record fields s).contexts = s.contexts ∧
    (finishLoad l code record fields s).clock = s.clock ∧
    (finishLoad l code record fields s).carriers = s.carriers ∧
    (finishLoad l code record fields s).carrierJob = s.carrierJob ∧
    (finishLoad l code record fields s).backup = s.backup ∧
    (finishLoad l code record fields s).mirror = s.mirror ∧
    (finishLoad l code record fields s).regs = s.regs ∧
    (finishLoad l code record fields s).power = s.power ∧
    (finishLoad l code record fields s).mem = s.mem ∧
    (finishLoad l code record fields s).failures = s.failures ∧
    (finishLoad l code record fields s).pending = s.pending := by
  simp [finishLoad]


/-- What `applyLoad` leaves as it is. -/
@[simp] theorem applyLoad_keeps (l : Load) (d : BankData) (s : State) :
    (applyLoad l d s).groups = s.groups ∧
    (applyLoad l d s).supervision = s.supervision ∧
    (applyLoad l d s).routeJob = s.routeJob ∧
    (applyLoad l d s).contexts = s.contexts ∧
    (applyLoad l d s).clock = s.clock ∧
    (applyLoad l d s).carriers = s.carriers ∧
    (applyLoad l d s).carrierJob = s.carrierJob ∧
    (applyLoad l d s).backup = s.backup ∧
    (applyLoad l d s).intake = s.intake ∧
    (applyLoad l d s).mirror = s.mirror ∧
    (applyLoad l d s).port = s.port ∧
    (applyLoad l d s).regs = s.regs ∧
    (applyLoad l d s).power = s.power ∧
    (applyLoad l d s).mem = s.mem ∧
    (applyLoad l d s).failures = s.failures ∧
    (applyLoad l d s).pending = s.pending := by
  simp [applyLoad]


/-- What `loadRead` leaves as it is. -/
@[simp] theorem loadRead_keeps (l : Load) (bytes : List Byte) (s : State) :
    (loadRead l bytes s).groups = s.groups ∧
    (loadRead l bytes s).supervision = s.supervision ∧
    (loadRead l bytes s).routeJob = s.routeJob ∧
    (loadRead l bytes s).contexts = s.contexts ∧
    (loadRead l bytes s).clock = s.clock ∧
    (loadRead l bytes s).carriers = s.carriers ∧
    (loadRead l bytes s).carrierJob = s.carrierJob ∧
    (loadRead l bytes s).backup = s.backup ∧
    (loadRead l bytes s).mirror = s.mirror ∧
    (loadRead l bytes s).regs = s.regs ∧
    (loadRead l bytes s).power = s.power ∧
    (loadRead l bytes s).mem = s.mem ∧
    (loadRead l bytes s).failures = s.failures ∧
    (loadRead l bytes s).pending = s.pending := by
  unfold loadRead
  dsimp only
  (repeat' split) <;> simp


/-- What `beginLoad` leaves as it is. -/
@[simp] theorem beginLoad_keeps (l : Load) (s : State) :
    (beginLoad l s).groups = s.groups ∧
    (beginLoad l s).supervision = s.supervision ∧
    (beginLoad l s).routeJob = s.routeJob ∧
    (beginLoad l s).contexts = s.contexts ∧
    (beginLoad l s).clock = s.clock ∧
    (beginLoad l s).carriers = s.carriers ∧
    (beginLoad l s).carrierJob = s.carrierJob ∧
    (beginLoad l s).backup = s.backup ∧
    (beginLoad l s).mirror = s.mirror ∧
    (beginLoad l s).regs = s.regs ∧
    (beginLoad l s).power = s.power ∧
    (beginLoad l s).mem = s.mem ∧
    (beginLoad l s).failures = s.failures ∧
    (beginLoad l s).pending = s.pending := by
  unfold beginLoad
  (repeat' split) <;> simp


/-- What `startHead` leaves as it is. -/
@[simp] theorem startHead_keeps (l : Load) (s : State) :
    (startHead l s).groups = s.groups ∧
    (startHead l s).supervision = s.supervision ∧
    (startHead l s).routeJob = s.routeJob ∧
    (startHead l s).contexts = s.contexts ∧
    (startHead l s).clock = s.clock ∧
    (startHead l s).carriers = s.carriers ∧
    (startHead l s).carrierJob = s.carrierJob ∧
    (startHead l s).backup = s.backup ∧
    (startHead l s).mirror = s.mirror ∧
    (startHead l s).regs = s.regs ∧
    (startHead l s).power = s.power ∧
    (startHead l s).mem = s.mem ∧
    (startHead l s).failures = s.failures ∧
    (startHead l s).pending = s.pending := by
  unfold startHead
  (repeat' split) <;> simp


/-- What `loadBlockRead` leaves as it is. -/
@[simp] theorem loadBlockRead_keeps (bytes : List Byte) (s : State) :
    (loadBlockRead bytes s).groups = s.groups ∧
    (loadBlockRead bytes s).supervision = s.supervision ∧
    (loadBlockRead bytes s).routeJob = s.routeJob ∧
    (loadBlockRead bytes s).contexts = s.contexts ∧
    (loadBlockRead bytes s).clock = s.clock ∧
    (loadBlockRead bytes s).carriers = s.carriers ∧
    (loadBlockRead bytes s).carrierJob = s.carrierJob ∧
    (loadBlockRead bytes s).backup = s.backup ∧
    (loadBlockRead bytes s).mirror = s.mirror ∧
    (loadBlockRead bytes s).regs = s.regs ∧
    (loadBlockRead bytes s).power = s.power ∧
    (loadBlockRead bytes s).mem = s.mem ∧
    (loadBlockRead bytes s).failures = s.failures ∧
    (loadBlockRead bytes s).pending = s.pending := by
  unfold loadBlockRead
  (repeat' split) <;> simp


/-- What `loadBlockFailed` leaves as it is. -/
@[simp] theorem loadBlockFailed_keeps (s : State) :
    (loadBlockFailed s).groups = s.groups ∧
    (loadBlockFailed s).supervision = s.supervision ∧
    (loadBlockFailed s).routeJob = s.routeJob ∧
    (loadBlockFailed s).contexts = s.contexts ∧
    (loadBlockFailed s).clock = s.clock ∧
    (loadBlockFailed s).carriers = s.carriers ∧
    (loadBlockFailed s).carrierJob = s.carrierJob ∧
    (loadBlockFailed s).backup = s.backup ∧
    (loadBlockFailed s).mirror = s.mirror ∧
    (loadBlockFailed s).regs = s.regs ∧
    (loadBlockFailed s).power = s.power ∧
    (loadBlockFailed s).mem = s.mem ∧
    (loadBlockFailed s).failures = s.failures ∧
    (loadBlockFailed s).pending = s.pending := by
  unfold loadBlockFailed
  (repeat' split) <;> simp


/-- What `serveSwitchPlan` leaves as it is. -/
@[simp] theorem serveSwitchPlan_keeps (slot : Nat) (req : List Byte) (s : State) :
    (serveSwitchPlan slot req s).groups = s.groups ∧
    (serveSwitchPlan slot req s).supervision = s.supervision ∧
    (serveSwitchPlan slot req s).routeJob = s.routeJob ∧
    (serveSwitchPlan slot req s).carriers = s.carriers ∧
    (serveSwitchPlan slot req s).carrierJob = s.carrierJob ∧
    (serveSwitchPlan slot req s).backup = s.backup ∧
    (serveSwitchPlan slot req s).mirror = s.mirror ∧
    (serveSwitchPlan slot req s).regs = s.regs ∧
    (serveSwitchPlan slot req s).power = s.power ∧
    (serveSwitchPlan slot req s).mem = s.mem ∧
    (serveSwitchPlan slot req s).failures = s.failures ∧
    (serveSwitchPlan slot req s).pending = s.pending := by
  unfold serveSwitchPlan
  dsimp only
  (repeat' split) <;> simp


/-- What `serveSetCarrier` leaves as it is. -/
@[simp] theorem serveSetCarrier_keeps (slot : Nat) (req : List Byte) (s : State) :
    (serveSetCarrier slot req s).plan = s.plan ∧
    (serveSetCarrier slot req s).groups = s.groups ∧
    (serveSetCarrier slot req s).supervision = s.supervision ∧
    (serveSetCarrier slot req s).routeJob = s.routeJob ∧
    (serveSetCarrier slot req s).contexts = s.contexts ∧
    (serveSetCarrier slot req s).clock = s.clock ∧
    (serveSetCarrier slot req s).carrierJob = s.carrierJob ∧
    (serveSetCarrier slot req s).backup = s.backup ∧
    (serveSetCarrier slot req s).mirror = s.mirror ∧
    (serveSetCarrier slot req s).regs = s.regs ∧
    (serveSetCarrier slot req s).power = s.power ∧
    (serveSetCarrier slot req s).mem = s.mem ∧
    (serveSetCarrier slot req s).failures = s.failures ∧
    (serveSetCarrier slot req s).pending = s.pending := by
  unfold serveSetCarrier
  dsimp only
  (repeat' split) <;> simp


/-- What `serveLoadTariff` leaves as it is. -/
@[simp] theorem serveLoadTariff_keeps (slot : Nat) (req : List Byte) (s : State) :
    (serveLoadTariff slot req s).plan = s.plan ∧
    (serveLoadTariff slot req s).groups = s.groups ∧
    (serveLoadTariff slot req s).supervision = s.supervision ∧
    (serveLoadTariff slot req s).routeJob = s.routeJob ∧
    (serveLoadTariff slot req s).contexts = s.contexts ∧
    (serveLoadTariff slot req s).clock = s.clock ∧
    (serveLoadTariff slot req s).carriers = s.carriers ∧
    (serveLoadTariff slot req s).backup = s.backup ∧
    (serveLoadTariff slot req s).mirror = s.mirror ∧
    (serveLoadTariff slot req s).regs = s.regs ∧
    (serveLoadTariff slot req s).power = s.power ∧
    (serveLoadTariff slot req s).mem = s.mem ∧
    (serveLoadTariff slot req s).failures = s.failures ∧
    (serveLoadTariff slot req s).pending = s.pending := by
  unfold serveLoadTariff
  (repeat' split) <;> simp


/-- What `applyTariff` leaves as it is. -/
@[simp] theorem applyTariff_keeps (slot : Nat) (req : List Byte) (records : List BandRecord) (marks : List Bool) (s : State) :
    (applyTariff slot req records marks s).plan = s.plan ∧
    (applyTariff slot req records marks s).groups = s.groups ∧
    (applyTariff slot req records marks s).supervision = s.supervision ∧
    (applyTariff slot req records marks s).routeJob = s.routeJob ∧
    (applyTariff slot req records marks s).clock = s.clock ∧
    (applyTariff slot req records marks s).carrierJob = s.carrierJob ∧
    (applyTariff slot req records marks s).backup = s.backup ∧
    (applyTariff slot req records marks s).mirror = s.mirror ∧
    (applyTariff slot req records marks s).power = s.power ∧
    (applyTariff slot req records marks s).mem = s.mem ∧
    (applyTariff slot req records marks s).failures = s.failures ∧
    (applyTariff slot req records marks s).pending = s.pending := by
  unfold applyTariff
  dsimp only
  (repeat' split) <;> simp


/-- What `tariffBlockRead` leaves as it is. -/
@[simp] theorem tariffBlockRead_keeps (bytes : List Byte) (s : State) :
    (tariffBlockRead bytes s).plan = s.plan ∧
    (tariffBlockRead bytes s).groups = s.groups ∧
    (tariffBlockRead bytes s).supervision = s.supervision ∧
    (tariffBlockRead bytes s).routeJob = s.routeJob ∧
    (tariffBlockRead bytes s).clock = s.clock ∧
    (tariffBlockRead bytes s).backup = s.backup ∧
    (tariffBlockRead bytes s).mirror = s.mirror ∧
    (tariffBlockRead bytes s).power = s.power ∧
    (tariffBlockRead bytes s).mem = s.mem ∧
    (tariffBlockRead bytes s).failures = s.failures ∧
    (tariffBlockRead bytes s).pending = s.pending := by
  unfold tariffBlockRead
  dsimp only
  (repeat' split) <;> simp


/-- What `tariffBlockFailed` leaves as it is. -/
@[simp] theorem tariffBlockFailed_keeps (s : State) :
    (tariffBlockFailed s).plan = s.plan ∧
    (tariffBlockFailed s).groups = s.groups ∧
    (tariffBlockFailed s).supervision = s.supervision ∧
    (tariffBlockFailed s).routeJob = s.routeJob ∧
    (tariffBlockFailed s).contexts = s.contexts ∧
    (tariffBlockFailed s).clock = s.clock ∧
    (tariffBlockFailed s).carriers = s.carriers ∧
    (tariffBlockFailed s).backup = s.backup ∧
    (tariffBlockFailed s).mirror = s.mirror ∧
    (tariffBlockFailed s).regs = s.regs ∧
    (tariffBlockFailed s).power = s.power ∧
    (tariffBlockFailed s).mem = s.mem ∧
    (tariffBlockFailed s).failures = s.failures ∧
    (tariffBlockFailed s).pending = s.pending := by
  unfold tariffBlockFailed
  (repeat' split) <;> simp


/-- What `serveCancelTariff` leaves as it is. -/
@[simp] theorem serveCancelTariff_keeps (slot : Nat) (req : List Byte) (s : State) :
    (serveCancelTariff slot req s).plan = s.plan ∧
    (serveCancelTariff slot req s).groups = s.groups ∧
    (serveCancelTariff slot req s).supervision = s.supervision ∧
    (serveCancelTariff slot req s).routeJob = s.routeJob ∧
    (serveCancelTariff slot req s).clock = s.clock ∧
    (serveCancelTariff slot req s).carrierJob = s.carrierJob ∧
    (serveCancelTariff slot req s).backup = s.backup ∧
    (serveCancelTariff slot req s).mirror = s.mirror ∧
    (serveCancelTariff slot req s).power = s.power ∧
    (serveCancelTariff slot req s).mem = s.mem ∧
    (serveCancelTariff slot req s).failures = s.failures ∧
    (serveCancelTariff slot req s).pending = s.pending := by
  unfold serveCancelTariff
  dsimp only
  (repeat' split) <;> simp


/-- What `askGeneration` leaves as it is. -/
@[simp] theorem askGeneration_keeps (p : Purpose) (s : State) :
    (askGeneration p s).plan = s.plan ∧
    (askGeneration p s).groups = s.groups ∧
    (askGeneration p s).supervision = s.supervision ∧
    (askGeneration p s).routeJob = s.routeJob ∧
    (askGeneration p s).contexts = s.contexts ∧
    (askGeneration p s).clock = s.clock ∧
    (askGeneration p s).carriers = s.carriers ∧
    (askGeneration p s).carrierJob = s.carrierJob ∧
    (askGeneration p s).backup = s.backup ∧
    (askGeneration p s).intake = s.intake ∧
    (askGeneration p s).mirror = s.mirror ∧
    (askGeneration p s).regs = s.regs ∧
    (askGeneration p s).power = s.power ∧
    (askGeneration p s).mem = s.mem ∧
    (askGeneration p s).failures = s.failures ∧
    (askGeneration p s).pending = s.pending := by
  simp [askGeneration]


/-- What `startMirror` leaves as it is. -/
@[simp] theorem startMirror_keeps (pe : Tick) (s : State) :
    (startMirror pe s).plan = s.plan ∧
    (startMirror pe s).groups = s.groups ∧
    (startMirror pe s).supervision = s.supervision ∧
    (startMirror pe s).routeJob = s.routeJob ∧
    (startMirror pe s).contexts = s.contexts ∧
    (startMirror pe s).clock = s.clock ∧
    (startMirror pe s).carriers = s.carriers ∧
    (startMirror pe s).carrierJob = s.carrierJob ∧
    (startMirror pe s).backup = s.backup ∧
    (startMirror pe s).intake = s.intake ∧
    (startMirror pe s).regs = s.regs ∧
    (startMirror pe s).power = s.power ∧
    (startMirror pe s).mem = s.mem ∧
    (startMirror pe s).failures = s.failures ∧
    (startMirror pe s).pending = s.pending := by
  unfold startMirror
  dsimp only
  (repeat' split) <;> simp


/-- What `mirrorBodyWritten` leaves as it is. -/
@[simp] theorem mirrorBodyWritten_keeps (s : State) :
    (mirrorBodyWritten s).plan = s.plan ∧
    (mirrorBodyWritten s).groups = s.groups ∧
    (mirrorBodyWritten s).supervision = s.supervision ∧
    (mirrorBodyWritten s).routeJob = s.routeJob ∧
    (mirrorBodyWritten s).contexts = s.contexts ∧
    (mirrorBodyWritten s).clock = s.clock ∧
    (mirrorBodyWritten s).carriers = s.carriers ∧
    (mirrorBodyWritten s).carrierJob = s.carrierJob ∧
    (mirrorBodyWritten s).backup = s.backup ∧
    (mirrorBodyWritten s).intake = s.intake ∧
    (mirrorBodyWritten s).regs = s.regs ∧
    (mirrorBodyWritten s).power = s.power ∧
    (mirrorBodyWritten s).mem = s.mem ∧
    (mirrorBodyWritten s).failures = s.failures ∧
    (mirrorBodyWritten s).pending = s.pending := by
  simp [mirrorBodyWritten]


/-- What `clearMarks` leaves as it is. -/
@[simp] theorem clearMarks_keeps (x : List Nat) (s : State) :
    (clearMarks x s).plan = s.plan ∧
    (clearMarks x s).supervision = s.supervision ∧
    (clearMarks x s).routeJob = s.routeJob ∧
    (clearMarks x s).contexts = s.contexts ∧
    (clearMarks x s).clock = s.clock ∧
    (clearMarks x s).carriers = s.carriers ∧
    (clearMarks x s).carrierJob = s.carrierJob ∧
    (clearMarks x s).backup = s.backup ∧
    (clearMarks x s).intake = s.intake ∧
    (clearMarks x s).mirror = s.mirror ∧
    (clearMarks x s).port = s.port ∧
    (clearMarks x s).regs = s.regs ∧
    (clearMarks x s).power = s.power ∧
    (clearMarks x s).mem = s.mem ∧
    (clearMarks x s).failures = s.failures ∧
    (clearMarks x s).pending = s.pending := by
  induction x generalizing s with
  | nil => simp [clearMarks]
  | cons a as ih => simp [clearMarks, ih]


/-- What `mirrorClosed` leaves as it is. -/
@[simp] theorem mirrorClosed_keeps (s : State) :
    (mirrorClosed s).plan = s.plan ∧
    (mirrorClosed s).supervision = s.supervision ∧
    (mirrorClosed s).routeJob = s.routeJob ∧
    (mirrorClosed s).contexts = s.contexts ∧
    (mirrorClosed s).clock = s.clock ∧
    (mirrorClosed s).carriers = s.carriers ∧
    (mirrorClosed s).carrierJob = s.carrierJob ∧
    (mirrorClosed s).backup = s.backup ∧
    (mirrorClosed s).intake = s.intake ∧
    (mirrorClosed s).port = s.port ∧
    (mirrorClosed s).power = s.power ∧
    (mirrorClosed s).mem = s.mem ∧
    (mirrorClosed s).failures = s.failures ∧
    (mirrorClosed s).pending = s.pending := by
  unfold mirrorClosed
  (repeat' split) <;> simp


/-- What `startPeriod` leaves as it is. -/
@[simp] theorem startPeriod_keeps (pe : Tick) (s : State) :
    (startPeriod pe s).plan = s.plan ∧
    (startPeriod pe s).groups = s.groups ∧
    (startPeriod pe s).routeJob = s.routeJob ∧
    (startPeriod pe s).contexts = s.contexts ∧
    (startPeriod pe s).clock = s.clock ∧
    (startPeriod pe s).carriers = s.carriers ∧
    (startPeriod pe s).carrierJob = s.carrierJob ∧
    (startPeriod pe s).backup = s.backup ∧
    (startPeriod pe s).intake = s.intake ∧
    (startPeriod pe s).regs = s.regs ∧
    (startPeriod pe s).power = s.power ∧
    (startPeriod pe s).mem = s.mem ∧
    (startPeriod pe s).failures = s.failures ∧
    (startPeriod pe s).pending = s.pending := by
  simp [startPeriod]


/-- What `endPeriod` leaves as it is. -/
@[simp] theorem endPeriod_keeps (s : State) :
    (endPeriod s).routeJob = s.routeJob ∧
    (endPeriod s).contexts = s.contexts ∧
    (endPeriod s).clock = s.clock ∧
    (endPeriod s).carriers = s.carriers ∧
    (endPeriod s).carrierJob = s.carrierJob ∧
    (endPeriod s).backup = s.backup ∧
    (endPeriod s).intake = s.intake ∧
    (endPeriod s).power = s.power ∧
    (endPeriod s).mem = s.mem ∧
    (endPeriod s).failures = s.failures ∧
    (endPeriod s).pending = s.pending := by
  simp [endPeriod]


/-- What `takeAllHanded` leaves as it is. -/
@[simp] theorem takeAllHanded_keeps (x : List Nat) (s : State) :
    (takeAllHanded x s).plan = s.plan ∧
    (takeAllHanded x s).groups = s.groups ∧
    (takeAllHanded x s).supervision = s.supervision ∧
    (takeAllHanded x s).routeJob = s.routeJob ∧
    (takeAllHanded x s).clock = s.clock ∧
    (takeAllHanded x s).carrierJob = s.carrierJob ∧
    (takeAllHanded x s).backup = s.backup ∧
    (takeAllHanded x s).intake = s.intake ∧
    (takeAllHanded x s).mirror = s.mirror ∧
    (takeAllHanded x s).port = s.port ∧
    (takeAllHanded x s).power = s.power ∧
    (takeAllHanded x s).mem = s.mem ∧
    (takeAllHanded x s).failures = s.failures ∧
    (takeAllHanded x s).pending = s.pending := by
  induction x generalizing s with
  | nil => simp [takeAllHanded]
  | cons a as ih => simp [takeAllHanded, ih]


/-- What `expireAll` leaves as it is. -/
@[simp] theorem expireAll_keeps (x : List Nat) (s : State) :
    (expireAll x s).supervision = s.supervision ∧
    (expireAll x s).routeJob = s.routeJob ∧
    (expireAll x s).clock = s.clock ∧
    (expireAll x s).carriers = s.carriers ∧
    (expireAll x s).carrierJob = s.carrierJob ∧
    (expireAll x s).intake = s.intake ∧
    (expireAll x s).mirror = s.mirror ∧
    (expireAll x s).port = s.port ∧
    (expireAll x s).regs = s.regs ∧
    (expireAll x s).power = s.power ∧
    (expireAll x s).mem = s.mem ∧
    (expireAll x s).failures = s.failures ∧
    (expireAll x s).pending = s.pending := by
  induction x generalizing s with
  | nil => simp [expireAll]
  | cons a as ih => simp [expireAll, ih]


/-- What `markAllLong` leaves as it is. -/
@[simp] theorem markAllLong_keeps (x : List Nat) (s : State) :
    (markAllLong x s).plan = s.plan ∧
    (markAllLong x s).groups = s.groups ∧
    (markAllLong x s).supervision = s.supervision ∧
    (markAllLong x s).routeJob = s.routeJob ∧
    (markAllLong x s).clock = s.clock ∧
    (markAllLong x s).carriers = s.carriers ∧
    (markAllLong x s).carrierJob = s.carrierJob ∧
    (markAllLong x s).backup = s.backup ∧
    (markAllLong x s).intake = s.intake ∧
    (markAllLong x s).mirror = s.mirror ∧
    (markAllLong x s).port = s.port ∧
    (markAllLong x s).regs = s.regs ∧
    (markAllLong x s).power = s.power ∧
    (markAllLong x s).mem = s.mem ∧
    (markAllLong x s).failures = s.failures ∧
    (markAllLong x s).pending = s.pending := by
  induction x generalizing s with
  | nil => simp [markAllLong]
  | cons a as ih => simp [markAllLong, ih]


/-- What `settleTick` leaves as it is. -/
@[simp] theorem settleTick_keeps (s : State) :
    (settleTick s).routeJob = s.routeJob ∧
    (settleTick s).clock = s.clock ∧
    (settleTick s).carrierJob = s.carrierJob ∧
    (settleTick s).intake = s.intake ∧
    (settleTick s).power = s.power ∧
    (settleTick s).mem = s.mem ∧
    (settleTick s).failures = s.failures ∧
    (settleTick s).pending = s.pending := by
  unfold settleTick
  dsimp only
  (repeat' split) <;> simp


/-- What `tickRise` leaves as it is. -/
@[simp] theorem tickRise_keeps (s : State) :
    (tickRise s).plan = s.plan ∧
    (tickRise s).groups = s.groups ∧
    (tickRise s).routeJob = s.routeJob ∧
    (tickRise s).contexts = s.contexts ∧
    (tickRise s).carriers = s.carriers ∧
    (tickRise s).carrierJob = s.carrierJob ∧
    (tickRise s).backup = s.backup ∧
    (tickRise s).intake = s.intake ∧
    (tickRise s).mirror = s.mirror ∧
    (tickRise s).port = s.port ∧
    (tickRise s).regs = s.regs ∧
    (tickRise s).power = s.power ∧
    (tickRise s).mem = s.mem ∧
    (tickRise s).failures = s.failures ∧
    (tickRise s).pending = s.pending := by
  simp [tickRise]


/-- What `advanceTick` leaves as it is. -/
@[simp] theorem advanceTick_keeps (s : State) :
    (advanceTick s).routeJob = s.routeJob ∧
    (advanceTick s).carrierJob = s.carrierJob ∧
    (advanceTick s).intake = s.intake ∧
    (advanceTick s).power = s.power ∧
    (advanceTick s).mem = s.mem ∧
    (advanceTick s).failures = s.failures ∧
    (advanceTick s).pending = s.pending := by
  simp [advanceTick]


/-- What `advanceTenth` leaves as it is. -/
@[simp] theorem advanceTenth_keeps (s : State) :
    (advanceTenth s).plan = s.plan ∧
    (advanceTenth s).groups = s.groups ∧
    (advanceTenth s).supervision = s.supervision ∧
    (advanceTenth s).routeJob = s.routeJob ∧
    (advanceTenth s).carrierJob = s.carrierJob ∧
    (advanceTenth s).intake = s.intake ∧
    (advanceTenth s).mirror = s.mirror ∧
    (advanceTenth s).port = s.port ∧
    (advanceTenth s).regs = s.regs ∧
    (advanceTenth s).power = s.power ∧
    (advanceTenth s).mem = s.mem ∧
    (advanceTenth s).failures = s.failures ∧
    (advanceTenth s).pending = s.pending := by
  unfold advanceTenth
  dsimp only
  (repeat' split) <;> simp


/-- What `changeReference` leaves as it is. -/
@[simp] theorem changeReference_keeps (r : Reference) (s : State) :
    (changeReference r s).plan = s.plan ∧
    (changeReference r s).groups = s.groups ∧
    (changeReference r s).supervision = s.supervision ∧
    (changeReference r s).routeJob = s.routeJob ∧
    (changeReference r s).contexts = s.contexts ∧
    (changeReference r s).carriers = s.carriers ∧
    (changeReference r s).carrierJob = s.carrierJob ∧
    (changeReference r s).backup = s.backup ∧
    (changeReference r s).intake = s.intake ∧
    (changeReference r s).mirror = s.mirror ∧
    (changeReference r s).port = s.port ∧
    (changeReference r s).power = s.power ∧
    (changeReference r s).mem = s.mem ∧
    (changeReference r s).failures = s.failures ∧
    (changeReference r s).pending = s.pending := by
  simp [changeReference]


/-- What `loseReference` leaves as it is. -/
@[simp] theorem loseReference_keeps (s : State) :
    (loseReference s).plan = s.plan ∧
    (loseReference s).groups = s.groups ∧
    (loseReference s).supervision = s.supervision ∧
    (loseReference s).routeJob = s.routeJob ∧
    (loseReference s).carriers = s.carriers ∧
    (loseReference s).carrierJob = s.carrierJob ∧
    (loseReference s).backup = s.backup ∧
    (loseReference s).intake = s.intake ∧
    (loseReference s).mirror = s.mirror ∧
    (loseReference s).port = s.port ∧
    (loseReference s).power = s.power ∧
    (loseReference s).mem = s.mem ∧
    (loseReference s).failures = s.failures ∧
    (loseReference s).pending = s.pending := by
  simp [loseReference]


/-- What `settleSlot` leaves as it is. -/
@[simp] theorem settleSlot_keeps (s : State) :
    (settleSlot s).routeJob = s.routeJob ∧
    (settleSlot s).carrierJob = s.carrierJob ∧
    (settleSlot s).intake = s.intake ∧
    (settleSlot s).power = s.power ∧
    (settleSlot s).mem = s.mem ∧
    (settleSlot s).failures = s.failures ∧
    (settleSlot s).pending = s.pending := by
  unfold settleSlot
  dsimp only
  (repeat' split) <;> simp


/-- What `countSlot` leaves as it is. -/
@[simp] theorem countSlot_keeps (present : Bool) (s : State) :
    (countSlot present s).plan = s.plan ∧
    (countSlot present s).groups = s.groups ∧
    (countSlot present s).supervision = s.supervision ∧
    (countSlot present s).routeJob = s.routeJob ∧
    (countSlot present s).contexts = s.contexts ∧
    (countSlot present s).carriers = s.carriers ∧
    (countSlot present s).carrierJob = s.carrierJob ∧
    (countSlot present s).backup = s.backup ∧
    (countSlot present s).intake = s.intake ∧
    (countSlot present s).mirror = s.mirror ∧
    (countSlot present s).port = s.port ∧
    (countSlot present s).regs = s.regs ∧
    (countSlot present s).power = s.power ∧
    (countSlot present s).mem = s.mem ∧
    (countSlot present s).failures = s.failures ∧
    (countSlot present s).pending = s.pending := by
  simp [countSlot]


/-- What `slotInReset` leaves as it is. -/
@[simp] theorem slotInReset_keeps (s : State) :
    (slotInReset s).plan = s.plan ∧
    (slotInReset s).groups = s.groups ∧
    (slotInReset s).supervision = s.supervision ∧
    (slotInReset s).routeJob = s.routeJob ∧
    (slotInReset s).carrierJob = s.carrierJob ∧
    (slotInReset s).intake = s.intake ∧
    (slotInReset s).mirror = s.mirror ∧
    (slotInReset s).port = s.port ∧
    (slotInReset s).regs = s.regs ∧
    (slotInReset s).power = s.power ∧
    (slotInReset s).mem = s.mem ∧
    (slotInReset s).failures = s.failures ∧
    (slotInReset s).pending = s.pending := by
  unfold slotInReset
  dsimp only
  (repeat' split) <;> simp


/-- What `writeWindow` leaves as it is. -/
@[simp] theorem writeWindow_keeps (off : Nat) (v : Word) (s : State) :
    (writeWindow off v s).plan = s.plan ∧
    (writeWindow off v s).groups = s.groups ∧
    (writeWindow off v s).supervision = s.supervision ∧
    (writeWindow off v s).routeJob = s.routeJob ∧
    (writeWindow off v s).contexts = s.contexts ∧
    (writeWindow off v s).clock = s.clock ∧
    (writeWindow off v s).carriers = s.carriers ∧
    (writeWindow off v s).carrierJob = s.carrierJob ∧
    (writeWindow off v s).backup = s.backup ∧
    (writeWindow off v s).intake = s.intake ∧
    (writeWindow off v s).mirror = s.mirror ∧
    (writeWindow off v s).port = s.port ∧
    (writeWindow off v s).regs = s.regs ∧
    (writeWindow off v s).power = s.power ∧
    (writeWindow off v s).mem = s.mem ∧
    (writeWindow off v s).failures = s.failures := by
  simp [writeWindow]


/-- What `enterRunning id` leaves as it is. -/
@[simp] theorem enterRunning_id_keeps (s : State) :
    (enterRunning id s).plan = s.plan ∧
    (enterRunning id s).groups = s.groups ∧
    (enterRunning id s).supervision = s.supervision ∧
    (enterRunning id s).routeJob = s.routeJob ∧
    (enterRunning id s).contexts = s.contexts ∧
    (enterRunning id s).clock = s.clock ∧
    (enterRunning id s).carriers = s.carriers ∧
    (enterRunning id s).carrierJob = s.carrierJob ∧
    (enterRunning id s).backup = s.backup ∧
    (enterRunning id s).mirror = s.mirror ∧
    (enterRunning id s).power = s.power ∧
    (enterRunning id s).mem = s.mem ∧
    (enterRunning id s).failures = s.failures ∧
    (enterRunning id s).pending = s.pending := by
  unfold enterRunning
  (repeat' split) <;> simp

/-- What `enterRunning proceedAnswers` leaves as it is. -/
@[simp] theorem enterRunning_proceedAnswers_keeps (s : State) :
    (enterRunning proceedAnswers s).plan = s.plan ∧
    (enterRunning proceedAnswers s).groups = s.groups ∧
    (enterRunning proceedAnswers s).supervision = s.supervision ∧
    (enterRunning proceedAnswers s).routeJob = s.routeJob ∧
    (enterRunning proceedAnswers s).contexts = s.contexts ∧
    (enterRunning proceedAnswers s).clock = s.clock ∧
    (enterRunning proceedAnswers s).carriers = s.carriers ∧
    (enterRunning proceedAnswers s).carrierJob = s.carrierJob ∧
    (enterRunning proceedAnswers s).backup = s.backup ∧
    (enterRunning proceedAnswers s).mirror = s.mirror ∧
    (enterRunning proceedAnswers s).power = s.power ∧
    (enterRunning proceedAnswers s).mem = s.mem ∧
    (enterRunning proceedAnswers s).failures = s.failures ∧
    (enterRunning proceedAnswers s).pending = s.pending := by
  unfold enterRunning
  (repeat' split) <;> simp

/-- What `runOn` leaves as it is. -/
@[simp] theorem runOn_keeps (s : State) :
    (runOn s).plan = s.plan ∧
    (runOn s).groups = s.groups ∧
    (runOn s).supervision = s.supervision ∧
    (runOn s).routeJob = s.routeJob ∧
    (runOn s).contexts = s.contexts ∧
    (runOn s).clock = s.clock ∧
    (runOn s).carriers = s.carriers ∧
    (runOn s).carrierJob = s.carrierJob ∧
    (runOn s).backup = s.backup ∧
    (runOn s).mirror = s.mirror ∧
    (runOn s).power = s.power ∧
    (runOn s).mem = s.mem ∧
    (runOn s).failures = s.failures ∧
    (runOn s).pending = s.pending := by
  unfold runOn
  dsimp only
  (repeat' split) <;> simp


/-- What `runOff` leaves as it is. -/
@[simp] theorem runOff_keeps (s : State) :
    (runOff s).plan = s.plan ∧
    (runOff s).groups = s.groups ∧
    (runOff s).supervision = s.supervision ∧
    (runOff s).routeJob = s.routeJob ∧
    (runOff s).contexts = s.contexts ∧
    (runOff s).clock = s.clock ∧
    (runOff s).carriers = s.carriers ∧
    (runOff s).carrierJob = s.carrierJob ∧
    (runOff s).backup = s.backup ∧
    (runOff s).mirror = s.mirror ∧
    (runOff s).power = s.power ∧
    (runOff s).mem = s.mem ∧
    (runOff s).failures = s.failures ∧
    (runOff s).pending = s.pending := by
  unfold runOff
  dsimp only
  (repeat' split) <;> simp


/-- What `requestRescan` leaves as it is. -/
@[simp] theorem requestRescan_keeps (s : State) :
    (requestRescan s).plan = s.plan ∧
    (requestRescan s).groups = s.groups ∧
    (requestRescan s).supervision = s.supervision ∧
    (requestRescan s).routeJob = s.routeJob ∧
    (requestRescan s).contexts = s.contexts ∧
    (requestRescan s).clock = s.clock ∧
    (requestRescan s).carriers = s.carriers ∧
    (requestRescan s).carrierJob = s.carrierJob ∧
    (requestRescan s).backup = s.backup ∧
    (requestRescan s).mirror = s.mirror ∧
    (requestRescan s).port = s.port ∧
    (requestRescan s).regs = s.regs ∧
    (requestRescan s).power = s.power ∧
    (requestRescan s).mem = s.mem ∧
    (requestRescan s).failures = s.failures ∧
    (requestRescan s).pending = s.pending := by
  simp [requestRescan]


/-- What `scanTimerOut` leaves as it is. -/
@[simp] theorem scanTimerOut_keeps (s : State) :
    (scanTimerOut s).plan = s.plan ∧
    (scanTimerOut s).groups = s.groups ∧
    (scanTimerOut s).supervision = s.supervision ∧
    (scanTimerOut s).routeJob = s.routeJob ∧
    (scanTimerOut s).contexts = s.contexts ∧
    (scanTimerOut s).clock = s.clock ∧
    (scanTimerOut s).carriers = s.carriers ∧
    (scanTimerOut s).carrierJob = s.carrierJob ∧
    (scanTimerOut s).backup = s.backup ∧
    (scanTimerOut s).mirror = s.mirror ∧
    (scanTimerOut s).regs = s.regs ∧
    (scanTimerOut s).power = s.power ∧
    (scanTimerOut s).mem = s.mem ∧
    (scanTimerOut s).failures = s.failures ∧
    (scanTimerOut s).pending = s.pending := by
  unfold scanTimerOut
  dsimp only
  (repeat' split) <;> simp


/-- What `endReset` leaves as it is. -/
@[simp] theorem endReset_keeps (s : State) :
    (endReset s).plan = s.plan ∧
    (endReset s).groups = s.groups ∧
    (endReset s).supervision = s.supervision ∧
    (endReset s).routeJob = s.routeJob ∧
    (endReset s).carriers = s.carriers ∧
    (endReset s).carrierJob = s.carrierJob ∧
    (endReset s).intake = s.intake ∧
    (endReset s).mirror = s.mirror ∧
    (endReset s).port = s.port ∧
    (endReset s).regs = s.regs ∧
    (endReset s).mem = s.mem ∧
    (endReset s).failures = s.failures ∧
    (endReset s).pending = s.pending := by
  unfold endReset
  dsimp only
  (repeat' split) <;> simp


/-- What `setTransfers` leaves as it is. -/
@[simp] theorem setTransfers_keeps (r : Requester) (ts : List Transfer) (s : State) :
    (setTransfers r ts s).plan = s.plan ∧
    (setTransfers r ts s).groups = s.groups ∧
    (setTransfers r ts s).supervision = s.supervision ∧
    (setTransfers r ts s).routeJob = s.routeJob ∧
    (setTransfers r ts s).contexts = s.contexts ∧
    (setTransfers r ts s).clock = s.clock ∧
    (setTransfers r ts s).carriers = s.carriers ∧
    (setTransfers r ts s).carrierJob = s.carrierJob ∧
    (setTransfers r ts s).backup = s.backup ∧
    (setTransfers r ts s).intake = s.intake ∧
    (setTransfers r ts s).mirror = s.mirror ∧
    (setTransfers r ts s).regs = s.regs ∧
    (setTransfers r ts s).power = s.power ∧
    (setTransfers r ts s).mem = s.mem ∧
    (setTransfers r ts s).failures = s.failures ∧
    (setTransfers r ts s).pending = s.pending := by
  simp [setTransfers]


/-- What `storeBytes` leaves as it is. -/
@[simp] theorem storeBytes_keeps (t : Transfer) (n : Nat) (s : State) :
    (storeBytes t n s).plan = s.plan ∧
    (storeBytes t n s).groups = s.groups ∧
    (storeBytes t n s).supervision = s.supervision ∧
    (storeBytes t n s).routeJob = s.routeJob ∧
    (storeBytes t n s).contexts = s.contexts ∧
    (storeBytes t n s).clock = s.clock ∧
    (storeBytes t n s).carriers = s.carriers ∧
    (storeBytes t n s).carrierJob = s.carrierJob ∧
    (storeBytes t n s).backup = s.backup ∧
    (storeBytes t n s).intake = s.intake ∧
    (storeBytes t n s).mirror = s.mirror ∧
    (storeBytes t n s).port = s.port ∧
    (storeBytes t n s).regs = s.regs ∧
    (storeBytes t n s).power = s.power ∧
    (storeBytes t n s).failures = s.failures ∧
    (storeBytes t n s).pending = s.pending := by
  unfold storeBytes
  (repeat' split) <;> simp


/-- What `storeFailed` leaves as it is. -/
@[simp] theorem storeFailed_keeps (t : Transfer) (beat : Nat) (s : State) :
    (storeFailed t beat s).plan = s.plan ∧
    (storeFailed t beat s).groups = s.groups ∧
    (storeFailed t beat s).supervision = s.supervision ∧
    (storeFailed t beat s).routeJob = s.routeJob ∧
    (storeFailed t beat s).contexts = s.contexts ∧
    (storeFailed t beat s).clock = s.clock ∧
    (storeFailed t beat s).carriers = s.carriers ∧
    (storeFailed t beat s).carrierJob = s.carrierJob ∧
    (storeFailed t beat s).backup = s.backup ∧
    (storeFailed t beat s).intake = s.intake ∧
    (storeFailed t beat s).mirror = s.mirror ∧
    (storeFailed t beat s).port = s.port ∧
    (storeFailed t beat s).regs = s.regs ∧
    (storeFailed t beat s).power = s.power ∧
    (storeFailed t beat s).pending = s.pending := by
  unfold storeFailed
  dsimp only
  (repeat' split) <;> simp


/-- What `completed` leaves as it is. -/
@[simp] theorem completed_keeps (p : Purpose) (bytes : List Byte) (s : State) :
    (completed p bytes s).supervision = s.supervision ∧
    (completed p bytes s).routeJob = s.routeJob ∧
    (completed p bytes s).clock = s.clock ∧
    (completed p bytes s).power = s.power ∧
    (completed p bytes s).mem = s.mem ∧
    (completed p bytes s).failures = s.failures ∧
    (completed p bytes s).pending = s.pending := by
  unfold completed
  (repeat' split) <;> simp


/-- What `transferFailed` leaves as it is. -/
@[simp] theorem transferFailed_keeps (p : Purpose) (s : State) :
    (transferFailed p s).groups = s.groups ∧
    (transferFailed p s).supervision = s.supervision ∧
    (transferFailed p s).routeJob = s.routeJob ∧
    (transferFailed p s).contexts = s.contexts ∧
    (transferFailed p s).clock = s.clock ∧
    (transferFailed p s).carriers = s.carriers ∧
    (transferFailed p s).power = s.power ∧
    (transferFailed p s).mem = s.mem ∧
    (transferFailed p s).failures = s.failures ∧
    (transferFailed p s).pending = s.pending := by
  unfold transferFailed
  (repeat' split) <;> simp


/-- What `endBurst` leaves as it is. -/
@[simp] theorem endBurst_keeps (r : Requester) (t : Transfer) (ts : List Transfer) (reply : BurstReply) (s : State) :
    (endBurst r t ts reply s).supervision = s.supervision ∧
    (endBurst r t ts reply s).routeJob = s.routeJob ∧
    (endBurst r t ts reply s).clock = s.clock ∧
    (endBurst r t ts reply s).power = s.power ∧
    (endBurst r t ts reply s).pending = s.pending := by
  unfold endBurst
  dsimp only
  (repeat' split) <;> simp


/-- What `serveNext` leaves as it is. -/
@[simp] theorem serveNext_keeps (r : Requester) (s : State) :
    (serveNext r s).plan = s.plan ∧
    (serveNext r s).groups = s.groups ∧
    (serveNext r s).supervision = s.supervision ∧
    (serveNext r s).routeJob = s.routeJob ∧
    (serveNext r s).contexts = s.contexts ∧
    (serveNext r s).clock = s.clock ∧
    (serveNext r s).carriers = s.carriers ∧
    (serveNext r s).carrierJob = s.carrierJob ∧
    (serveNext r s).backup = s.backup ∧
    (serveNext r s).intake = s.intake ∧
    (serveNext r s).mirror = s.mirror ∧
    (serveNext r s).regs = s.regs ∧
    (serveNext r s).power = s.power ∧
    (serveNext r s).mem = s.mem ∧
    (serveNext r s).failures = s.failures ∧
    (serveNext r s).pending = s.pending := by
  simp [serveNext]


end Sys2Proof.Machine
end

