-- ==== Sys2Proof/Laws/CrossReads.lean ====
section
/-! SUPPORT. The named reads of the machine's records past the updates and shared operations that do not touch what they read. -/

namespace Sys2Proof.Machine

/-! ### Past `setPlan` -/

@[simp] theorem group_setPlan (s : State) (x : PlanStore) (g' : Nat) : (s.setPlan x).group g' = s.group g' := rfl
@[simp] theorem carrier_setPlan (s : State) (x : PlanStore) (c' : Nat) : (s.setPlan x).carrier c' = s.carrier c' := rfl
@[simp] theorem settlement_setPlan (s : State) (x : PlanStore) (c' : Nat) : (s.setPlan x).settlement c' = s.settlement c' := rfl
@[simp] theorem openHandovers_setPlan (s : State) (x : PlanStore) (c' : Nat) : (s.setPlan x).openHandovers c' = s.openHandovers c' := rfl
@[simp] theorem context_setPlan (s : State) (x : PlanStore) (i' : Nat) : (s.setPlan x).context i' = s.context i' := rfl
@[simp] theorem now_setPlan (s : State) (x : PlanStore) : (s.setPlan x).now = s.now := rfl
@[simp] theorem up_setPlan (s : State) (x : PlanStore) : (s.setPlan x).up = s.up := rfl

/-! ### Past `setGroups` -/

@[simp] theorem carrier_setGroups (s : State) (x : Table Group) (c' : Nat) : (s.setGroups x).carrier c' = s.carrier c' := rfl
@[simp] theorem settlement_setGroups (s : State) (x : Table Group) (c' : Nat) : (s.setGroups x).settlement c' = s.settlement c' := rfl
@[simp] theorem openHandovers_setGroups (s : State) (x : Table Group) (c' : Nat) : (s.setGroups x).openHandovers c' = s.openHandovers c' := rfl
@[simp] theorem context_setGroups (s : State) (x : Table Group) (i' : Nat) : (s.setGroups x).context i' = s.context i' := rfl
@[simp] theorem bank_setGroups (s : State) (x : Table Group) (k' : Bank) : (s.setGroups x).bank k' = s.bank k' := rfl
@[simp] theorem now_setGroups (s : State) (x : Table Group) : (s.setGroups x).now = s.now := rfl
@[simp] theorem up_setGroups (s : State) (x : Table Group) : (s.setGroups x).up = s.up := rfl

/-! ### Past `setSupervision` -/

@[simp] theorem group_setSupervision (s : State) (x : Supervision) (g' : Nat) : (s.setSupervision x).group g' = s.group g' := rfl
@[simp] theorem carrier_setSupervision (s : State) (x : Supervision) (c' : Nat) : (s.setSupervision x).carrier c' = s.carrier c' := rfl
@[simp] theorem settlement_setSupervision (s : State) (x : Supervision) (c' : Nat) : (s.setSupervision x).settlement c' = s.settlement c' := rfl
@[simp] theorem openHandovers_setSupervision (s : State) (x : Supervision) (c' : Nat) : (s.setSupervision x).openHandovers c' = s.openHandovers c' := rfl
@[simp] theorem context_setSupervision (s : State) (x : Supervision) (i' : Nat) : (s.setSupervision x).context i' = s.context i' := rfl
@[simp] theorem bank_setSupervision (s : State) (x : Supervision) (k' : Bank) : (s.setSupervision x).bank k' = s.bank k' := rfl
@[simp] theorem now_setSupervision (s : State) (x : Supervision) : (s.setSupervision x).now = s.now := rfl
@[simp] theorem up_setSupervision (s : State) (x : Supervision) : (s.setSupervision x).up = s.up := rfl

/-! ### Past `setRouteJob` -/

@[simp] theorem group_setRouteJob (s : State) (x : Option RouteJob) (g' : Nat) : (s.setRouteJob x).group g' = s.group g' := rfl
@[simp] theorem carrier_setRouteJob (s : State) (x : Option RouteJob) (c' : Nat) : (s.setRouteJob x).carrier c' = s.carrier c' := rfl
@[simp] theorem settlement_setRouteJob (s : State) (x : Option RouteJob) (c' : Nat) : (s.setRouteJob x).settlement c' = s.settlement c' := rfl
@[simp] theorem openHandovers_setRouteJob (s : State) (x : Option RouteJob) (c' : Nat) : (s.setRouteJob x).openHandovers c' = s.openHandovers c' := rfl
@[simp] theorem context_setRouteJob (s : State) (x : Option RouteJob) (i' : Nat) : (s.setRouteJob x).context i' = s.context i' := rfl
@[simp] theorem bank_setRouteJob (s : State) (x : Option RouteJob) (k' : Bank) : (s.setRouteJob x).bank k' = s.bank k' := rfl
@[simp] theorem now_setRouteJob (s : State) (x : Option RouteJob) : (s.setRouteJob x).now = s.now := rfl
@[simp] theorem up_setRouteJob (s : State) (x : Option RouteJob) : (s.setRouteJob x).up = s.up := rfl

/-! ### Past `setContexts` -/

@[simp] theorem group_setContexts (s : State) (x : ContextTable) (g' : Nat) : (s.setContexts x).group g' = s.group g' := rfl
@[simp] theorem carrier_setContexts (s : State) (x : ContextTable) (c' : Nat) : (s.setContexts x).carrier c' = s.carrier c' := rfl
@[simp] theorem settlement_setContexts (s : State) (x : ContextTable) (c' : Nat) : (s.setContexts x).settlement c' = s.settlement c' := rfl
@[simp] theorem openHandovers_setContexts (s : State) (x : ContextTable) (c' : Nat) : (s.setContexts x).openHandovers c' = s.openHandovers c' := rfl
@[simp] theorem bank_setContexts (s : State) (x : ContextTable) (k' : Bank) : (s.setContexts x).bank k' = s.bank k' := rfl
@[simp] theorem now_setContexts (s : State) (x : ContextTable) : (s.setContexts x).now = s.now := rfl
@[simp] theorem up_setContexts (s : State) (x : ContextTable) : (s.setContexts x).up = s.up := rfl

/-! ### Past `setClock` -/

@[simp] theorem group_setClock (s : State) (x : ClockUnit) (g' : Nat) : (s.setClock x).group g' = s.group g' := rfl
@[simp] theorem carrier_setClock (s : State) (x : ClockUnit) (c' : Nat) : (s.setClock x).carrier c' = s.carrier c' := rfl
@[simp] theorem settlement_setClock (s : State) (x : ClockUnit) (c' : Nat) : (s.setClock x).settlement c' = s.settlement c' := rfl
@[simp] theorem openHandovers_setClock (s : State) (x : ClockUnit) (c' : Nat) : (s.setClock x).openHandovers c' = s.openHandovers c' := rfl
@[simp] theorem context_setClock (s : State) (x : ClockUnit) (i' : Nat) : (s.setClock x).context i' = s.context i' := rfl
@[simp] theorem bank_setClock (s : State) (x : ClockUnit) (k' : Bank) : (s.setClock x).bank k' = s.bank k' := rfl
@[simp] theorem up_setClock (s : State) (x : ClockUnit) : (s.setClock x).up = s.up := rfl

/-! ### Past `setCarriers` -/

@[simp] theorem group_setCarriers (s : State) (x : Table Carrier) (g' : Nat) : (s.setCarriers x).group g' = s.group g' := rfl
@[simp] theorem settlement_setCarriers (s : State) (x : Table Carrier) (c' : Nat) : (s.setCarriers x).settlement c' = s.settlement c' := rfl
@[simp] theorem openHandovers_setCarriers (s : State) (x : Table Carrier) (c' : Nat) : (s.setCarriers x).openHandovers c' = s.openHandovers c' := rfl
@[simp] theorem context_setCarriers (s : State) (x : Table Carrier) (i' : Nat) : (s.setCarriers x).context i' = s.context i' := rfl
@[simp] theorem bank_setCarriers (s : State) (x : Table Carrier) (k' : Bank) : (s.setCarriers x).bank k' = s.bank k' := rfl
@[simp] theorem now_setCarriers (s : State) (x : Table Carrier) : (s.setCarriers x).now = s.now := rfl
@[simp] theorem up_setCarriers (s : State) (x : Table Carrier) : (s.setCarriers x).up = s.up := rfl

/-! ### Past `setCarrierJob` -/

@[simp] theorem group_setCarrierJob (s : State) (x : Option CarrierJob) (g' : Nat) : (s.setCarrierJob x).group g' = s.group g' := rfl
@[simp] theorem carrier_setCarrierJob (s : State) (x : Option CarrierJob) (c' : Nat) : (s.setCarrierJob x).carrier c' = s.carrier c' := rfl
@[simp] theorem settlement_setCarrierJob (s : State) (x : Option CarrierJob) (c' : Nat) : (s.setCarrierJob x).settlement c' = s.settlement c' := rfl
@[simp] theorem openHandovers_setCarrierJob (s : State) (x : Option CarrierJob) (c' : Nat) : (s.setCarrierJob x).openHandovers c' = s.openHandovers c' := rfl
@[simp] theorem context_setCarrierJob (s : State) (x : Option CarrierJob) (i' : Nat) : (s.setCarrierJob x).context i' = s.context i' := rfl
@[simp] theorem bank_setCarrierJob (s : State) (x : Option CarrierJob) (k' : Bank) : (s.setCarrierJob x).bank k' = s.bank k' := rfl
@[simp] theorem now_setCarrierJob (s : State) (x : Option CarrierJob) : (s.setCarrierJob x).now = s.now := rfl
@[simp] theorem up_setCarrierJob (s : State) (x : Option CarrierJob) : (s.setCarrierJob x).up = s.up := rfl

/-! ### Past `setBackup` -/

@[simp] theorem group_setBackup (s : State) (x : Backup) (g' : Nat) : (s.setBackup x).group g' = s.group g' := rfl
@[simp] theorem carrier_setBackup (s : State) (x : Backup) (c' : Nat) : (s.setBackup x).carrier c' = s.carrier c' := rfl
@[simp] theorem context_setBackup (s : State) (x : Backup) (i' : Nat) : (s.setBackup x).context i' = s.context i' := rfl
@[simp] theorem bank_setBackup (s : State) (x : Backup) (k' : Bank) : (s.setBackup x).bank k' = s.bank k' := rfl
@[simp] theorem now_setBackup (s : State) (x : Backup) : (s.setBackup x).now = s.now := rfl
@[simp] theorem up_setBackup (s : State) (x : Backup) : (s.setBackup x).up = s.up := rfl

/-! ### Past `setIntake` -/

@[simp] theorem group_setIntake (s : State) (x : Intake) (g' : Nat) : (s.setIntake x).group g' = s.group g' := rfl
@[simp] theorem carrier_setIntake (s : State) (x : Intake) (c' : Nat) : (s.setIntake x).carrier c' = s.carrier c' := rfl
@[simp] theorem settlement_setIntake (s : State) (x : Intake) (c' : Nat) : (s.setIntake x).settlement c' = s.settlement c' := rfl
@[simp] theorem openHandovers_setIntake (s : State) (x : Intake) (c' : Nat) : (s.setIntake x).openHandovers c' = s.openHandovers c' := rfl
@[simp] theorem context_setIntake (s : State) (x : Intake) (i' : Nat) : (s.setIntake x).context i' = s.context i' := rfl
@[simp] theorem bank_setIntake (s : State) (x : Intake) (k' : Bank) : (s.setIntake x).bank k' = s.bank k' := rfl
@[simp] theorem now_setIntake (s : State) (x : Intake) : (s.setIntake x).now = s.now := rfl
@[simp] theorem up_setIntake (s : State) (x : Intake) : (s.setIntake x).up = s.up := rfl

/-! ### Past `setMirror` -/

@[simp] theorem group_setMirror (s : State) (x : Mirror) (g' : Nat) : (s.setMirror x).group g' = s.group g' := rfl
@[simp] theorem carrier_setMirror (s : State) (x : Mirror) (c' : Nat) : (s.setMirror x).carrier c' = s.carrier c' := rfl
@[simp] theorem settlement_setMirror (s : State) (x : Mirror) (c' : Nat) : (s.setMirror x).settlement c' = s.settlement c' := rfl
@[simp] theorem openHandovers_setMirror (s : State) (x : Mirror) (c' : Nat) : (s.setMirror x).openHandovers c' = s.openHandovers c' := rfl
@[simp] theorem context_setMirror (s : State) (x : Mirror) (i' : Nat) : (s.setMirror x).context i' = s.context i' := rfl
@[simp] theorem bank_setMirror (s : State) (x : Mirror) (k' : Bank) : (s.setMirror x).bank k' = s.bank k' := rfl
@[simp] theorem now_setMirror (s : State) (x : Mirror) : (s.setMirror x).now = s.now := rfl
@[simp] theorem up_setMirror (s : State) (x : Mirror) : (s.setMirror x).up = s.up := rfl

/-! ### Past `setPort` -/

@[simp] theorem group_setPort (s : State) (x : Port) (g' : Nat) : (s.setPort x).group g' = s.group g' := rfl
@[simp] theorem carrier_setPort (s : State) (x : Port) (c' : Nat) : (s.setPort x).carrier c' = s.carrier c' := rfl
@[simp] theorem settlement_setPort (s : State) (x : Port) (c' : Nat) : (s.setPort x).settlement c' = s.settlement c' := rfl
@[simp] theorem openHandovers_setPort (s : State) (x : Port) (c' : Nat) : (s.setPort x).openHandovers c' = s.openHandovers c' := rfl
@[simp] theorem context_setPort (s : State) (x : Port) (i' : Nat) : (s.setPort x).context i' = s.context i' := rfl
@[simp] theorem bank_setPort (s : State) (x : Port) (k' : Bank) : (s.setPort x).bank k' = s.bank k' := rfl
@[simp] theorem now_setPort (s : State) (x : Port) : (s.setPort x).now = s.now := rfl
@[simp] theorem up_setPort (s : State) (x : Port) : (s.setPort x).up = s.up := rfl

/-! ### Past `setRegs` -/

@[simp] theorem group_setRegs (s : State) (x : Regs) (g' : Nat) : (s.setRegs x).group g' = s.group g' := rfl
@[simp] theorem carrier_setRegs (s : State) (x : Regs) (c' : Nat) : (s.setRegs x).carrier c' = s.carrier c' := rfl
@[simp] theorem settlement_setRegs (s : State) (x : Regs) (c' : Nat) : (s.setRegs x).settlement c' = s.settlement c' := rfl
@[simp] theorem openHandovers_setRegs (s : State) (x : Regs) (c' : Nat) : (s.setRegs x).openHandovers c' = s.openHandovers c' := rfl
@[simp] theorem context_setRegs (s : State) (x : Regs) (i' : Nat) : (s.setRegs x).context i' = s.context i' := rfl
@[simp] theorem bank_setRegs (s : State) (x : Regs) (k' : Bank) : (s.setRegs x).bank k' = s.bank k' := rfl
@[simp] theorem now_setRegs (s : State) (x : Regs) : (s.setRegs x).now = s.now := rfl
@[simp] theorem up_setRegs (s : State) (x : Regs) : (s.setRegs x).up = s.up := rfl

/-! ### Past `setPower` -/

@[simp] theorem group_setPower (s : State) (x : Power) (g' : Nat) : (s.setPower x).group g' = s.group g' := rfl
@[simp] theorem carrier_setPower (s : State) (x : Power) (c' : Nat) : (s.setPower x).carrier c' = s.carrier c' := rfl
@[simp] theorem settlement_setPower (s : State) (x : Power) (c' : Nat) : (s.setPower x).settlement c' = s.settlement c' := rfl
@[simp] theorem openHandovers_setPower (s : State) (x : Power) (c' : Nat) : (s.setPower x).openHandovers c' = s.openHandovers c' := rfl
@[simp] theorem context_setPower (s : State) (x : Power) (i' : Nat) : (s.setPower x).context i' = s.context i' := rfl
@[simp] theorem bank_setPower (s : State) (x : Power) (k' : Bank) : (s.setPower x).bank k' = s.bank k' := rfl
@[simp] theorem now_setPower (s : State) (x : Power) : (s.setPower x).now = s.now := rfl

/-! ### Past `setMem` -/

@[simp] theorem group_setMem (s : State) (x : List Host.Cell) (g' : Nat) : (s.setMem x).group g' = s.group g' := rfl
@[simp] theorem carrier_setMem (s : State) (x : List Host.Cell) (c' : Nat) : (s.setMem x).carrier c' = s.carrier c' := rfl
@[simp] theorem settlement_setMem (s : State) (x : List Host.Cell) (c' : Nat) : (s.setMem x).settlement c' = s.settlement c' := rfl
@[simp] theorem openHandovers_setMem (s : State) (x : List Host.Cell) (c' : Nat) : (s.setMem x).openHandovers c' = s.openHandovers c' := rfl
@[simp] theorem context_setMem (s : State) (x : List Host.Cell) (i' : Nat) : (s.setMem x).context i' = s.context i' := rfl
@[simp] theorem bank_setMem (s : State) (x : List Host.Cell) (k' : Bank) : (s.setMem x).bank k' = s.bank k' := rfl
@[simp] theorem now_setMem (s : State) (x : List Host.Cell) : (s.setMem x).now = s.now := rfl
@[simp] theorem up_setMem (s : State) (x : List Host.Cell) : (s.setMem x).up = s.up := rfl

/-! ### Past `setFailures` -/

@[simp] theorem group_setFailures (s : State) (x : Nat) (g' : Nat) : (s.setFailures x).group g' = s.group g' := rfl
@[simp] theorem carrier_setFailures (s : State) (x : Nat) (c' : Nat) : (s.setFailures x).carrier c' = s.carrier c' := rfl
@[simp] theorem settlement_setFailures (s : State) (x : Nat) (c' : Nat) : (s.setFailures x).settlement c' = s.settlement c' := rfl
@[simp] theorem openHandovers_setFailures (s : State) (x : Nat) (c' : Nat) : (s.setFailures x).openHandovers c' = s.openHandovers c' := rfl
@[simp] theorem context_setFailures (s : State) (x : Nat) (i' : Nat) : (s.setFailures x).context i' = s.context i' := rfl
@[simp] theorem bank_setFailures (s : State) (x : Nat) (k' : Bank) : (s.setFailures x).bank k' = s.bank k' := rfl
@[simp] theorem now_setFailures (s : State) (x : Nat) : (s.setFailures x).now = s.now := rfl
@[simp] theorem up_setFailures (s : State) (x : Nat) : (s.setFailures x).up = s.up := rfl

/-! ### Past `setPending` -/

@[simp] theorem group_setPending (s : State) (x : List Instr) (g' : Nat) : (s.setPending x).group g' = s.group g' := rfl
@[simp] theorem carrier_setPending (s : State) (x : List Instr) (c' : Nat) : (s.setPending x).carrier c' = s.carrier c' := rfl
@[simp] theorem settlement_setPending (s : State) (x : List Instr) (c' : Nat) : (s.setPending x).settlement c' = s.settlement c' := rfl
@[simp] theorem openHandovers_setPending (s : State) (x : List Instr) (c' : Nat) : (s.setPending x).openHandovers c' = s.openHandovers c' := rfl
@[simp] theorem context_setPending (s : State) (x : List Instr) (i' : Nat) : (s.setPending x).context i' = s.context i' := rfl
@[simp] theorem bank_setPending (s : State) (x : List Instr) (k' : Bank) : (s.setPending x).bank k' = s.bank k' := rfl
@[simp] theorem now_setPending (s : State) (x : List Instr) : (s.setPending x).now = s.now := rfl
@[simp] theorem up_setPending (s : State) (x : List Instr) : (s.setPending x).up = s.up := rfl

/-! ### Past `raiseBit` -/

@[simp] theorem group_raiseBit (b : AttentionBit) (s : State) (g' : Nat) : (raiseBit b s).group g' = s.group g' := by
  simp [State.group]
@[simp] theorem carrier_raiseBit (b : AttentionBit) (s : State) (c' : Nat) : (raiseBit b s).carrier c' = s.carrier c' := by
  simp [State.carrier]
@[simp] theorem settlement_raiseBit (b : AttentionBit) (s : State) (c' : Nat) : (raiseBit b s).settlement c' = s.settlement c' := by
  simp [State.settlement]
@[simp] theorem openHandovers_raiseBit (b : AttentionBit) (s : State) (c' : Nat) : (raiseBit b s).openHandovers c' = s.openHandovers c' := by
  simp [State.openHandovers, State.settlement]
@[simp] theorem context_raiseBit (b : AttentionBit) (s : State) (i' : Nat) : (raiseBit b s).context i' = s.context i' := by
  simp [State.context]
@[simp] theorem bank_raiseBit (b : AttentionBit) (s : State) (k' : Bank) : (raiseBit b s).bank k' = s.bank k' := by
  simp [State.bank]
@[simp] theorem now_raiseBit (b : AttentionBit) (s : State) : (raiseBit b s).now = s.now := by
  simp [State.now]
@[simp] theorem up_raiseBit (b : AttentionBit) (s : State) : (raiseBit b s).up = s.up := by
  simp [State.up]

/-! ### Past `statusEvent` -/

@[simp] theorem group_statusEvent (s : State) (g' : Nat) : (statusEvent s).group g' = s.group g' := by
  simp [State.group]
@[simp] theorem carrier_statusEvent (s : State) (c' : Nat) : (statusEvent s).carrier c' = s.carrier c' := by
  simp [State.carrier]
@[simp] theorem settlement_statusEvent (s : State) (c' : Nat) : (statusEvent s).settlement c' = s.settlement c' := by
  simp [State.settlement]
@[simp] theorem openHandovers_statusEvent (s : State) (c' : Nat) : (statusEvent s).openHandovers c' = s.openHandovers c' := by
  simp [State.openHandovers, State.settlement]
@[simp] theorem context_statusEvent (s : State) (i' : Nat) : (statusEvent s).context i' = s.context i' := by
  simp [State.context]
@[simp] theorem bank_statusEvent (s : State) (k' : Bank) : (statusEvent s).bank k' = s.bank k' := by
  simp [State.bank]
@[simp] theorem now_statusEvent (s : State) : (statusEvent s).now = s.now := by
  simp [State.now]
@[simp] theorem up_statusEvent (s : State) : (statusEvent s).up = s.up := by
  simp [State.up]

/-! ### Past `ask` -/

@[simp] theorem group_ask (r : Requester) (t : Transfer) (s : State) (g' : Nat) : (ask r t s).group g' = s.group g' := by
  simp [State.group]
@[simp] theorem carrier_ask (r : Requester) (t : Transfer) (s : State) (c' : Nat) : (ask r t s).carrier c' = s.carrier c' := by
  simp [State.carrier]
@[simp] theorem settlement_ask (r : Requester) (t : Transfer) (s : State) (c' : Nat) : (ask r t s).settlement c' = s.settlement c' := by
  simp [State.settlement]
@[simp] theorem openHandovers_ask (r : Requester) (t : Transfer) (s : State) (c' : Nat) : (ask r t s).openHandovers c' = s.openHandovers c' := by
  simp [State.openHandovers, State.settlement]
@[simp] theorem context_ask (r : Requester) (t : Transfer) (s : State) (i' : Nat) : (ask r t s).context i' = s.context i' := by
  simp [State.context]
@[simp] theorem bank_ask (r : Requester) (t : Transfer) (s : State) (k' : Bank) : (ask r t s).bank k' = s.bank k' := by
  simp [State.bank]
@[simp] theorem now_ask (r : Requester) (t : Transfer) (s : State) : (ask r t s).now = s.now := by
  simp [State.now]
@[simp] theorem up_ask (r : Requester) (t : Transfer) (s : State) : (ask r t s).up = s.up := by
  simp [State.up]

/-! ### Past `formAnswer` -/

@[simp] theorem group_formAnswer (slot : Nat) (req answer : List Byte) (s : State) (g' : Nat) : (formAnswer slot req answer s).group g' = s.group g' := by
  simp [State.group]
@[simp] theorem carrier_formAnswer (slot : Nat) (req answer : List Byte) (s : State) (c' : Nat) : (formAnswer slot req answer s).carrier c' = s.carrier c' := by
  simp [State.carrier]
@[simp] theorem settlement_formAnswer (slot : Nat) (req answer : List Byte) (s : State) (c' : Nat) : (formAnswer slot req answer s).settlement c' = s.settlement c' := by
  simp [State.settlement]
@[simp] theorem openHandovers_formAnswer (slot : Nat) (req answer : List Byte) (s : State) (c' : Nat) : (formAnswer slot req answer s).openHandovers c' = s.openHandovers c' := by
  simp [State.openHandovers, State.settlement]
@[simp] theorem context_formAnswer (slot : Nat) (req answer : List Byte) (s : State) (i' : Nat) : (formAnswer slot req answer s).context i' = s.context i' := by
  simp [State.context]
@[simp] theorem bank_formAnswer (slot : Nat) (req answer : List Byte) (s : State) (k' : Bank) : (formAnswer slot req answer s).bank k' = s.bank k' := by
  simp [State.bank]
@[simp] theorem now_formAnswer (slot : Nat) (req answer : List Byte) (s : State) : (formAnswer slot req answer s).now = s.now := by
  simp [State.now]
@[simp] theorem up_formAnswer (slot : Nat) (req answer : List Byte) (s : State) : (formAnswer slot req answer s).up = s.up := by
  simp [State.up]

/-! ### Past `reply` -/

@[simp] theorem group_reply (slot : Nat) (req : List Byte) (code : Code) (detail : Nat) (fields : List Field) (s : State) (g' : Nat) : (reply slot req code detail fields s).group g' = s.group g' := by
  simp [State.group]
@[simp] theorem carrier_reply (slot : Nat) (req : List Byte) (code : Code) (detail : Nat) (fields : List Field) (s : State) (c' : Nat) : (reply slot req code detail fields s).carrier c' = s.carrier c' := by
  simp [State.carrier]
@[simp] theorem settlement_reply (slot : Nat) (req : List Byte) (code : Code) (detail : Nat) (fields : List Field) (s : State) (c' : Nat) : (reply slot req code detail fields s).settlement c' = s.settlement c' := by
  simp [State.settlement]
@[simp] theorem openHandovers_reply (slot : Nat) (req : List Byte) (code : Code) (detail : Nat) (fields : List Field) (s : State) (c' : Nat) : (reply slot req code detail fields s).openHandovers c' = s.openHandovers c' := by
  simp [State.openHandovers, State.settlement]
@[simp] theorem context_reply (slot : Nat) (req : List Byte) (code : Code) (detail : Nat) (fields : List Field) (s : State) (i' : Nat) : (reply slot req code detail fields s).context i' = s.context i' := by
  simp [State.context]
@[simp] theorem bank_reply (slot : Nat) (req : List Byte) (code : Code) (detail : Nat) (fields : List Field) (s : State) (k' : Bank) : (reply slot req code detail fields s).bank k' = s.bank k' := by
  simp [State.bank]
@[simp] theorem now_reply (slot : Nat) (req : List Byte) (code : Code) (detail : Nat) (fields : List Field) (s : State) : (reply slot req code detail fields s).now = s.now := by
  simp [State.now]
@[simp] theorem up_reply (slot : Nat) (req : List Byte) (code : Code) (detail : Nat) (fields : List Field) (s : State) : (reply slot req code detail fields s).up = s.up := by
  simp [State.up]

/-! ### Past `markBegun` -/

@[simp] theorem group_markBegun (slot : Nat) (req : List Byte) (s : State) (g' : Nat) : (markBegun slot req s).group g' = s.group g' := by
  simp [State.group]
@[simp] theorem carrier_markBegun (slot : Nat) (req : List Byte) (s : State) (c' : Nat) : (markBegun slot req s).carrier c' = s.carrier c' := by
  simp [State.carrier]
@[simp] theorem settlement_markBegun (slot : Nat) (req : List Byte) (s : State) (c' : Nat) : (markBegun slot req s).settlement c' = s.settlement c' := by
  simp [State.settlement]
@[simp] theorem openHandovers_markBegun (slot : Nat) (req : List Byte) (s : State) (c' : Nat) : (markBegun slot req s).openHandovers c' = s.openHandovers c' := by
  simp [State.openHandovers, State.settlement]
@[simp] theorem context_markBegun (slot : Nat) (req : List Byte) (s : State) (i' : Nat) : (markBegun slot req s).context i' = s.context i' := by
  simp [State.context]
@[simp] theorem bank_markBegun (slot : Nat) (req : List Byte) (s : State) (k' : Bank) : (markBegun slot req s).bank k' = s.bank k' := by
  simp [State.bank]
@[simp] theorem now_markBegun (slot : Nat) (req : List Byte) (s : State) : (markBegun slot req s).now = s.now := by
  simp [State.now]
@[simp] theorem up_markBegun (slot : Nat) (req : List Byte) (s : State) : (markBegun slot req s).up = s.up := by
  simp [State.up]

/-! ### Past `putBank` -/

@[simp] theorem group_putBank (k : Bank) (d : BankData) (s : State) (g' : Nat) : (putBank k d s).group g' = s.group g' := by
  simp [State.group]
@[simp] theorem carrier_putBank (k : Bank) (d : BankData) (s : State) (c' : Nat) : (putBank k d s).carrier c' = s.carrier c' := by
  simp [State.carrier]
@[simp] theorem settlement_putBank (k : Bank) (d : BankData) (s : State) (c' : Nat) : (putBank k d s).settlement c' = s.settlement c' := by
  simp [State.settlement]
@[simp] theorem openHandovers_putBank (k : Bank) (d : BankData) (s : State) (c' : Nat) : (putBank k d s).openHandovers c' = s.openHandovers c' := by
  simp [State.openHandovers, State.settlement]
@[simp] theorem context_putBank (k : Bank) (d : BankData) (s : State) (i' : Nat) : (putBank k d s).context i' = s.context i' := by
  simp [State.context]
@[simp] theorem now_putBank (k : Bank) (d : BankData) (s : State) : (putBank k d s).now = s.now := by
  simp [State.now]
@[simp] theorem up_putBank (k : Bank) (d : BankData) (s : State) : (putBank k d s).up = s.up := by
  simp [State.up]

/-! ### Past `changeDest` -/

@[simp] theorem group_changeDest (k : Bank) (n : Nat) (f : Dest → Dest) (s : State) (g' : Nat) : (changeDest k n f s).group g' = s.group g' := by
  simp [State.group]
@[simp] theorem carrier_changeDest (k : Bank) (n : Nat) (f : Dest → Dest) (s : State) (c' : Nat) : (changeDest k n f s).carrier c' = s.carrier c' := by
  simp [State.carrier]
@[simp] theorem settlement_changeDest (k : Bank) (n : Nat) (f : Dest → Dest) (s : State) (c' : Nat) : (changeDest k n f s).settlement c' = s.settlement c' := by
  simp [State.settlement]
@[simp] theorem openHandovers_changeDest (k : Bank) (n : Nat) (f : Dest → Dest) (s : State) (c' : Nat) : (changeDest k n f s).openHandovers c' = s.openHandovers c' := by
  simp [State.openHandovers, State.settlement]
@[simp] theorem context_changeDest (k : Bank) (n : Nat) (f : Dest → Dest) (s : State) (i' : Nat) : (changeDest k n f s).context i' = s.context i' := by
  simp [State.context]
@[simp] theorem now_changeDest (k : Bank) (n : Nat) (f : Dest → Dest) (s : State) : (changeDest k n f s).now = s.now := by
  simp [State.now]
@[simp] theorem up_changeDest (k : Bank) (n : Nat) (f : Dest → Dest) (s : State) : (changeDest k n f s).up = s.up := by
  simp [State.up]

/-! ### Past `changeProvisional` -/

@[simp] theorem group_changeProvisional (k : Bank) (f : Nat → Nat) (s : State) (g' : Nat) : (changeProvisional k f s).group g' = s.group g' := by
  simp [State.group]
@[simp] theorem carrier_changeProvisional (k : Bank) (f : Nat → Nat) (s : State) (c' : Nat) : (changeProvisional k f s).carrier c' = s.carrier c' := by
  simp [State.carrier]
@[simp] theorem settlement_changeProvisional (k : Bank) (f : Nat → Nat) (s : State) (c' : Nat) : (changeProvisional k f s).settlement c' = s.settlement c' := by
  simp [State.settlement]
@[simp] theorem openHandovers_changeProvisional (k : Bank) (f : Nat → Nat) (s : State) (c' : Nat) : (changeProvisional k f s).openHandovers c' = s.openHandovers c' := by
  simp [State.openHandovers, State.settlement]
@[simp] theorem context_changeProvisional (k : Bank) (f : Nat → Nat) (s : State) (i' : Nat) : (changeProvisional k f s).context i' = s.context i' := by
  simp [State.context]
@[simp] theorem now_changeProvisional (k : Bank) (f : Nat → Nat) (s : State) : (changeProvisional k f s).now = s.now := by
  simp [State.now]
@[simp] theorem up_changeProvisional (k : Bank) (f : Nat → Nat) (s : State) : (changeProvisional k f s).up = s.up := by
  simp [State.up]

/-! ### Past `putGroup` -/

@[simp] theorem carrier_putGroup (g : Nat) (r : Group) (s : State) (c' : Nat) : (putGroup g r s).carrier c' = s.carrier c' := by
  simp [State.carrier]
@[simp] theorem settlement_putGroup (g : Nat) (r : Group) (s : State) (c' : Nat) : (putGroup g r s).settlement c' = s.settlement c' := by
  simp [State.settlement]
@[simp] theorem openHandovers_putGroup (g : Nat) (r : Group) (s : State) (c' : Nat) : (putGroup g r s).openHandovers c' = s.openHandovers c' := by
  simp [State.openHandovers, State.settlement]
@[simp] theorem context_putGroup (g : Nat) (r : Group) (s : State) (i' : Nat) : (putGroup g r s).context i' = s.context i' := by
  simp [State.context]
@[simp] theorem bank_putGroup (g : Nat) (r : Group) (s : State) (k' : Bank) : (putGroup g r s).bank k' = s.bank k' := by
  simp [State.bank]
@[simp] theorem now_putGroup (g : Nat) (r : Group) (s : State) : (putGroup g r s).now = s.now := by
  simp [State.now]
@[simp] theorem up_putGroup (g : Nat) (r : Group) (s : State) : (putGroup g r s).up = s.up := by
  simp [State.up]

/-! ### Past `putCarrier` -/

@[simp] theorem group_putCarrier (c : Nat) (r : Carrier) (s : State) (g' : Nat) : (putCarrier c r s).group g' = s.group g' := by
  simp [State.group]
@[simp] theorem settlement_putCarrier (c : Nat) (r : Carrier) (s : State) (c' : Nat) : (putCarrier c r s).settlement c' = s.settlement c' := by
  simp [State.settlement]
@[simp] theorem openHandovers_putCarrier (c : Nat) (r : Carrier) (s : State) (c' : Nat) : (putCarrier c r s).openHandovers c' = s.openHandovers c' := by
  simp [State.openHandovers, State.settlement]
@[simp] theorem context_putCarrier (c : Nat) (r : Carrier) (s : State) (i' : Nat) : (putCarrier c r s).context i' = s.context i' := by
  simp [State.context]
@[simp] theorem bank_putCarrier (c : Nat) (r : Carrier) (s : State) (k' : Bank) : (putCarrier c r s).bank k' = s.bank k' := by
  simp [State.bank]
@[simp] theorem now_putCarrier (c : Nat) (r : Carrier) (s : State) : (putCarrier c r s).now = s.now := by
  simp [State.now]
@[simp] theorem up_putCarrier (c : Nat) (r : Carrier) (s : State) : (putCarrier c r s).up = s.up := by
  simp [State.up]

/-! ### Past `putSettlement` -/

@[simp] theorem group_putSettlement (c : Nat) (r : Settlement) (s : State) (g' : Nat) : (putSettlement c r s).group g' = s.group g' := by
  simp [State.group]
@[simp] theorem carrier_putSettlement (c : Nat) (r : Settlement) (s : State) (c' : Nat) : (putSettlement c r s).carrier c' = s.carrier c' := by
  simp [State.carrier]
@[simp] theorem context_putSettlement (c : Nat) (r : Settlement) (s : State) (i' : Nat) : (putSettlement c r s).context i' = s.context i' := by
  simp [State.context]
@[simp] theorem bank_putSettlement (c : Nat) (r : Settlement) (s : State) (k' : Bank) : (putSettlement c r s).bank k' = s.bank k' := by
  simp [State.bank]
@[simp] theorem now_putSettlement (c : Nat) (r : Settlement) (s : State) : (putSettlement c r s).now = s.now := by
  simp [State.now]
@[simp] theorem up_putSettlement (c : Nat) (r : Settlement) (s : State) : (putSettlement c r s).up = s.up := by
  simp [State.up]

/-! ### Past `putContext` -/

@[simp] theorem group_putContext (i : Nat) (c : Context) (s : State) (g' : Nat) : (putContext i c s).group g' = s.group g' := by
  simp [State.group]
@[simp] theorem carrier_putContext (i : Nat) (c : Context) (s : State) (c' : Nat) : (putContext i c s).carrier c' = s.carrier c' := by
  simp [State.carrier]
@[simp] theorem settlement_putContext (i : Nat) (c : Context) (s : State) (c' : Nat) : (putContext i c s).settlement c' = s.settlement c' := by
  simp [State.settlement]
@[simp] theorem openHandovers_putContext (i : Nat) (c : Context) (s : State) (c' : Nat) : (putContext i c s).openHandovers c' = s.openHandovers c' := by
  simp [State.openHandovers, State.settlement]
@[simp] theorem bank_putContext (i : Nat) (c : Context) (s : State) (k' : Bank) : (putContext i c s).bank k' = s.bank k' := by
  simp [State.bank]
@[simp] theorem now_putContext (i : Nat) (c : Context) (s : State) : (putContext i c s).now = s.now := by
  simp [State.now]
@[simp] theorem up_putContext (i : Nat) (c : Context) (s : State) : (putContext i c s).up = s.up := by
  simp [State.up]

/-! ### Past `freeContext` -/

@[simp] theorem group_freeContext (i : Nat) (s : State) (g' : Nat) : (freeContext i s).group g' = s.group g' := by
  simp [State.group]
@[simp] theorem carrier_freeContext (i : Nat) (s : State) (c' : Nat) : (freeContext i s).carrier c' = s.carrier c' := by
  simp [State.carrier]
@[simp] theorem settlement_freeContext (i : Nat) (s : State) (c' : Nat) : (freeContext i s).settlement c' = s.settlement c' := by
  simp [State.settlement]
@[simp] theorem openHandovers_freeContext (i : Nat) (s : State) (c' : Nat) : (freeContext i s).openHandovers c' = s.openHandovers c' := by
  simp [State.openHandovers, State.settlement]
@[simp] theorem bank_freeContext (i : Nat) (s : State) (k' : Bank) : (freeContext i s).bank k' = s.bank k' := by
  simp [State.bank]
@[simp] theorem now_freeContext (i : Nat) (s : State) : (freeContext i s).now = s.now := by
  simp [State.now]
@[simp] theorem up_freeContext (i : Nat) (s : State) : (freeContext i s).up = s.up := by
  simp [State.up]

/-! ### Past `takeContext` -/

@[simp] theorem group_takeContext (i : Nat) (s : State) (g' : Nat) : (takeContext i s).group g' = s.group g' := by
  simp [State.group]
@[simp] theorem carrier_takeContext (i : Nat) (s : State) (c' : Nat) : (takeContext i s).carrier c' = s.carrier c' := by
  simp [State.carrier]
@[simp] theorem settlement_takeContext (i : Nat) (s : State) (c' : Nat) : (takeContext i s).settlement c' = s.settlement c' := by
  simp [State.settlement]
@[simp] theorem openHandovers_takeContext (i : Nat) (s : State) (c' : Nat) : (takeContext i s).openHandovers c' = s.openHandovers c' := by
  simp [State.openHandovers, State.settlement]
@[simp] theorem bank_takeContext (i : Nat) (s : State) (k' : Bank) : (takeContext i s).bank k' = s.bank k' := by
  simp [State.bank]
@[simp] theorem now_takeContext (i : Nat) (s : State) : (takeContext i s).now = s.now := by
  simp [State.now]
@[simp] theorem up_takeContext (i : Nat) (s : State) : (takeContext i s).up = s.up := by
  simp [State.up]

/-! ### Past `dropExpired` -/

@[simp] theorem group_dropExpired (i : Nat) (s : State) (g' : Nat) : (dropExpired i s).group g' = s.group g' := by
  simp [State.group]
@[simp] theorem carrier_dropExpired (i : Nat) (s : State) (c' : Nat) : (dropExpired i s).carrier c' = s.carrier c' := by
  simp [State.carrier]
@[simp] theorem settlement_dropExpired (i : Nat) (s : State) (c' : Nat) : (dropExpired i s).settlement c' = s.settlement c' := by
  simp [State.settlement]
@[simp] theorem openHandovers_dropExpired (i : Nat) (s : State) (c' : Nat) : (dropExpired i s).openHandovers c' = s.openHandovers c' := by
  simp [State.openHandovers, State.settlement]
@[simp] theorem bank_dropExpired (i : Nat) (s : State) (k' : Bank) : (dropExpired i s).bank k' = s.bank k' := by
  simp [State.bank]
@[simp] theorem now_dropExpired (i : Nat) (s : State) : (dropExpired i s).now = s.now := by
  simp [State.now]
@[simp] theorem up_dropExpired (i : Nat) (s : State) : (dropExpired i s).up = s.up := by
  simp [State.up]

/-! ### Past `changeOpen` -/

@[simp] theorem group_changeOpen (c : Nat) (f : Nat → Nat) (s : State) (g' : Nat) : (changeOpen c f s).group g' = s.group g' := by
  simp [State.group]
@[simp] theorem carrier_changeOpen (c : Nat) (f : Nat → Nat) (s : State) (c' : Nat) : (changeOpen c f s).carrier c' = s.carrier c' := by
  simp [State.carrier]
@[simp] theorem context_changeOpen (c : Nat) (f : Nat → Nat) (s : State) (i' : Nat) : (changeOpen c f s).context i' = s.context i' := by
  simp [State.context]
@[simp] theorem bank_changeOpen (c : Nat) (f : Nat → Nat) (s : State) (k' : Bank) : (changeOpen c f s).bank k' = s.bank k' := by
  simp [State.bank]
@[simp] theorem now_changeOpen (c : Nat) (f : Nat → Nat) (s : State) : (changeOpen c f s).now = s.now := by
  simp [State.now]
@[simp] theorem up_changeOpen (c : Nat) (f : Nat → Nat) (s : State) : (changeOpen c f s).up = s.up := by
  simp [State.up]

/-! ### Past `countExamination` -/

@[simp] theorem carrier_countExamination (g a f : Nat) (s : State) (c' : Nat) : (countExamination g a f s).carrier c' = s.carrier c' := by
  simp [State.carrier]
@[simp] theorem settlement_countExamination (g a f : Nat) (s : State) (c' : Nat) : (countExamination g a f s).settlement c' = s.settlement c' := by
  simp [State.settlement]
@[simp] theorem openHandovers_countExamination (g a f : Nat) (s : State) (c' : Nat) : (countExamination g a f s).openHandovers c' = s.openHandovers c' := by
  simp [State.openHandovers, State.settlement]
@[simp] theorem context_countExamination (g a f : Nat) (s : State) (i' : Nat) : (countExamination g a f s).context i' = s.context i' := by
  simp [State.context]
@[simp] theorem bank_countExamination (g a f : Nat) (s : State) (k' : Bank) : (countExamination g a f s).bank k' = s.bank k' := by
  simp [State.bank]
@[simp] theorem now_countExamination (g a f : Nat) (s : State) : (countExamination g a f s).now = s.now := by
  simp [State.now]
@[simp] theorem up_countExamination (g a f : Nat) (s : State) : (countExamination g a f s).up = s.up := by
  simp [State.up]

/-! ### Past `countCeilingRefusal` -/

@[simp] theorem group_countCeilingRefusal (c : Nat) (s : State) (g' : Nat) : (countCeilingRefusal c s).group g' = s.group g' := by
  simp [State.group]
@[simp] theorem settlement_countCeilingRefusal (c : Nat) (s : State) (c' : Nat) : (countCeilingRefusal c s).settlement c' = s.settlement c' := by
  simp [State.settlement]
@[simp] theorem openHandovers_countCeilingRefusal (c : Nat) (s : State) (c' : Nat) : (countCeilingRefusal c s).openHandovers c' = s.openHandovers c' := by
  simp [State.openHandovers, State.settlement]
@[simp] theorem context_countCeilingRefusal (c : Nat) (s : State) (i' : Nat) : (countCeilingRefusal c s).context i' = s.context i' := by
  simp [State.context]
@[simp] theorem bank_countCeilingRefusal (c : Nat) (s : State) (k' : Bank) : (countCeilingRefusal c s).bank k' = s.bank k' := by
  simp [State.bank]
@[simp] theorem now_countCeilingRefusal (c : Nat) (s : State) : (countCeilingRefusal c s).now = s.now := by
  simp [State.now]
@[simp] theorem up_countCeilingRefusal (c : Nat) (s : State) : (countCeilingRefusal c s).up = s.up := by
  simp [State.up]

/-! ### Past `countVerdict` -/

@[simp] theorem settlement_countVerdict (g : Nat) (v : Verdict) (s : State) (c' : Nat) : (countVerdict g v s).settlement c' = s.settlement c' := by
  simp [State.settlement]
@[simp] theorem openHandovers_countVerdict (g : Nat) (v : Verdict) (s : State) (c' : Nat) : (countVerdict g v s).openHandovers c' = s.openHandovers c' := by
  simp [State.openHandovers, State.settlement]
@[simp] theorem context_countVerdict (g : Nat) (v : Verdict) (s : State) (i' : Nat) : (countVerdict g v s).context i' = s.context i' := by
  simp [State.context]
@[simp] theorem bank_countVerdict (g : Nat) (v : Verdict) (s : State) (k' : Bank) : (countVerdict g v s).bank k' = s.bank k' := by
  simp [State.bank]
@[simp] theorem now_countVerdict (g : Nat) (v : Verdict) (s : State) : (countVerdict g v s).now = s.now := by
  simp [State.now]
@[simp] theorem up_countVerdict (g : Nat) (v : Verdict) (s : State) : (countVerdict g v s).up = s.up := by
  simp [State.up]

/-! ### Past `grantSeizure` -/

@[simp] theorem carrier_grantSeizure (g : Nat) (s : State) (c' : Nat) : (grantSeizure g s).carrier c' = s.carrier c' := by
  simp [State.carrier]
@[simp] theorem context_grantSeizure (g : Nat) (s : State) (i' : Nat) : (grantSeizure g s).context i' = s.context i' := by
  simp [State.context]
@[simp] theorem bank_grantSeizure (g : Nat) (s : State) (k' : Bank) : (grantSeizure g s).bank k' = s.bank k' := by
  simp [State.bank]
@[simp] theorem now_grantSeizure (g : Nat) (s : State) : (grantSeizure g s).now = s.now := by
  simp [State.now]
@[simp] theorem up_grantSeizure (g : Nat) (s : State) : (grantSeizure g s).up = s.up := by
  simp [State.up]

/-! ### Past `returnSeizure` -/

@[simp] theorem carrier_returnSeizure (g : Nat) (s : State) (c' : Nat) : (returnSeizure g s).carrier c' = s.carrier c' := by
  simp [State.carrier]
@[simp] theorem context_returnSeizure (g : Nat) (s : State) (i' : Nat) : (returnSeizure g s).context i' = s.context i' := by
  simp [State.context]
@[simp] theorem bank_returnSeizure (g : Nat) (s : State) (k' : Bank) : (returnSeizure g s).bank k' = s.bank k' := by
  simp [State.bank]
@[simp] theorem now_returnSeizure (g : Nat) (s : State) : (returnSeizure g s).now = s.now := by
  simp [State.now]
@[simp] theorem up_returnSeizure (g : Nat) (s : State) : (returnSeizure g s).up = s.up := by
  simp [State.up]

/-! ### Past `putGaps` -/

@[simp] theorem group_putGaps (gaps : List GapEntry) (s : State) (g' : Nat) : (putGaps gaps s).group g' = s.group g' := by
  simp [State.group]
@[simp] theorem carrier_putGaps (gaps : List GapEntry) (s : State) (c' : Nat) : (putGaps gaps s).carrier c' = s.carrier c' := by
  simp [State.carrier]
@[simp] theorem settlement_putGaps (gaps : List GapEntry) (s : State) (c' : Nat) : (putGaps gaps s).settlement c' = s.settlement c' := by
  simp [State.settlement]
@[simp] theorem openHandovers_putGaps (gaps : List GapEntry) (s : State) (c' : Nat) : (putGaps gaps s).openHandovers c' = s.openHandovers c' := by
  simp [State.openHandovers, State.settlement]
@[simp] theorem context_putGaps (gaps : List GapEntry) (s : State) (i' : Nat) : (putGaps gaps s).context i' = s.context i' := by
  simp [State.context]
@[simp] theorem bank_putGaps (gaps : List GapEntry) (s : State) (k' : Bank) : (putGaps gaps s).bank k' = s.bank k' := by
  simp [State.bank]
@[simp] theorem now_putGaps (gaps : List GapEntry) (s : State) : (putGaps gaps s).now = s.now := by
  simp [State.now]
@[simp] theorem up_putGaps (gaps : List GapEntry) (s : State) : (putGaps gaps s).up = s.up := by
  simp [State.up]

/-! ### Past `putTariffs` -/

@[simp] theorem group_putTariffs (c : Nat) (d : Direction) (t : Tariffs) (s : State) (g' : Nat) : (putTariffs c d t s).group g' = s.group g' := by
  simp [State.group]
@[simp] theorem settlement_putTariffs (c : Nat) (d : Direction) (t : Tariffs) (s : State) (c' : Nat) : (putTariffs c d t s).settlement c' = s.settlement c' := by
  simp [State.settlement]
@[simp] theorem openHandovers_putTariffs (c : Nat) (d : Direction) (t : Tariffs) (s : State) (c' : Nat) : (putTariffs c d t s).openHandovers c' = s.openHandovers c' := by
  simp [State.openHandovers, State.settlement]
@[simp] theorem context_putTariffs (c : Nat) (d : Direction) (t : Tariffs) (s : State) (i' : Nat) : (putTariffs c d t s).context i' = s.context i' := by
  simp [State.context]
@[simp] theorem bank_putTariffs (c : Nat) (d : Direction) (t : Tariffs) (s : State) (k' : Bank) : (putTariffs c d t s).bank k' = s.bank k' := by
  simp [State.bank]
@[simp] theorem now_putTariffs (c : Nat) (d : Direction) (t : Tariffs) (s : State) : (putTariffs c d t s).now = s.now := by
  simp [State.now]
@[simp] theorem up_putTariffs (c : Nat) (d : Direction) (t : Tariffs) (s : State) : (putTariffs c d t s).up = s.up := by
  simp [State.up]

/-! ### Past `putSums` -/

@[simp] theorem group_putSums (c : Nat) (v : Sums) (s : State) (g' : Nat) : (putSums c v s).group g' = s.group g' := by
  simp [State.group]
@[simp] theorem carrier_putSums (c : Nat) (v : Sums) (s : State) (c' : Nat) : (putSums c v s).carrier c' = s.carrier c' := by
  simp [State.carrier]
@[simp] theorem context_putSums (c : Nat) (v : Sums) (s : State) (i' : Nat) : (putSums c v s).context i' = s.context i' := by
  simp [State.context]
@[simp] theorem bank_putSums (c : Nat) (v : Sums) (s : State) (k' : Bank) : (putSums c v s).bank k' = s.bank k' := by
  simp [State.bank]
@[simp] theorem now_putSums (c : Nat) (v : Sums) (s : State) : (putSums c v s).now = s.now := by
  simp [State.now]
@[simp] theorem up_putSums (c : Nat) (v : Sums) (s : State) : (putSums c v s).up = s.up := by
  simp [State.up]

/-! ### Past `accumulate` -/

@[simp] theorem group_accumulate (c : Nat) (d : Direction) (n : Nat) (s : State) (g' : Nat) : (accumulate c d n s).group g' = s.group g' := by
  simp [State.group]
@[simp] theorem carrier_accumulate (c : Nat) (d : Direction) (n : Nat) (s : State) (c' : Nat) : (accumulate c d n s).carrier c' = s.carrier c' := by
  simp [State.carrier]
@[simp] theorem context_accumulate (c : Nat) (d : Direction) (n : Nat) (s : State) (i' : Nat) : (accumulate c d n s).context i' = s.context i' := by
  simp [State.context]
@[simp] theorem bank_accumulate (c : Nat) (d : Direction) (n : Nat) (s : State) (k' : Bank) : (accumulate c d n s).bank k' = s.bank k' := by
  simp [State.bank]
@[simp] theorem now_accumulate (c : Nat) (d : Direction) (n : Nat) (s : State) : (accumulate c d n s).now = s.now := by
  simp [State.now]
@[simp] theorem up_accumulate (c : Nat) (d : Direction) (n : Nat) (s : State) : (accumulate c d n s).up = s.up := by
  simp [State.up]

/-! ### Past `handTotal` -/

@[simp] theorem group_handTotal (c : Nat) (d : Direction) (p : Option Price) (s : State) (g' : Nat) : (handTotal c d p s).group g' = s.group g' := by
  simp [State.group]
@[simp] theorem carrier_handTotal (c : Nat) (d : Direction) (p : Option Price) (s : State) (c' : Nat) : (handTotal c d p s).carrier c' = s.carrier c' := by
  simp [State.carrier]
@[simp] theorem context_handTotal (c : Nat) (d : Direction) (p : Option Price) (s : State) (i' : Nat) : (handTotal c d p s).context i' = s.context i' := by
  simp [State.context]
@[simp] theorem bank_handTotal (c : Nat) (d : Direction) (p : Option Price) (s : State) (k' : Bank) : (handTotal c d p s).bank k' = s.bank k' := by
  simp [State.bank]
@[simp] theorem now_handTotal (c : Nat) (d : Direction) (p : Option Price) (s : State) : (handTotal c d p s).now = s.now := by
  simp [State.now]
@[simp] theorem up_handTotal (c : Nat) (d : Direction) (p : Option Price) (s : State) : (handTotal c d p s).up = s.up := by
  simp [State.up]

/-! ### Past `clearOwnRetained` -/

@[simp] theorem group_clearOwnRetained (call : Call) (s : State) (g' : Nat) : (clearOwnRetained call s).group g' = s.group g' := by
  simp [State.group]
@[simp] theorem carrier_clearOwnRetained (call : Call) (s : State) (c' : Nat) : (clearOwnRetained call s).carrier c' = s.carrier c' := by
  simp [State.carrier]
@[simp] theorem settlement_clearOwnRetained (call : Call) (s : State) (c' : Nat) : (clearOwnRetained call s).settlement c' = s.settlement c' := by
  simp [State.settlement]
@[simp] theorem openHandovers_clearOwnRetained (call : Call) (s : State) (c' : Nat) : (clearOwnRetained call s).openHandovers c' = s.openHandovers c' := by
  simp [State.openHandovers, State.settlement]
@[simp] theorem context_clearOwnRetained (call : Call) (s : State) (i' : Nat) : (clearOwnRetained call s).context i' = s.context i' := by
  simp [State.context]
@[simp] theorem now_clearOwnRetained (call : Call) (s : State) : (clearOwnRetained call s).now = s.now := by
  simp [State.now]
@[simp] theorem up_clearOwnRetained (call : Call) (s : State) : (clearOwnRetained call s).up = s.up := by
  simp [State.up]

/-! ### Past `retainAlternate` -/

@[simp] theorem group_retainAlternate (call : Call) (s : State) (g' : Nat) : (retainAlternate call s).group g' = s.group g' := by
  simp [State.group]
@[simp] theorem carrier_retainAlternate (call : Call) (s : State) (c' : Nat) : (retainAlternate call s).carrier c' = s.carrier c' := by
  simp [State.carrier]
@[simp] theorem settlement_retainAlternate (call : Call) (s : State) (c' : Nat) : (retainAlternate call s).settlement c' = s.settlement c' := by
  simp [State.settlement]
@[simp] theorem openHandovers_retainAlternate (call : Call) (s : State) (c' : Nat) : (retainAlternate call s).openHandovers c' = s.openHandovers c' := by
  simp [State.openHandovers, State.settlement]
@[simp] theorem context_retainAlternate (call : Call) (s : State) (i' : Nat) : (retainAlternate call s).context i' = s.context i' := by
  simp [State.context]
@[simp] theorem now_retainAlternate (call : Call) (s : State) : (retainAlternate call s).now = s.now := by
  simp [State.now]
@[simp] theorem up_retainAlternate (call : Call) (s : State) : (retainAlternate call s).up = s.up := by
  simp [State.up]

/-! ### Past `boundaryEvent` -/

@[simp] theorem group_boundaryEvent (reaches : Call → Bool) (s : State) (g' : Nat) : (boundaryEvent reaches s).group g' = s.group g' := by
  simp [State.group]
@[simp] theorem carrier_boundaryEvent (reaches : Call → Bool) (s : State) (c' : Nat) : (boundaryEvent reaches s).carrier c' = s.carrier c' := by
  simp [State.carrier]
@[simp] theorem settlement_boundaryEvent (reaches : Call → Bool) (s : State) (c' : Nat) : (boundaryEvent reaches s).settlement c' = s.settlement c' := by
  simp [State.settlement]
@[simp] theorem openHandovers_boundaryEvent (reaches : Call → Bool) (s : State) (c' : Nat) : (boundaryEvent reaches s).openHandovers c' = s.openHandovers c' := by
  simp [State.openHandovers, State.settlement]
@[simp] theorem bank_boundaryEvent (reaches : Call → Bool) (s : State) (k' : Bank) : (boundaryEvent reaches s).bank k' = s.bank k' := by
  simp [State.bank]
@[simp] theorem now_boundaryEvent (reaches : Call → Bool) (s : State) : (boundaryEvent reaches s).now = s.now := by
  simp [State.now]
@[simp] theorem up_boundaryEvent (reaches : Call → Bool) (s : State) : (boundaryEvent reaches s).up = s.up := by
  simp [State.up]

/-! ### Past `evaluateBand` -/

@[simp] theorem group_evaluateBand (s : State) (g' : Nat) : (evaluateBand s).group g' = s.group g' := by
  simp [State.group]
@[simp] theorem carrier_evaluateBand (s : State) (c' : Nat) : (evaluateBand s).carrier c' = s.carrier c' := by
  simp [State.carrier]
@[simp] theorem settlement_evaluateBand (s : State) (c' : Nat) : (evaluateBand s).settlement c' = s.settlement c' := by
  simp [State.settlement]
@[simp] theorem openHandovers_evaluateBand (s : State) (c' : Nat) : (evaluateBand s).openHandovers c' = s.openHandovers c' := by
  simp [State.openHandovers, State.settlement]
@[simp] theorem bank_evaluateBand (s : State) (k' : Bank) : (evaluateBand s).bank k' = s.bank k' := by
  simp [State.bank]
@[simp] theorem up_evaluateBand (s : State) : (evaluateBand s).up = s.up := by
  simp [State.up]

/-! ### Past `compareTariffs` -/

@[simp] theorem group_compareTariffs (s : State) (g' : Nat) : (compareTariffs s).group g' = s.group g' := by
  simp [State.group]
@[simp] theorem settlement_compareTariffs (s : State) (c' : Nat) : (compareTariffs s).settlement c' = s.settlement c' := by
  simp [State.settlement]
@[simp] theorem openHandovers_compareTariffs (s : State) (c' : Nat) : (compareTariffs s).openHandovers c' = s.openHandovers c' := by
  simp [State.openHandovers, State.settlement]
@[simp] theorem context_compareTariffs (s : State) (i' : Nat) : (compareTariffs s).context i' = s.context i' := by
  simp [State.context]
@[simp] theorem bank_compareTariffs (s : State) (k' : Bank) : (compareTariffs s).bank k' = s.bank k' := by
  simp [State.bank]
@[simp] theorem now_compareTariffs (s : State) : (compareTariffs s).now = s.now := by
  simp [State.now]
@[simp] theorem up_compareTariffs (s : State) : (compareTariffs s).up = s.up := by
  simp [State.up]

end Sys2Proof.Machine
end

