-- ==== Sys2Proof/Laws/Table.lean ====
section
/-! SUPPORT. Sparse tables and the record of stored bytes: what a read gives after a write, and that every operation keeps
the canonical form. -/

namespace Sys2Proof.Machine

variable {α : Type}

/-! ### Reads after writes -/

@[simp] theorem Table.find_nil (k : Nat) : Table.find ([] : Table α) k = none := rfl

theorem Table.find_remove (t : Table α) (k j : Nat) : Table.find (Table.remove t k) j = if j = k then none else Table.find t j := by
  induction t with
  | nil => simp [Table.remove]
  | cons e t ih =>
    obtain ⟨i, v⟩ := e
    by_cases h1 : i = k
    · rw [Table.remove, if_pos h1, ih]
      by_cases h2 : j = k
      · rw [if_pos h2, if_pos h2]
      · rw [if_neg h2, if_neg h2, Table.find, if_neg (by omega)]
    · rw [Table.remove, if_neg h1, Table.find, Table.find, ih]
      by_cases h2 : j = k
      · rw [if_pos h2, if_pos h2, if_neg (by omega)]
      · rw [if_neg h2, if_neg h2]

theorem Table.find_insert_same (t : Table α) (k : Nat) (v : α) (h : Table.find t k = none) :
    Table.find (Table.insert t k v) k = some v := by
  induction t with
  | nil => simp [Table.insert, Table.find]
  | cons e t ih =>
    obtain ⟨i, w⟩ := e
    simp only [Table.find] at h
    split_ifs at h with h1
    simp only [Table.insert]
    split_ifs with h2
    · simp [Table.find]
    · simp [Table.find, h1, ih h]

theorem Table.find_insert_other (t : Table α) (k j : Nat) (v : α) (h : j ≠ k) :
    Table.find (Table.insert t k v) j = Table.find t j := by
  induction t with
  | nil => simp [Table.insert, Table.find, Ne.symm h]
  | cons e t ih =>
    obtain ⟨i, w⟩ := e
    simp only [Table.insert]
    split_ifs with h2
    · simp [Table.find, Ne.symm h]
    · simp [Table.find, ih]

/-- A table lists what was put last at an index, and at every other index what it listed. -/
theorem Table.find_put (t : Table α) (k j : Nat) (v : α) :
    Table.find (Table.put t k v) j = if j = k then some v else Table.find t j := by
  unfold Table.put
  split_ifs with h
  · subst h; exact Table.find_insert_same _ _ _ (by simp [Table.find_remove])
  · rw [Table.find_insert_other _ _ _ _ h, Table.find_remove, if_neg h]

/-- A table holds what was written last at an index, and at every other index what it held. -/
@[simp] theorem Table.read_write [DecidableEq α] (t : Table α) (d : α) (k j : Nat) (v : α) :
    Table.read (Table.write t d k v) d j = if j = k then v else Table.read t d j := by
  unfold Table.read Table.write
  split_ifs with h1 h2 h2
  · simp [Table.find_remove, h2, h1]
  · simp [Table.find_remove, h2]
  · simp [Table.find_put, h2]
  · simp [Table.find_put, h2]

theorem Table.find_mapValues (f : α → α) (t : Table α) (k : Nat) :
    Table.find (Table.mapValues f t) k = (Table.find t k).map f := by
  induction t with
  | nil => simp [Table.mapValues]
  | cons e t ih =>
    obtain ⟨i, w⟩ := e
    simp only [Table.mapValues, Table.find]
    split_ifs <;> simp [ih]

/-- A change of every listed value that leaves the default as it is changes every value held. -/
theorem Table.read_mapValues (f : α → α) (t : Table α) (d : α) (k : Nat) (h : f d = d) :
    Table.read (Table.mapValues f t) d k = f (Table.read t d k) := by
  unfold Table.read
  rw [Table.find_mapValues]
  cases Table.find t k <;> simp [h]

/-! ### The canonical form -/

/-- Every index listed in `t` is above `k`. -/
def Table.above (k : Nat) (t : Table α) : Prop := ∀ e ∈ t, k < e.1

theorem Table.rising_cons (k : Nat) (v : α) (t : Table α) :
    Table.rising ((k, v) :: t) = true ↔ Table.above k t ∧ Table.rising t = true := by
  induction t generalizing k v with
  | nil => simp [Table.rising, Table.above]
  | cons e t ih =>
    obtain ⟨j, w⟩ := e
    simp only [Table.rising, Bool.and_eq_true, decide_eq_true_eq, ih j w, Table.above, List.mem_cons, forall_eq_or_imp]
    constructor
    · rintro ⟨h, h1, h2⟩
      exact ⟨⟨h, fun e he => h.trans (h1 e he)⟩, h1, h2⟩
    · rintro ⟨⟨h, -⟩, h1, h2⟩
      exact ⟨h, h1, h2⟩

theorem Table.mem_remove {t : Table α} {k : Nat} {e : Nat × α} : e ∈ Table.remove t k ↔ e ∈ t ∧ e.1 ≠ k := by
  induction t with
  | nil => simp [Table.remove]
  | cons x t ih =>
    obtain ⟨i, w⟩ := x
    simp only [Table.remove]
    split_ifs with h
    · simp only [ih, List.mem_cons]
      constructor
      · rintro ⟨h1, h2⟩; exact ⟨Or.inr h1, h2⟩
      · rintro ⟨rfl | h1, h2⟩
        · exact absurd h h2
        · exact ⟨h1, h2⟩
    · simp only [List.mem_cons, ih]
      constructor
      · rintro (rfl | ⟨h1, h2⟩)
        · exact ⟨Or.inl rfl, h⟩
        · exact ⟨Or.inr h1, h2⟩
      · rintro ⟨rfl | h1, h2⟩
        · exact Or.inl rfl
        · exact Or.inr ⟨h1, h2⟩

theorem Table.mem_insert {t : Table α} {k : Nat} {v : α} {e : Nat × α} :
    e ∈ Table.insert t k v ↔ e = (k, v) ∨ e ∈ t := by
  induction t with
  | nil => simp [Table.insert]
  | cons x t ih =>
    obtain ⟨i, w⟩ := x
    simp only [Table.insert]
    split_ifs with h
    · simp
    · simp only [List.mem_cons, ih]; tauto

theorem Table.rising_remove {t : Table α} (k : Nat) (h : Table.rising t = true) : Table.rising (Table.remove t k) = true := by
  induction t with
  | nil => simp [Table.remove, Table.rising]
  | cons x t ih =>
    obtain ⟨i, w⟩ := x
    obtain ⟨h1, h2⟩ := (Table.rising_cons _ _ _).1 h
    simp only [Table.remove]
    split_ifs
    · exact ih h2
    · exact (Table.rising_cons _ _ _).2 ⟨fun e he => h1 e (Table.mem_remove.1 he).1, ih h2⟩

theorem Table.rising_insert {t : Table α} (k : Nat) (v : α) (h : Table.rising t = true) (hk : ∀ e ∈ t, e.1 ≠ k) :
    Table.rising (Table.insert t k v) = true := by
  induction t with
  | nil => simp [Table.insert, Table.rising]
  | cons x t ih =>
    obtain ⟨i, w⟩ := x
    obtain ⟨h1, h2⟩ := (Table.rising_cons _ _ _).1 h
    simp only [Table.insert]
    split_ifs with hki
    · refine (Table.rising_cons _ _ _).2 ⟨?_, h⟩
      intro e he
      rcases List.mem_cons.1 he with rfl | he
      · exact hki
      · exact hki.trans (h1 e he)
    · refine (Table.rising_cons _ _ _).2 ⟨?_, ih h2 (fun e he => hk e (List.mem_cons_of_mem _ he))⟩
      intro e he
      rcases Table.mem_insert.1 he with rfl | he
      · have := hk (i, w) (by simp); simp at this ⊢; omega
      · exact h1 e he

/-- Putting a value keeps the indices rising. -/
theorem Table.rising_put {t : Table α} (k : Nat) (v : α) (h : Table.rising t = true) : Table.rising (Table.put t k v) = true :=
  Table.rising_insert k v (Table.rising_remove k h) (fun _ he => (Table.mem_remove.1 he).2)

theorem Table.canonical_iff [DecidableEq α] {t : Table α} {d : α} :
    Table.canonical t d = true ↔ Table.rising t = true ∧ ∀ e ∈ t, e.2 ≠ d := by
  simp [Table.canonical]

/-- A write keeps the canonical form. -/
theorem Table.canonical_write [DecidableEq α] {t : Table α} {d : α} (k : Nat) (v : α) (h : Table.canonical t d = true) :
    Table.canonical (Table.write t d k v) d = true := by
  obtain ⟨h1, h2⟩ := Table.canonical_iff.1 h
  unfold Table.write
  split_ifs with hv
  · exact Table.canonical_iff.2 ⟨Table.rising_remove k h1, fun e he => h2 e (Table.mem_remove.1 he).1⟩
  · refine Table.canonical_iff.2 ⟨Table.rising_put k v h1, fun e he => ?_⟩
    rcases Table.mem_insert.1 he with rfl | he
    · exact hv
    · exact h2 e (Table.mem_remove.1 he).1

theorem Table.mem_mapValues {f : α → α} {t : Table α} {e : Nat × α} :
    e ∈ Table.mapValues f t ↔ ∃ x ∈ t, e = (x.1, f x.2) := by
  induction t with
  | nil => simp [Table.mapValues]
  | cons x t ih =>
    obtain ⟨i, w⟩ := x
    simp [Table.mapValues, ih]

theorem Table.rising_mapValues {f : α → α} {t : Table α} (h : Table.rising t = true) :
    Table.rising (Table.mapValues f t) = true := by
  induction t with
  | nil => simp [Table.mapValues, Table.rising]
  | cons x t ih =>
    obtain ⟨i, w⟩ := x
    obtain ⟨h1, h2⟩ := (Table.rising_cons _ _ _).1 h
    refine (Table.rising_cons _ _ _).2 ⟨?_, ih h2⟩
    intro e he
    obtain ⟨x, hx, rfl⟩ := Table.mem_mapValues.1 he
    exact h1 x hx

/-- A change of every listed value that makes none of them the default keeps the canonical form. -/
theorem Table.canonical_mapValues [DecidableEq α] {f : α → α} {t : Table α} {d : α} (h : Table.canonical t d = true)
    (hf : ∀ v, v ≠ d → f v ≠ d) : Table.canonical (Table.mapValues f t) d = true := by
  obtain ⟨h1, h2⟩ := Table.canonical_iff.1 h
  refine Table.canonical_iff.2 ⟨Table.rising_mapValues h1, fun e he => ?_⟩
  obtain ⟨x, hx, rfl⟩ := Table.mem_mapValues.1 he
  exact hf _ (h2 x hx)

/-- In a table whose indices rise, what it lists is what it reads. -/
theorem Table.find_of_mem {t : Table α} (h : Table.rising t = true) {k : Nat} {v : α} (hm : (k, v) ∈ t) :
    Table.find t k = some v := by
  induction t with
  | nil => simp at hm
  | cons x t ih =>
    obtain ⟨i, w⟩ := x
    obtain ⟨h1, h2⟩ := (Table.rising_cons _ _ _).1 h
    simp only [Table.find]
    rcases List.mem_cons.1 hm with hm | hm
    · simp_all
    · rw [if_neg (by have := h1 _ hm; simp at this; omega)]
      exact ih h2 hm

/-- What a table reads, it lists. -/
theorem Table.mem_of_find {t : Table α} {k : Nat} {v : α} (h : Table.find t k = some v) : (k, v) ∈ t := by
  induction t with
  | nil => simp at h
  | cons x t ih =>
    obtain ⟨i, w⟩ := x
    simp only [Table.find] at h
    split_ifs at h with hi
    · simp_all
    · exact List.mem_cons_of_mem _ (ih h)

/-! ### The record of stored bytes -/

/-- Storing bytes keeps the canonical form. -/
theorem Memory.store_wf (m : List Host.Cell) (a : Word) (bs : List Byte) (h : Memory.wf m = true) :
    Memory.wf (Memory.store m a bs) = true := by
  induction bs generalizing m a with
  | nil => exact h
  | cons b bs ih => exact ih _ _ (Table.rising_put _ _ h)

/-- Bytes outside those stored stay as they are. -/
theorem Memory.byte_store_outside (m : List Host.Cell) (a : Word) (bs : List Byte) (x : Nat)
    (h : ∀ i < bs.length, (a + BitVec.ofNat 32 i).toNat ≠ x) : Memory.byte (Memory.store m a bs) x = Memory.byte m x := by
  induction bs generalizing m a with
  | nil => rfl
  | cons b bs ih =>
    simp only [Memory.store]
    rw [ih]
    · have h0 := h 0 (by simp)
      simp at h0
      simp [Memory.byte, Table.find_put, Ne.symm h0]
    · intro i hi
      have := h (i + 1) (by simpa using hi)
      rwa [show a + 1#32 + BitVec.ofNat 32 i = a + BitVec.ofNat 32 (i + 1) by
        rw [BitVec.add_assoc, Nat.add_comm i 1, BitVec.ofNat_add]]

/-- Each byte stored is read back, when the bytes do not wrap onto one another. -/
theorem Memory.byte_store_inside (m : List Host.Cell) (a : Word) (bs : List Byte) (i : Nat) (hi : i < bs.length)
    (hn : bs.length ≤ 4294967296) : Memory.byte (Memory.store m a bs) (a + BitVec.ofNat 32 i).toNat = some bs[i] := by
  induction bs generalizing m a i with
  | nil => simp at hi
  | cons b bs ih =>
    simp only [Memory.store]
    cases i with
    | zero =>
      rw [Memory.byte_store_outside]
      · simp [Memory.byte, Table.find_put]
      · intro j hj
        simp only [List.length_cons] at hn
        have : (a + 1#32 + BitVec.ofNat 32 j).toNat = (a.toNat + 1 + j) % 4294967296 := by
          simp [BitVec.toNat_add, BitVec.toNat_ofNat]
        rw [this]
        have ha := a.isLt
        simp
        omega
    | succ i =>
      have := ih (Table.put m a.toNat b) (a + 1#32) i (by simpa using hi) (by simp at hn; omega)
      rw [show a + BitVec.ofNat 32 (i + 1) = a + 1#32 + BitVec.ofNat 32 i by
        rw [BitVec.add_assoc, Nat.add_comm i 1, BitVec.ofNat_add]]
      simpa using this

end Sys2Proof.Machine
end

