-- ==== Sys2Proof/Laws/Reads.lean ====
section
/-! SUPPORT. What the named reads of the machine's records give after the named writes, and how a request command is served. -/

namespace Sys2Proof.Machine

/-! ### Serving -/

theorem serve_of_served {k : Kind} {f : Nat → List Byte → State → State} {s : State} {slot : Nat} {req : List Byte}
    (h : served k s = some (slot, req)) : serve k f s = .next (f slot req s) := by
  simp [serve, h]

theorem serve_of_not_served {k : Kind} {f : Nat → List Byte → State → State} {s : State} (h : served k s = none) :
    serve k f s = .next s := by
  simp [serve, h]

theorem kindOf_of_served {k : Kind} {s : State} {slot : Nat} {req : List Byte} (h : served k s = some (slot, req)) :
    kindOf req = some k := by
  unfold served at h
  split at h
  · split at h
    · split at h
      · simp_all
      · simp at h
    · simp at h
  · simp at h

/-! ### The Memory Port -/

@[simp] theorem Port.setQueue_queue (p : Port) (r q : Requester) (ts : List Transfer) :
    (p.setQueue r ts).queue q = if q = r then ts else p.queue q := by
  cases r <;> cases q <;> rfl

@[simp] theorem Port.setQueue_serving (p : Port) (r : Requester) (ts : List Transfer) :
    (p.setQueue r ts).serving = p.serving := by
  cases r <;> rfl

@[simp] theorem Port.setQueue_last (p : Port) (r : Requester) (ts : List Transfer) : (p.setQueue r ts).last = p.last := by
  cases r <;> rfl

/-- A transfer that has begun keeps its burst size (R169). -/
theorem Transfer.begin_begun {t : Transfer} {c : Nat} (b : Nat) (h : t.burst = some c) : t.begin b = t := by
  simp [Transfer.begin, h]

/-- A transfer that begins takes the burst size in force and keeps all else, but that a strip read is cut to one burst (R169). -/
theorem Transfer.begin_waiting {t : Transfer} (b : Nat) (h : t.burst = none) :
    t.begin b =
      { t with burst := some b, left := if t.readsStrip then min t.left (b - t.addr.toNat % b) else t.left } := by
  unfold Transfer.begin
  rw [h]
  cases hs : t.readsStrip <;> simp_all [Transfer.burstLength, Transfer.readsStrip]

/-- A failed burst of a reading transfer stores nothing. -/
theorem storeFailed_read {t : Transfer} {beat : Nat} {s : State} (h : t.write = false) : storeFailed t beat s = s := by
  simp [storeFailed, h]

/-- A failed burst of a writing transfer stores the beats before the failing one, or that one too, as the opening write of the
mirror does and the closing write does not, and counts the failure (R162 to R164, R173). -/
theorem storeFailed_write {t : Transfer} {beat : Nat} {s : State} (h : t.write = true) :
    ∃ beats, (beats = beat ∨ beats = beat + 1) ∧ (t.purpose = .mirrorOpen → beats = beat + 1) ∧
      (t.purpose = .mirrorClose → beats = beat) ∧
      storeFailed t beat s =
        (s.setMem (Memory.store s.mem t.addr (t.data.take (bytesBefore t.addr.toNat t.burstLength beats)))).setFailures
          (s.failures + 1) := by
  refine ⟨if failingBeatReached t.purpose s then beat + 1 else beat, ?_, fun hp => ?_, fun hp => ?_,
    by simp [storeFailed, storeBytes, h]⟩
  · split <;> simp
  · simp [failingBeatReached, hp]
  · simp [failingBeatReached, hp]

/-! ### Groups -/

@[simp] theorem group_putGroup (g h : Nat) (r : Group) (s : State) :
    (putGroup g r s).group h = if h = g then r else s.group h := by
  simp [State.group, putGroup]

/-- A group is read from the Group Table alone. -/
theorem group_congr {s t : State} (h : t.groups = s.groups) (g : Nat) : t.group g = s.group g := by
  simp [State.group, h]

/-! ### Contexts -/

@[simp] theorem context_putContext (i j : Nat) (c : Context) (s : State) :
    (putContext i c s).context j = if j = i then c else s.context j := by
  simp [State.context, putContext]

@[simp] theorem context_freeContext (i j : Nat) (s : State) :
    (freeContext i s).context j =
      if j = i then { generation := (s.context i).generation, state := .free } else s.context j := by
  simp [freeContext]

/-- A context is read from the Context Table alone. -/
theorem context_congr {s t : State} (h : t.contexts.table = s.contexts.table) (i : Nat) : t.context i = s.context i := by
  simp [State.context, h]

/-! ### Carriers -/

@[simp] theorem carrier_putCarrier (c d : Nat) (r : Carrier) (s : State) :
    (putCarrier c r s).carrier d = if d = c then r else s.carrier d := by
  simp [State.carrier, putCarrier]

theorem carrier_congr {s t : State} (h : t.carriers = s.carriers) (c : Nat) : t.carrier c = s.carrier c := by
  simp [State.carrier, h]

@[simp] theorem settlement_putSettlement (c d : Nat) (r : Settlement) (s : State) :
    (putSettlement c r s).settlement d = if d = c then r else s.settlement d := by
  simp [State.settlement, putSettlement]

theorem settlement_congr {s t : State} (h : t.backup.settlements = s.backup.settlements) (c : Nat) :
    t.settlement c = s.settlement c := by
  simp [State.settlement, h]

@[simp] theorem openHandovers_changeOpen (c d : Nat) (f : Nat → Nat) (s : State) :
    (changeOpen c f s).openHandovers d = if d = c ∧ c ≠ 0 then f (s.openHandovers c) else s.openHandovers d := by
  unfold changeOpen
  split <;> simp_all [State.openHandovers]
  split <;> rfl

@[simp] theorem sums_changeOpen (c d : Nat) (f : Nat → Nat) (s : State) :
    ((changeOpen c f s).settlement d).sums = (s.settlement d).sums := by
  unfold changeOpen
  split
  · rfl
  · simp only [settlement_putSettlement]; split <;> simp_all

@[simp] theorem tariffs_setTariffs (r : Carrier) (d e : Direction) (t : Tariffs) :
    (r.setTariffs d t).tariffs e = if e = d then t else r.tariffs e := by
  cases d <;> cases e <;> simp [Carrier.setTariffs, Carrier.tariffs]

/-! ### Banks -/

@[simp] theorem bank_setBank (p : PlanStore) (k j : Bank) (d : BankData) :
    (p.setBank k d).bank j = if j = k then d else p.bank j := by
  cases k <;> cases j <;> simp [PlanStore.setBank, PlanStore.bank]

@[simp] theorem bank_putBank (k j : Bank) (d : BankData) (s : State) :
    (putBank k d s).bank j = if j = k then d else s.bank j := by
  simp [State.bank, putBank]

theorem bank_congr {s t : State} (h : t.plan = s.plan) (k : Bank) : t.bank k = s.bank k := by simp [State.bank, h]

@[simp] theorem setBank_setBank (p : PlanStore) (k : Bank) (d e : BankData) : (p.setBank k d).setBank k e = p.setBank k e := by
  cases k <;> rfl

@[simp] theorem setBank_bank (p : PlanStore) (k : Bank) : p.setBank k (p.bank k) = p := by cases k <;> rfl

/-! ### Seizures -/

/-- The return of a seizure changes the group's busy count and its owner's open-handover count, and nothing else of either. -/
theorem returnSeizure_spec (g : Nat) (s : State) :
    SeizureReturned s (returnSeizure g s) g ∧
    (∀ k, ((returnSeizure g s).settlement k).sums = (s.settlement k).sums) ∧
    (returnSeizure g s).backup = { s.backup with settlements := (returnSeizure g s).backup.settlements } := by
  refine ⟨⟨?_, ?_, ?_⟩, ?_, ?_⟩
  · simp [returnSeizure]
  · intro h hne; simp [returnSeizure, hne]
  · intro k
    by_cases hk : k = (s.group g).owner
    · by_cases h0 : (s.group g).owner = 0 <;> simp [returnSeizure, hk, h0]
    · simp [returnSeizure, hk]
  · intro k; simp [returnSeizure]
  · simp [returnSeizure, changeOpen]; split <;> simp [putSettlement]

end Sys2Proof.Machine
end

