-- ==== Sys2Proof/Laws/Evaluation.lean ====
section
/-! SUPPORT. The evaluation of groups at a period end (R43 to R48): what one evaluation, and the evaluation of a list of
different groups, does to each group, to the retained alternates, to EVENTS and to the marks of a mirror write. -/

namespace Sys2Proof.Machine

/-- A cause that finds its bit set changes nothing (R171). -/
theorem raiseBit_of_set {b : AttentionBit} {s : State} (h : s.regs.attention b = true) : raiseBit b s = s := if_pos h

/-- A cause leaves its bit set. -/
theorem raiseBit_sets (b : AttentionBit) (s : State) : (raiseBit b s).regs.attention b = true := by
  unfold raiseBit; split
  · assumption
  · cases b <;> rfl

/-- A status event raised again changes nothing. -/
theorem raiseBit_raiseBit (b : AttentionBit) (s : State) : raiseBit b (raiseBit b s) = raiseBit b s :=
  raiseBit_of_set (raiseBit_sets b s)

@[simp] theorem statusEvent_statusEvent (s : State) : statusEvent (statusEvent s) = statusEvent s := raiseBit_raiseBit _ _

/-- What a cause does to the registers depends on the registers alone. -/
theorem raiseBit_regs_congr {b : AttentionBit} {s t : State} (h : s.regs = t.regs) : (raiseBit b s).regs = (raiseBit b t).regs := by
  unfold raiseBit; rw [h]; split
  · exact h
  · simp

theorem statusEvent_regs_congr {s t : State} (h : s.regs = t.regs) : (statusEvent s).regs = (statusEvent t).regs :=
  raiseBit_regs_congr h

/-- A group's evaluation changes its state. -/
def Group.turns (r : Group) : Bool := decide ((evaluateGroup r).congestion ≠ r.congestion)

/-- A group's evaluation brings it to CONGESTED or BLOCKED from another state (R48). -/
def Group.fills (r : Group) : Bool :=
  decide ((evaluateGroup r).congestion ≠ r.congestion ∧
    ((evaluateGroup r).congestion = .congested ∨ (evaluateGroup r).congestion = .blocked))

theorem clearRetained_of_none (d : BankData) : d.clearRetained (fun r => r.any (fun _ => false)) = d := by
  simp [BankData.clearRetained]

theorem clearRetained_clearRetained (d : BankData) (p q : Nat → Bool) :
    (d.clearRetained (fun r => r.any p)).clearRetained (fun r => r.any q) =
      d.clearRetained (fun r => r.any (fun g => p g || q g)) := by
  simp only [BankData.clearRetained, List.map_map]
  congr 1
  apply List.map_congr_left
  intro e _
  cases hr : e.retained with
  | none => simp [hr]
  | some g => by_cases hp : p g <;> by_cases hq : q g <;> simp [hr, hp, hq]

/-- The effects of a change of state beside the group's own record (R48). -/
theorem congestionChanged_spec (g : Nat) (next : Congestion) (s : State) :
    (∀ k, (congestionChanged g next s).bank k =
      if next = .congested ∨ next = .blocked then (s.bank k).clearRetained (fun r => decide (r = some g)) else s.bank k) ∧
    (congestionChanged g next s).plan.active = s.plan.active ∧ (congestionChanged g next s).plan.queue = s.plan.queue ∧
    (congestionChanged g next s).plan.headBegun = s.plan.headBegun ∧
    (congestionChanged g next s).regs = (statusEvent s).regs ∧
    (congestionChanged g next s).mirror.generation = s.mirror.generation ∧
    (congestionChanged g next s).mirror.marks = s.mirror.marks.map (fun gs => gs.filter (fun i => decide (i ≠ g))) := by
  simp only [congestionChanged]
  by_cases hc : next = .congested ∨ next = .blocked
  · simp only [if_pos hc]
    cases hm : s.mirror.marks <;> simp [clearRetainedGroup, hm, State.bank] <;> intro k <;> cases k <;> rfl
  · simp only [if_neg hc]
    cases hm : s.mirror.marks <;> simp [hm]

/-- The evaluation of one group. -/
theorem evaluateOne_spec (g : Nat) (s : State) :
    (∀ h, (evaluateOne g s).group h = if h = g then evaluateGroup (s.group g) else s.group h) ∧
    (∀ k, (evaluateOne g s).bank k = (s.bank k).clearRetained (fun r => r.any (fun h => decide (h = g) && (s.group g).fills))) ∧
    (evaluateOne g s).plan.active = s.plan.active ∧ (evaluateOne g s).plan.queue = s.plan.queue ∧
    (evaluateOne g s).plan.headBegun = s.plan.headBegun ∧
    (evaluateOne g s).regs = (if (s.group g).turns then (statusEvent s).regs else s.regs) ∧
    (evaluateOne g s).mirror.generation = s.mirror.generation ∧
    ((evaluateOne g s).mirror.marks =
      s.mirror.marks.map (fun gs => gs.filter (fun i => !(decide (i = g) && (s.group g).turns)))) := by
  have hp : ∀ (b : Bool) (d : BankData), d.clearRetained (fun r => r.any (fun h => decide (h = g) && b)) =
      if b then d.clearRetained (fun r => decide (r = some g)) else d := by
    intro b d
    cases b
    · simp [BankData.clearRetained]
    · simp only [BankData.clearRetained, if_true]
      congr 1; apply List.map_congr_left; intro e _
      cases e.retained <;> simp
  by_cases ht : (evaluateGroup (s.group g)).congestion = (s.group g).congestion
  · have hf : (s.group g).fills = false := by simp [Group.fills, ht]
    have htn : (s.group g).turns = false := by simp [Group.turns, ht]
    have e : evaluateOne g s = putGroup g (evaluateGroup (s.group g)) s := by simp only [evaluateOne, if_pos ht]
    rw [e, hf, htn]
    refine ⟨fun h => group_putGroup _ _ _ _, fun k => ?_, rfl, rfl, rfl, rfl, rfl, ?_⟩
    · rw [hp]; rfl
    · simp
  · have htn : (s.group g).turns = true := by simp [Group.turns, ht]
    have e : evaluateOne g s = congestionChanged g (evaluateGroup (s.group g)).congestion (putGroup g (evaluateGroup (s.group g)) s) := by
      simp only [evaluateOne, if_neg ht]
    have hfill : (s.group g).fills = decide ((evaluateGroup (s.group g)).congestion = .congested ∨
        (evaluateGroup (s.group g)).congestion = .blocked) := by simp [Group.fills, ht]
    have hk := congestionChanged_spec g (evaluateGroup (s.group g)).congestion (putGroup g (evaluateGroup (s.group g)) s)
    have hg := congestionChanged_keeps g (evaluateGroup (s.group g)).congestion (putGroup g (evaluateGroup (s.group g)) s)
    rw [e, htn]
    refine ⟨fun h => ?_, fun k => ?_, hk.2.1, hk.2.2.1, hk.2.2.2.1, ?_, hk.2.2.2.2.2.1, ?_⟩
    · rw [group_congr hg.1, group_putGroup]
    · rw [hk.1, hp, hfill, bank_putGroup]
      by_cases hc : (evaluateGroup (s.group g)).congestion = .congested ∨ (evaluateGroup (s.group g)).congestion = .blocked <;> simp [hc]
    · rw [hk.2.2.2.2.1]; simp only [if_true]; exact statusEvent_regs_congr rfl
    · rw [hk.2.2.2.2.2.2]; simp

/-- The evaluation of a list of different groups. -/
theorem evaluateList_spec (l : List Nat) (p : Nat → Bool) (s : State) (hl : l.Nodup) (hp : ∀ h, p h = true ↔ h ∈ l) :
    (∀ h, (l.foldl (fun t g => evaluateOne g t) s).group h = if p h then evaluateGroup (s.group h) else s.group h) ∧
    (∀ k, (l.foldl (fun t g => evaluateOne g t) s).bank k =
      (s.bank k).clearRetained (fun r => r.any (fun h => p h && (s.group h).fills))) ∧
    (l.foldl (fun t g => evaluateOne g t) s).plan.active = s.plan.active ∧
    (l.foldl (fun t g => evaluateOne g t) s).plan.queue = s.plan.queue ∧
    (l.foldl (fun t g => evaluateOne g t) s).plan.headBegun = s.plan.headBegun ∧
    (l.foldl (fun t g => evaluateOne g t) s).regs =
      (if l.any (fun g => (s.group g).turns) then (statusEvent s).regs else s.regs) ∧
    (l.foldl (fun t g => evaluateOne g t) s).mirror.generation = s.mirror.generation ∧
    (l.foldl (fun t g => evaluateOne g t) s).mirror.marks =
      s.mirror.marks.map (fun gs => gs.filter (fun i => !(p i && (s.group i).turns))) := by
  induction l generalizing s p with
  | nil =>
    have hp0 : ∀ h, p h = false := fun h => by simpa using (not_congr (hp h)).mpr (by simp)
    refine ⟨fun h => by simp [hp0], fun k => by simp [BankData.clearRetained, hp0], rfl, rfl, rfl, by simp, rfl, ?_⟩
    cases h : s.mirror.marks <;> simp [h, hp0]
  | cons g l ih =>
    rw [List.nodup_cons] at hl
    have h1 := evaluateOne_spec g s
    have hq : ∀ h, (p h && decide (h ≠ g)) = true ↔ h ∈ l := fun h => by
      simp only [Bool.and_eq_true, decide_eq_true_eq, hp, List.mem_cons]
      constructor
      · rintro ⟨rfl | h, hne⟩
        · exact absurd rfl hne
        · exact h
      · intro h; exact ⟨.inr h, fun he => hl.1 (he ▸ h)⟩
    have hpg : p g = true := (hp g).mpr (by simp)
    have h2 := ih (fun h => p h && decide (h ≠ g)) (evaluateOne g s) hl.2 hq
    have hne : ∀ h ∈ l, h ≠ g := fun h hh he => hl.1 (he ▸ hh)
    have hgr : ∀ h ∈ l, (evaluateOne g s).group h = s.group h := fun h hh => by rw [h1.1, if_neg (hne h hh)]
    simp only [List.foldl_cons]
    refine ⟨fun h => ?_, fun k => ?_, h2.2.2.1.trans h1.2.2.1, h2.2.2.2.1.trans h1.2.2.2.1,
      h2.2.2.2.2.1.trans h1.2.2.2.2.1, ?_, h2.2.2.2.2.2.2.1.trans h1.2.2.2.2.2.2.1, ?_⟩
    · rw [h2.1]
      by_cases hg : h = g
      · subst hg; simp [hpg, h1.1]
      · by_cases hh : p h <;> simp [hg, hh, h1.1]
    · rw [h2.2.1, h1.2.1, clearRetained_clearRetained]
      congr 1; funext r; cases r with
      | none => rfl
      | some h =>
        simp only [Option.any_some]
        by_cases hg : h = g
        · subst hg; simp [hpg]
        · by_cases hh : p h <;> simp [hg, hh, h1.1]
    · rw [h2.2.2.2.2.2.1]
      have ha : l.any (fun h => ((evaluateOne g s).group h).turns) = l.any (fun h => (s.group h).turns) := by
        rw [Bool.eq_iff_iff]; simp only [List.any_eq_true]
        constructor <;> rintro ⟨h, hh, ht⟩ <;> refine ⟨h, hh, ?_⟩ <;> rw [hgr h hh] at * <;> exact ht
      rw [ha, h1.2.2.2.2.2.1]
      have hse : (statusEvent (evaluateOne g s)).regs = (statusEvent s).regs := by
        by_cases ht : (s.group g).turns
        · rw [statusEvent_regs_congr (t := statusEvent s) (by rw [h1.2.2.2.2.2.1, if_pos ht]), statusEvent_statusEvent]
        · exact statusEvent_regs_congr (by rw [h1.2.2.2.2.2.1, if_neg ht])
      rw [hse]
      by_cases hb : l.any (fun h => (s.group h).turns) <;> by_cases ht : (s.group g).turns <;> simp [hb, ht]
    · rw [h2.2.2.2.2.2.2.2, h1.2.2.2.2.2.2.2]
      cases s.mirror.marks with
      | none => rfl
      | some gs =>
        simp only [Option.map_some, List.filter_filter]
        congr 1; apply List.filter_congr; intro i _
        by_cases hg : i = g
        · subst hg; simp [hpg]
        · by_cases hh : p i <;> simp [hg, hh, h1.1]

/-- What the period end's evaluation of every group does (R43 to R48). Cite this and leave `evaluateGroups` folded: the
kernel cannot unfold its list of 1,024 groups. -/
theorem evaluateGroups_spec (s : State) :
    (∀ g, (evaluateGroups s).group g = if g < 1024 then evaluateGroup (s.group g) else s.group g) ∧
    (∀ k, (evaluateGroups s).bank k =
      (s.bank k).clearRetained (fun r => r.any (fun g => decide (g < 1024) && (s.group g).fills))) ∧
    (evaluateGroups s).plan.active = s.plan.active ∧ (evaluateGroups s).plan.queue = s.plan.queue ∧
    (evaluateGroups s).plan.headBegun = s.plan.headBegun ∧
    ((∃ g < 1024, (s.group g).turns = true) → (evaluateGroups s).regs = (statusEvent s).regs) ∧
    ((∀ g < 1024, (s.group g).turns = false) → (evaluateGroups s).regs = s.regs) ∧
    (evaluateGroups s).mirror.generation = s.mirror.generation ∧
    (evaluateGroups s).mirror.marks =
      s.mirror.marks.map (fun gs => gs.filter (fun g => !(decide (g < 1024) && (s.group g).turns))) := by
  have h := evaluateList_spec (List.range 1024) (fun g => decide (g < 1024)) s List.nodup_range (by simp)
  simp only [evaluateGroups]
  refine ⟨fun g => by simpa only [decide_eq_true_eq] using h.1 g, h.2.1, h.2.2.1, h.2.2.2.1, h.2.2.2.2.1, ?_, ?_,
    h.2.2.2.2.2.2.1, h.2.2.2.2.2.2.2⟩
  · rintro ⟨g, hg, ht⟩
    rw [h.2.2.2.2.2.1, if_pos (List.any_eq_true.mpr ⟨g, List.mem_range.mpr hg, ht⟩)]
  · intro ha
    rw [h.2.2.2.2.2.1, if_neg]
    intro hh
    obtain ⟨g, hg, ht⟩ := List.any_eq_true.mp hh
    rw [ha g (List.mem_range.mp hg)] at ht
    exact absurd ht (by simp)

end Sys2Proof.Machine
end

