-- ==== Sys2Proof/Laws/Lookup.lean ====
section
/-! SUPPORT. Longest matching codes (R5, R51), and the entry that an answer is formed in (R161). -/

namespace Sys2Proof.Machine

/-- With no longest match, no code is one that the digits begin with. -/
theorem noMatch_of_longestMatch_none {α : Type} {code : α → List Nat} {ds : List Nat} : ∀ {xs : List α},
    longestMatch code ds xs = none → ∀ z ∈ xs, ¬ code z <+: ds := by
  intro xs
  induction xs with
  | nil => simp
  | cons y ys ih =>
    intro h z hz
    simp only [longestMatch] at h
    split at h
    · cases hb : longestMatch code ds ys <;> rw [hb] at h <;> simp at h
      split at h <;> simp at h
    · rename_i hp
      rw [List.isPrefixOf_iff_prefix] at hp
      simp at hz
      rcases hz with rfl | hz
      · exact hp
      · exact ih h z hz


theorem isLongestMatch_of_eq {α : Type} {code : α → List Nat} {ds : List Nat} {xs : List α} {x : α}
    (h : longestMatch code ds xs = some x) : IsLongestMatch code ds xs x := by
  induction xs generalizing x with
  | nil => simp [longestMatch] at h
  | cons y ys ih =>
    simp only [longestMatch] at h
    split at h
    · rename_i hp
      rw [List.isPrefixOf_iff_prefix] at hp
      cases hb : longestMatch code ds ys with
      | none =>
        rw [hb] at h; simp at h; subst h
        refine ⟨by simp, hp, ?_⟩
        intro z hz hzp
        simp at hz
        rcases hz with rfl | hz
        · exact le_rfl
        · exfalso
          exact noMatch_of_longestMatch_none hb z hz hzp
      | some b =>
        have ihb := ih hb
        rw [hb] at h; simp at h
        split at h
        · simp at h; subst h
          refine ⟨by simp, hp, ?_⟩
          intro z hz hzp
          simp at hz
          rcases hz with rfl | hz
          · exact le_rfl
          · have := ihb.2.2 z hz hzp; omega
        · simp at h; subst h
          refine ⟨by simp [ihb.1], ihb.2.1, ?_⟩
          intro z hz hzp
          simp at hz
          rcases hz with rfl | hz
          · omega
          · exact ihb.2.2 z hz hzp
    · rename_i hp
      rw [List.isPrefixOf_iff_prefix] at hp
      have := ih h
      refine ⟨by simp [this.1], this.2.1, ?_⟩
      intro z hz hzp
      simp at hz
      rcases hz with rfl | hz
      · exact absurd hzp hp
      · exact this.2.2 z hz hzp
theorem longestMatch_eq_none {α : Type} {code : α → List Nat} {ds : List Nat} {xs : List α} :
    longestMatch code ds xs = none ↔ NoMatch code ds xs := by
  constructor
  · intro h; exact noMatch_of_longestMatch_none h
  · intro h
    cases hb : longestMatch code ds xs with
    | none => rfl
    | some x => exact absurd (isLongestMatch_of_eq hb).2.1 (h x (isLongestMatch_of_eq hb).1)

theorem isLongestMatch_unique {α : Type} {code : α → List Nat} {ds : List Nat} {xs : List α} {x y : α} (hn : (xs.map code).Nodup)
    (hx : IsLongestMatch code ds xs x) (hy : IsLongestMatch code ds xs y) : x = y := by
  have h1 := hx.2.2 y hy.1 hy.2.1
  have h2 := hy.2.2 x hx.1 hx.2.1
  have : code x = code y := List.IsPrefix.eq_of_length (List.prefix_of_prefix_length_le hx.2.1 hy.2.1 h2) (by omega)
  exact List.inj_on_of_nodup_map hn hx.1 hy.1 this

theorem longestMatch_of_is {α : Type} {code : α → List Nat} {ds : List Nat} {xs : List α} {x : α} (hn : (xs.map code).Nodup)
    (hx : IsLongestMatch code ds xs x) : longestMatch code ds xs = some x := by
  cases hb : longestMatch code ds xs with
  | none => exact absurd hx.2.1 ((longestMatch_eq_none.mp hb) x hx.1)
  | some y => rw [isLongestMatch_unique hn hx (isLongestMatch_of_eq hb)]

theorem entryOf_mem {k : Intake} {slot : Nat} {e : Entry} (h : k.entryOf slot = some e) : e ∈ k.inHand ∧ e.slot = slot := by
  unfold Intake.entryOf at h
  exact ⟨List.mem_of_find?_eq_some h, by simpa using List.find?_some h⟩

theorem answerOf_setPhase {k : Intake} {slot : Nat} {req a : List Byte} {f : List Nat} (h : ∃ e ∈ k.inHand, e.slot = slot) :
    Intake.answerOf { k.setPhase slot (.answerFormed req a) with formed := f } slot = some a := by
  unfold Intake.answerOf
  obtain ⟨e, he, hs⟩ := h
  have : ∃ e', Intake.entryOf { k.setPhase slot (.answerFormed req a) with formed := f } slot = some e' := by
    simp only [Intake.entryOf, Intake.setPhase, ← Option.isSome_iff_exists, List.find?_isSome]
    exact ⟨_, List.mem_map_of_mem he, by simp [hs]⟩
  obtain ⟨e', h'⟩ := this
  have hm := entryOf_mem h'
  simp only [Intake.setPhase, List.mem_map] at hm
  obtain ⟨⟨x, hx, rfl⟩, hs'⟩ := hm
  have : x.slot = slot := by split at hs' <;> simp_all
  simp [h', this]

end Sys2Proof.Machine
end

