-- ==== Sys2Proof/Laws/Seizures.lean ====
section
/-! SUPPORT. Seizure requests: what an examination counts, what it leaves, and what a whole request can do. -/

namespace Sys2Proof.Machine

theorem Group.SameButCounts.rfl {r : Group} : r.SameButCounts r := Eq.refl _
theorem Group.SameButCounts.trans {r q p : Group} (h : r.SameButCounts q) (g : q.SameButCounts p) : r.SameButCounts p :=
  Eq.trans h g
theorem Carrier.SameButRefusals.rfl {r : Carrier} : r.SameButRefusals r := Eq.refl _
theorem Carrier.SameButRefusals.trans {r q p : Carrier} (h : r.SameButRefusals q) (g : q.SameButRefusals p) :
    r.SameButRefusals p := Eq.trans h g

/-- An examination counts at the group examined only. -/
theorem countVerdict_other {g h : Nat} (v : Verdict) (s : State) (hne : h ≠ g) : (countVerdict g v s).group h = s.group h := by
  cases v <;> simp [countVerdict, countExamination, countCeilingRefusal] <;> split <;> simp [hne]

/-- An examination counts: it changes nothing of the group but A and F. -/
theorem countVerdict_same (g h : Nat) (v : Verdict) (s : State) :
    ((countVerdict g v s).group h).SameButCounts (s.group h) ∧ ((countVerdict g v s).group h).busy = (s.group h).busy := by
  by_cases hne : h = g
  · subst hne
    cases v <;> simp [countVerdict, countExamination, countCeilingRefusal, Group.SameButCounts] <;> split <;> simp
  · rw [countVerdict_other v s hne]; exact ⟨.rfl, rfl⟩

/-- An examination changes nothing of a carrier but its ceiling-refusal count. -/
theorem countVerdict_carrier (g k : Nat) (v : Verdict) (s : State) :
    ((countVerdict g v s).carrier k).SameButRefusals (s.carrier k) := by
  cases v <;> simp [countVerdict, countExamination, countCeilingRefusal, Carrier.SameButRefusals] <;> (repeat' split) <;> simp_all

/-- An examination reads neither A, F nor ceiling-refusal counts. -/
theorem examine_congr {s t : State} {history : List Nat} {c : Candidate}
    (hg : (t.group c.group).SameButCounts (s.group c.group)) (hb : (t.group c.group).busy = (s.group c.group).busy)
    (hc : ∀ k, (t.carrier k).SameButRefusals (s.carrier k)) (ho : ∀ k, t.openHandovers k = s.openHandovers k) :
    examine t history c = examine s history c := by
  simp only [Group.SameButCounts, Group.mk.injEq, true_and] at hg
  obtain ⟨h1, h2, h3, h4, h5, h6, h7, h8, h9, -⟩ := hg
  have hf : (t.group c.group).free = (s.group c.group).free := by simp [Group.free, h2, h3, hb]
  have hs : stateAdmits (t.group c.group) c.kind = stateAdmits (s.group c.group) c.kind := by
    simp [stateAdmits, h9, hf, h5]
  have hl : ∀ k, (t.carrier k).ceiling = (s.carrier k).ceiling := by
    intro k; have := hc k; simp only [Carrier.SameButRefusals, Carrier.mk.injEq] at this; exact this.1
  simp [examine, h1, h9, hf, hs, h4, ceilingAdmits, hl, ho]

/-- The grant of a seizure raises the group's busy count and its owner's open-handover count. -/
theorem grantSeizure_group (g h : Nat) (s : State) :
    (grantSeizure g s).group h = if h = g then { s.group g with busy := (s.group g).busy + 1 } else s.group h := by
  simp [grantSeizure]

theorem grantSeizure_open (g k : Nat) (s : State) :
    (grantSeizure g s).openHandovers k = s.openHandovers k + (if k = (s.group g).owner ∧ k ≠ 0 then 1 else 0) := by
  by_cases hk : k = (s.group g).owner
  · by_cases h0 : (s.group g).owner = 0 <;> simp [grantSeizure, hk, h0]
  · simp [grantSeizure, hk]

theorem grantSeizure_sums (g k : Nat) (s : State) : ((grantSeizure g s).settlement k).sums = (s.settlement k).sums := by
  simp [grantSeizure]

/-- What a whole seizure request leaves as it is. -/
theorem seize_leaves_records (history : List Nat) (cs : List Candidate) (s : State) :
    (∀ g, ((seize history cs s).2.group g).SameButCounts (s.group g)) ∧
    (∀ k, ((seize history cs s).2.carrier k).SameButRefusals (s.carrier k)) ∧
    (∀ k, ((seize history cs s).2.settlement k).sums = (s.settlement k).sums) ∧
    (seize history cs s).2.backup = { s.backup with settlements := (seize history cs s).2.backup.settlements } := by
  induction cs generalizing s with
  | nil => exact ⟨fun _ => .rfl, fun _ => .rfl, fun _ => rfl, rfl⟩
  | cons c cs ih =>
    simp only [seize]
    split
    · refine ⟨fun g => ?_, fun k => ?_, fun k => ?_, ?_⟩
      · refine Group.SameButCounts.trans ?_ (countVerdict_same c.group g (examine s history c) s).1
        simp only [grantSeizure_group]; split
        · rename_i h; subst h; simp [Group.SameButCounts]
        · exact .rfl
      · simp; exact countVerdict_carrier _ _ _ _
      · simp [grantSeizure_sums]
      · simp [grantSeizure, changeOpen]; split <;> simp [putSettlement]
    · have := ih (countVerdict c.group (examine s history c) s)
      refine ⟨fun g => (this.1 g).trans (countVerdict_same _ _ _ _).1, fun k => (this.2.1 k).trans (countVerdict_carrier _ _ _ _),
        fun k => by rw [this.2.2.1 k]; simp, by rw [this.2.2.2]; simp⟩

/-- A seizure request none of whose candidates is admissible grants nothing and changes no busy and no open-handover count. -/
theorem seize_refused {history : List Nat} {cs : List Candidate} {s : State}
    (h : ∀ x ∈ cs, examine s history x ≠ .admissible) :
    (seize history cs s).1 = none ∧ (∀ g, ((seize history cs s).2.group g).busy = (s.group g).busy) ∧
    (∀ k, (seize history cs s).2.openHandovers k = s.openHandovers k) := by
  induction cs generalizing s with
  | nil => exact ⟨rfl, fun _ => rfl, fun _ => rfl⟩
  | cons c cs ih =>
    have hc := h c (by simp)
    simp only [seize, if_neg hc]
    have := ih (s := countVerdict c.group (examine s history c) s) (by
      intro x hx
      rw [examine_congr (countVerdict_same _ _ _ _).1 (countVerdict_same _ _ _ _).2 (countVerdict_carrier _ · _ _) (by simp)]
      exact h x (by simp [hx]))
    refine ⟨this.1, fun g => by rw [this.2.1 g, (countVerdict_same _ _ _ _).2], fun k => by rw [this.2.2 k]; simp⟩

/-- A seizure request grants its first admissible candidate. -/
theorem seize_granted {history : List Nat} {pre post : List Candidate} {c : Candidate} {s : State}
    (h : ∀ x ∈ pre, examine s history x ≠ .admissible) (hc : examine s history c = .admissible) :
    (seize history (pre ++ c :: post) s).1 = some c ∧
    (∀ g, ((seize history (pre ++ c :: post) s).2.group g).busy = (s.group g).busy + (if g = c.group then 1 else 0)) ∧
    (∀ k, (seize history (pre ++ c :: post) s).2.openHandovers k =
      s.openHandovers k + (if k = (s.group c.group).owner ∧ k ≠ 0 then 1 else 0)) := by
  induction pre generalizing s with
  | nil =>
    simp only [List.nil_append, seize, if_pos hc]
    refine ⟨trivial, fun g => ?_, fun k => ?_⟩
    · rw [grantSeizure_group]
      by_cases hg : g = c.group
      · simp [hg, (countVerdict_same c.group c.group _ s).2]
      · simp [hg, (countVerdict_same c.group g _ s).2]
    · rw [grantSeizure_open]
      have := (countVerdict_same c.group c.group (examine s history c) s).1
      simp only [Group.SameButCounts, Group.mk.injEq] at this
      rw [this.2.2.2.2.1]; simp
  | cons x pre ih =>
    have hx := h x (by simp)
    simp only [List.cons_append, seize, if_neg hx]
    have e : ∀ y, examine (countVerdict x.group (examine s history x) s) history y = examine s history y := fun y =>
      examine_congr (countVerdict_same _ _ _ _).1 (countVerdict_same _ _ _ _).2 (countVerdict_carrier _ · _ _) (by simp)
    have := ih (s := countVerdict x.group (examine s history x) s) (fun y hy => by rw [e]; exact h y (by simp [hy]))
      (by rw [e]; exact hc)
    refine ⟨this.1, fun g => by rw [this.2.1 g, (countVerdict_same _ _ _ _).2], fun k => ?_⟩
    rw [this.2.2 k]
    have hs := (countVerdict_same x.group c.group (examine s history x) s).1
    simp only [Group.SameButCounts, Group.mk.injEq] at hs
    rw [hs.2.2.2.2.1]; simp

/-- What an examination counts at its group depends on that group, the tick and the Supervision Unit alone. -/
theorem countVerdict_local {g : Nat} (v : Verdict) {s t : State} (h : t.group g = s.group g) (hn : t.now = s.now)
    (hs : t.supervision = s.supervision) : (countVerdict g v t).group g = (countVerdict g v s).group g := by
  cases v <;> simp only [countVerdict, countExamination, countCeilingRefusal, h, hn, hs, group_putCarrier] <;> split <;> simp

/-- A group that is no candidate is left as it is. -/
theorem seize_untouched {history : List Nat} {cs : List Candidate} {s : State} {g : Nat} (h : g ∉ cs.map Candidate.group) :
    (seize history cs s).2.group g = s.group g := by
  induction cs generalizing s with
  | nil => rfl
  | cons c cs ih =>
    simp at h
    simp only [seize]
    split
    · rw [grantSeizure_group, if_neg (by omega), countVerdict_other _ _ (by omega)]
    · rw [ih (by simp; exact h.2), countVerdict_other _ _ (by omega)]

end Sys2Proof.Machine
end

