-- ==== Sys2Proof/Tests/Slice0.lean ====
section
/-! SUPPORT. Tests of one step each, with expected results from the spec's worked sequences and tables, the smoke test of
`wellFormed`, and for each obligation with hypotheses a witness that meets them. -/

namespace Sys2Proof.Tests

open Sys2Proof.Machine

/-! ### Helpers -/

/-- A request half of kind `k` with tag 77 and the given fields. -/
def half (k : Kind) (fields : List Field) : List Byte := layOut 0 64 (⟨0, 1, k.code⟩ :: ⟨4, 4, 77⟩ :: fields)

/-- The machine `s` with one request, in slot 3, with its owner. -/
def holding (req : List Byte) (s : State) : State :=
  s.setIntake { s.intake with inHand := [⟨3, .withOwner req false⟩] }

/-- What the owner of `k` answers to a request of that kind with these fields. -/
def asked (k : Kind) (fields : List Field) (s : State) : Result := exec k.command (holding (half k fields) s)

/-- The next state, the reset state where there is none. -/
def nextOf : Result → State
  | .next t => t
  | _ => State.reset

/-- A field of the answer formed for slot 3, by its offset in the slot body. -/
def answerField (r : Result) (off size : Nat) : Option Nat :=
  ((nextOf r).intake.answerOf 3).map (fun a => readLE a (off - 64) size)

/-- The answer code and the given fields of the answer formed for slot 3. -/
def answerFields (r : Result) (fields : List (Nat × Nat)) : Option (List Nat) :=
  ((nextOf r).intake.answerOf 3).map (fun a => (64, 1) :: fields |>.map (fun f => readLE a (f.1 - 64) f.2))

/-- A digit string as one-byte fields from offset 16 on, with its count at offset 8. -/
def digits (ds : List Nat) : List Field :=
  ⟨8, 1, ds.length⟩ :: (ds.zipIdx 16).map (fun p => ⟨p.2, 1, p.1⟩)

/-- The machine at a tick. -/
def atTick (t : Nat) (s : State) : State := s.setClock { s.clock with tick := BitVec.ofNat 32 t }

/-- The machine in an engine state. -/
def inEngine (e : Engine) (s : State) : State :=
  s.setRegs { s.regs with engine := e, run := decide (e = .running) }

/-- A group in service, CLEAR, of 100 circuits. -/
def plainGroup : Group := { Group.unconfigured with inService := true, size := 100, congestion := .clear }

/-! ### Well-formedness -/

theorem test_wellFormed_refuses_carrier_zero : (Instr.tariffActivation 0 .inbound).wellFormed = false := by decide
theorem test_wellFormed_refuses_carrier_256 : (Instr.tariffActivation 256 .outbound).wellFormed = false := by decide
theorem test_wellFormed_refuses_empty_code : (Instr.gapEntryLapse []).wellFormed = false := by decide
theorem test_wellFormed_refuses_long_code : (Instr.gapEntryLapse (List.replicate 13 1)).wellFormed = false := by decide
theorem test_wellFormed_refuses_digit_ten : (Instr.gapEntryLapse [0, 10]).wellFormed = false := by decide
theorem test_wellFormed_refuses_expiry_index : (Instr.confirmationExpiry 16384).wellFormed = false := by decide
theorem test_wellFormed_refuses_mark_index : (Instr.longCallMark 16384).wellFormed = false := by decide
theorem test_wellFormed_refuses_long_reply :
    (Instr.memoryBurstDone (.done (List.replicate 129 0#8))).wellFormed = false := by
  simp [Instr.wellFormed, BurstReply.wellFormed]
theorem test_wellFormed_refuses_beat : (Instr.memoryBurstDone (.busError 16)).wellFormed = false := by decide
theorem test_wellFormed_accepts_limits :
    (Instr.tariffActivation 255 .inbound).wellFormed = true ∧ (Instr.gapEntryLapse (List.replicate 12 9)).wellFormed = true ∧
    (Instr.confirmationExpiry 16383).wellFormed = true ∧ (Instr.longCallMark 16383).wellFormed = true ∧
    (Instr.memoryBurstDone (.busError 15)).wellFormed = true := by decide

/-- An ill-formed command stops with its fault. -/
theorem test_illFormed_stops : exec (.gapEntryLapse []) State.reset = .fault .illFormed := by rfl

/-- No row of the table has bits. -/
theorem test_no_word_spells_a_command : decodeTableWord 32 0 = none := by rfl

/-! ### The worked sequence of 4.8: a call through a congested route

The context taken is 0 in place of 57. -/

/-- The bank of the sequence: destination index 2 is 0207, with list 12 and retained alternate 341. -/
def callBank : BankData :=
  { BankData.empty with
    dests := [⟨[0], 10, none, 0⟩, ⟨[0, 2, 0], 11, none, 0⟩, ⟨[0, 2, 0, 7], 12, some 341, 0⟩, ⟨[0, 2, 0, 7, 9], 13, none, 0⟩,
      ⟨[0, 2, 0, 9], 20, none, 2⟩]
    lists := [(10, [⟨1, .direct⟩]), (11, [⟨1, .direct⟩]),
      (12, [⟨100, .direct⟩, ⟨110, .overflow⟩, ⟨341, .pool⟩, ⟨352, .pool⟩, ⟨363, .pool⟩, ⟨400, .overflow⟩])] }

/-- A tariff set with one outbound rate in band 3. -/
def rated (rate : Nat) : List BandRecord :=
  (List.range 8).map (fun b => ⟨0, if b = 3 then rate else 0, 0, 60, 6, 0⟩)

/-- A carrier with an active outbound set. -/
def ratedCarrier (rate ceiling : Nat) : Carrier :=
  { Carrier.reset with ceiling := ceiling, outbound := { active := some (rated rate), pending := none } }

/-- The machine of the sequence at tick 5,000. -/
def congested : State :=
  { State.reset with
    plan := { PlanStore.reset with bankA := callBank }
    groups :=
      [(100, { plainGroup with size := 40, busy := 40, congestion := .congested }),
       (110, { plainGroup with size := 40, busy := 37, reservation := 4, congestion := .watch }),
       (341, { plainGroup with size := 40, busy := 38, reservation := 2, congestion := .watch, owner := 12 }),
       (352, { plainGroup with size := 40, busy := 30, reservation := 2, owner := 14 }),
       (363, { plainGroup with size := 40, busy := 20, reservation := 2, owner := 17 }),
       (400, { plainGroup with size := 50, reservation := 5 })]
    carriers := [(12, ratedCarrier 900 65535), (14, ratedCarrier 650 65535), (17, ratedCarrier 650 7)]
    supervision := { Supervision.reset with periodEnd := 5040#32 }
    clock := { ClockUnit.reset with tick := 5000#32, band := 3 }
    contexts := { ContextTable.reset with table := [(0, ⟨12, .free⟩)] }
    backup := { Backup.cold with
      settlements := [(14, ⟨Sums.zero, 30⟩), (17, ⟨Sums.zero, 7⟩)] } }

/-- The ROUTE of the sequence: digits 02075550100, origin carrier 3. -/
def routeHalf : List Byte := half .route (⟨9, 1, 3⟩ :: digits [0, 2, 0, 7, 5, 5, 5, 0, 1, 0, 0])

/-- The machine with that ROUTE admitted. -/
def walking : State :=
  (holding routeHalf congested).setRouteJob (some { slot := 3, request := routeHalf, stage := .admitted none })

/-- The call of the sequence as it stands on group 352. -/
def onPool : Call :=
  { bank := .a, dest := 2, origin := 3, group := 352, step := 4, kind := .pool, alternate := true, history := [352],
    grantTick := 5000#32 }

/-- The gap check admits the ROUTE with no entry (4.8, tick 5,000). -/
theorem test_route_admitted :
    (nextOf (exec .route (holding routeHalf congested))).routeJob =
      some { slot := 3, request := routeHalf, stage := .admitted none } := by decide

/-- The walk grants 352 at step 4: handle (1, 13, 0), POOL, alternate mark, attempt count 1 (4.8, tick 5,000). -/
theorem test_routeWalk_answer :
    answerFields (exec .routeWalk walking) [(72, 1), (73, 1), (74, 2), (76, 2), (78, 1), (79, 1), (80, 1), (81, 1)] =
      some [0, 1, 13, 0, 352, 4, 3, 1, 1] := by decide

/-- The counts the walk leaves: A and F of 100, 110, 341 and 352, and nothing at 363 (4.8). -/
theorem test_routeWalk_counts :
    [100, 110, 341, 352, 363].map (fun g =>
      (((nextOf (exec .routeWalk walking)).group g).attempts, ((nextOf (exec .routeWalk walking)).group g).refusals)) =
      [(1, 1), (1, 1), (1, 1), (1, 0), (0, 0)] := by decide

/-- The machine of tick 5,030, the call PROVISIONAL on 352. -/
def ringing : State :=
  atTick 5030 { congested with
    groups := Table.write congested.groups Group.unconfigured 352
      { plainGroup with size := 40, busy := 31, reservation := 2, owner := 14, attempts := 1 }
    plan := { PlanStore.reset with bankA := { callBank with provisional := 1 } }
    contexts := { ContextTable.reset with table := [(0, ⟨13, .provisional onPool 5100#32⟩)] }
    backup := { Backup.cold with settlements := [(14, ⟨Sums.zero, 31⟩), (17, ⟨Sums.zero, 7⟩)] } }

/-- The handle (1, 13, 0) of the call. -/
def handle13 : List Field := [⟨8, 1, 1⟩, ⟨9, 1, 13⟩, ⟨10, 2, 0⟩]

/-- CRANKBACK moves the call to group 400 at step 6, OVERFLOW, attempt count 2 (4.8, tick 5,030). -/
theorem test_crankback_answer :
    answerFields (asked .crankback handle13 ringing) [(73, 1), (76, 2), (78, 1), (79, 1), (80, 1), (81, 1)] =
      some [0, 13, 400, 6, 2, 1, 2] := by decide

/-- CRANKBACK counts the examinations of 363 and 400, the ceiling refusal of carrier 17, and returns 352 (4.8). -/
theorem test_crankback_counts :
    (fun t : State => ((t.group 363).attempts, (t.group 363).refusals, (t.group 400).busy, (t.carrier 17).refusals,
      (t.group 352).busy, t.openHandovers 14)) (nextOf (asked .crankback handle13 ringing)) = (1, 0, 1, 1, 30, 30) := by decide

/-- CONFIRM on 352, CLEAR and POOL: the group replaces the retained alternate (4.8, tick 5,140). -/
theorem test_confirm_retains :
    (fun t : State => ((t.context 0).state, t.plan.bankA.provisional, (t.plan.bankA.dests[2]?).map Dest.retained))
      (nextOf (asked .confirm handle13 ringing)) = (.confirmed onPool, 0, some (some 352)) := by decide

/-- The longest code whose list is absent gives NO_ROUTE with its length; 0207 is not tried (1.6). -/
theorem test_routeWalk_absent_list :
    answerField (exec .routeWalk { walking with
      routeJob := some { slot := 3, request := half .route (⟨9, 1, 3⟩ :: digits [0, 2, 0, 7, 9, 5, 5]),
                         stage := .admitted none } }) 72 1 = some 5 := by decide

/-! ### The worked sequences of 5.6 and 8.6: the segments of one call, and its price -/

/-- The answered call of chapter 5, before its release at tick 41,500. -/
def answeredCall : Answered :=
  { tick := 40080#32, inTerms := some ⟨0, 1000, 60, 60, 100⟩, outTerms := some ⟨500, 0, 30, 6, 150⟩
    segments := [⟨40080#32, 2, 800, 1200⟩, ⟨40280#32, 3, 500, 600⟩, ⟨41000#32, 3, 450, 600⟩]
    merged := false, long := false, timeUnset := false, freeRunning := false }

/-- The machine at tick 41,500 with that call in context 0, origin carrier 5, on group 352 of carrier 14. -/
def charging : State :=
  atTick 41500 { ringing with
    contexts := { ContextTable.reset with table := [(0, ⟨13, .answered { onPool with origin := 5 } answeredCall⟩)] } }

/-- RELEASE: totals 1,680 and 2,461, answered ticks 1,420, billed seconds 180 and 144, group 352, origin 5, owner 14, three
segments of bands 2, 3, 3, both presence marks and SURCHARGED (8.6). -/
theorem test_release_charge_record :
    answerFields (asked .release handle13 charging)
      [(72, 4), (76, 4), (80, 4), (84, 4), (88, 4), (92, 2), (94, 1), (95, 1), (96, 1), (97, 1), (98, 1), (99, 1), (100, 1),
       (104, 2)] = some [0, 1680, 2461, 1420, 180, 144, 352, 5, 14, 3, 2, 3, 3, 0, 131] := by decide

/-- The totals reach carrier 5's receivable and carrier 14's payable, and the seizure is returned (9.7, row 1). -/
theorem test_release_accumulates :
    (fun t : State => ((t.settlement 5).sums.receivable, (t.settlement 5).sums.inCount, (t.settlement 14).sums.payable,
      (t.settlement 14).sums.outCount, t.openHandovers 14, (t.context 0).state))
      (nextOf (asked .release handle13 charging)) = (1680, 1, 2461, 1, 30, .free) := by decide

/-- An unanswered call: totals and marks 0, flag UNANSWERED (8.6). -/
theorem test_release_unanswered :
    answerFields (asked .release handle13 ringing) [(72, 4), (76, 4), (92, 2), (94, 1), (95, 1), (96, 1), (104, 2)] =
      some [0, 0, 0, 352, 3, 14, 0, 4] := by decide

/-- A band crossing on an alternate: outbound 96 s billed, base 1,723, surcharge 258; inbound 120 s, base 466 (8.6). -/
theorem test_price_band_crossing :
    priceDirection ⟨500, 0, 30, 6, 150⟩ true 934 [0, 200] [1200, 650] = ⟨96, 1723, 258⟩ ∧
    priceDirection ⟨0, 300, 60, 60, 0⟩ true 934 [0, 200] [400, 200] = ⟨120, 466, 0⟩ := by decide

/-- A short call and the minimum; a direction at the limits (8.6). -/
theorem test_price_limits :
    priceDirection ⟨200, 1500, 60, 6, 200⟩ false 37 [0] [900] = ⟨60, 1500, 0⟩ ∧
    priceDirection ⟨200, 1500, 60, 6, 200⟩ true 0 [0] [900] = ⟨60, 1500, 300⟩ ∧
    priceDirection ⟨9999999, 0, 599, 600, 500⟩ true 864000 [0] [999999] = ⟨86999, 1459981882, 729990941⟩ := by decide

/-- The machine at tick 40,080 with the call CONFIRMED, band 2, and both active sets of 5.6. -/
def answering : State :=
  atTick 40080 { ringing with
    clock := { ClockUnit.reset with band := 2, reference := .locked }
    carriers :=
      [(5, { Carrier.reset with inbound := ⟨some ((List.range 8).map (fun b => ⟨0, if b = 2 then 800 else 500, 1000, 60, 60, 100⟩)),
          none⟩ }),
       (14, { Carrier.reset with outbound := ⟨some ((List.range 8).map (fun b => ⟨500, if b = 2 then 1200 else 650, 0, 30, 6, 150⟩)),
          none⟩ })]
    contexts := { ContextTable.reset with table := [(0, ⟨13, .confirmed { onPool with origin := 5 }⟩)] } }

/-- ANSWER: the answer tick, the terms of the band 2 records and segment 1 (5.6); the clock is UNSET here. -/
theorem test_answer_record :
    ((nextOf (asked .answer handle13 answering)).context 0).state =
      .answered { onPool with origin := 5 }
        { answeredCall with segments := [⟨40080#32, 2, 800, 1200⟩], timeUnset := true } := by decide

/-- ANSWER's answer: tick 40,080, band 2, both presence marks, TIME_UNSET (R85, Table 10-14). -/
theorem test_answer_answer :
    answerFields (asked .answer handle13 answering) [(72, 4), (76, 1), (77, 1), (78, 1)] = some [0, 40080, 2, 3, 1] := by decide

/-- The machine at tick 41,000 with carrier 5's inbound set of rate 450 handed over, the call ANSWERED with two segments. -/
def handing : State :=
  atTick 41000 { ringing with
    clock := { ClockUnit.reset with band := 3 }
    carriers :=
      [(5, { Carrier.reset with inbound :=
          ⟨none, some ⟨⟨0, 1, 1, 0, 0, 0⟩, (List.range 8).map (fun b => ⟨0, if b = 3 then 450 else 800, 1000, 60, 60, 100⟩), true⟩⟩ }),
       (14, ratedCarrier 600 65535)]
    contexts := { ContextTable.reset with
      table := [(0, ⟨13, .answered { onPool with origin := 5 }
        { answeredCall with segments := [⟨40080#32, 2, 800, 1200⟩, ⟨40280#32, 3, 500, 600⟩] }⟩)] } }

/-- The activation of carrier 5's inbound set appends segment 3 (5.6, tick 41,000). -/
theorem test_tariffActivation_segment :
    ((nextOf (exec (.tariffActivation 5 .inbound) handing)).context 0).state =
      .answered { onPool with origin := 5 } answeredCall := by decide

/-- The set is then active and none is pending, and EVENTS is set (R125). -/
theorem test_tariffActivation_sets :
    (fun t : State => ((t.carrier 5).inbound.active.isSome, (t.carrier 5).inbound.pending, t.regs.events))
      (nextOf (exec (.tariffActivation 5 .inbound) handing)) = (true, none, true) := by decide

/-- A seventh segment is not appended: MERGED is set (8.6, Merged Segments). -/
theorem test_boundary_merges :
    ((nextOf (exec (.tariffActivation 5 .inbound) { handing with
        contexts := { ContextTable.reset with table := [(0, ⟨13, .answered { onPool with origin := 5 }
          { answeredCall with segments := List.replicate 6 ⟨40080#32, 2, 800, 1200⟩ }⟩)] } })).context 0).state =
      .answered { onPool with origin := 5 }
        { answeredCall with segments := List.replicate 6 ⟨40080#32, 2, 800, 1200⟩, merged := true } := by decide

/-! ### The worked sequence of 5.7: expiry and the expired list -/

/-- A call on group 77. -/
def plainCall : Call :=
  { bank := .a, dest := 0, origin := 0, group := 77, step := 1, kind := .direct, alternate := false, history := [77],
    grantTick := 160#32 }

/-- The machine at tick 260, limit 2: contexts 11 and 12 EXPIRED, 13 due. -/
def expiring : State :=
  atTick 260 { State.reset with
    groups := [(77, { plainGroup with busy := 1 })]
    plan := { PlanStore.reset with bankA := { BankData.empty with dests := [⟨[0], 1, none, 0⟩], provisional := 1 } }
    contexts :=
      { table := [(11, ⟨2, .expired plainCall 220#32⟩), (12, ⟨9, .expired plainCall 250#32⟩),
          (13, ⟨1, .provisional plainCall 260#32⟩)]
        expired := [11, 12], window := 100, limit := 2 } }

/-- The expiry of 13: length 3 exceeds 2, head 11 freed (5.7, tick 260). -/
theorem test_confirmationExpiry_trims :
    (fun t : State => (t.contexts.expired, (t.context 11).state, (t.context 13).state, t.plan.bankA.provisional,
      (t.group 77).busy)) (nextOf (exec (.confirmationExpiry 13) expiring)) =
      ([12, 13], .free, .expired plainCall 260#32, 0, 0) := by decide

/-- Before its deadline a context does not expire (R89). -/
theorem test_confirmationExpiry_not_due :
    nextOf (exec (.confirmationExpiry 13) (atTick 259 expiring)) = atTick 259 expiring := by decide

/-- The handle of context 12. -/
def handle12 : List Field := [⟨8, 1, 1⟩, ⟨9, 1, 9⟩, ⟨10, 2, 12⟩]

/-- QUERY CALL: EXPIRED, timer 30 (5.7, tick 280). -/
theorem test_queryCall_expired :
    answerFields (asked .queryCall handle12 (atTick 280 expiring)) [(72, 1), (74, 2), (84, 4), (92, 1)] =
      some [0, 4, 77, 30, 1] := by decide

/-- A handle of another generation names no call (4.9, tick 9,051). -/
theorem test_confirm_unknown :
    answerField (asked .confirm [⟨8, 1, 1⟩, ⟨9, 1, 7⟩, ⟨10, 2, 12⟩] expiring) 64 1 = some 3 := by decide

/-- SET CALL TIMERS, window 100, limit 1: one context freed (5.7, tick 290). -/
theorem test_setCallTimers_frees :
    answerFields (asked .setCallTimers [⟨8, 2, 100⟩, ⟨10, 2, 1⟩] expiring) [(72, 2), (74, 2), (76, 2)] =
      some [0, 100, 1, 1] := by decide

/-- SET CALL TIMERS clamps: window 19 to 20, limit 16,385 to 16,384 (R92). -/
theorem test_setCallTimers_clamps :
    answerFields (asked .setCallTimers [⟨8, 2, 19⟩, ⟨10, 2, 16385⟩] expiring) [(72, 2), (74, 2), (76, 2)] =
      some [0, 20, 16384, 0] := by decide

/-- TOO_LATE: group last held 77, ticks since the expiry 30; the context is freed (R90, 5.7). -/
theorem test_release_too_late :
    answerFields (asked .release handle12 (atTick 280 expiring)) [(72, 2), (76, 4)] = some [5, 77, 30] ∧
    (nextOf (asked .release handle12 (atTick 280 expiring))).contexts.expired = [11] := by decide

/-- LONG is set 864,000 ticks after the answer (R96; 8.6, A Long Call). -/
theorem test_longCallMark_sets :
    ((nextOf (exec (.longCallMark 0) (atTick 904080 charging))).context 0).state =
      .answered { onPool with origin := 5 } { answeredCall with long := true } := by decide

/-- A tick earlier it is not (R96). -/
theorem test_longCallMark_not_due :
    nextOf (exec (.longCallMark 0) (atTick 904079 charging)) = atTick 904079 charging := by decide

/-! ### The worked sequence of chapter 3: an automatic gap becoming a software gap -/

/-- The gap entry 0207 at tick 1,008, after its first admission and renewal. -/
def gap0207 : GapEntry :=
  { code := [0, 2, 0, 7], origin := .automatic, interval := 20, lifetime := 100, nextAdmission := 1028#32, admitted := 1,
    rejected := 0, lapsed := false }

/-- The machine at a tick with one gap entry. -/
def gapped (t : Nat) (e : GapEntry) : State :=
  atTick t { State.reset with supervision := { Supervision.reset with periodEnd := 1050#32, gaps := [e] } }

/-- ROUTE at tick 1,015: 1,028 is not reached; GAPPED with code length 4 and 13 ticks, and the rejection is counted. -/
theorem test_route_gapped :
    answerFields (asked .route (digits [0, 2, 0, 7, 5]) (gapped 1015 gap0207)) [(72, 1), (76, 2)] = some [8, 4, 13] ∧
    (nextOf (asked .route (digits [0, 2, 0, 7, 5]) (gapped 1015 gap0207))).supervision.gaps =
      [{ gap0207 with rejected := 1 }] := by decide

/-- SET GAP at tick 1,040, interval 50, lifetime 0: next-admission 1,048 + 50 - 20, former origin AUTOMATIC. -/
theorem test_setGap_replaces :
    (nextOf (asked .setGap (digits [0, 2, 0, 7] ++ [⟨10, 2, 50⟩])
      (gapped 1040 { gap0207 with lifetime := 68, nextAdmission := 1048#32, admitted := 2, rejected := 1 }))).supervision.gaps =
      [⟨[0, 2, 0, 7], .software, 50, 0, 1078#32, 2, 1, false⟩] := by decide

/-- SET GAP's answer: interval 50, lifetime 0, replaced, AUTOMATIC, 1 entry, former counts 2 and 1. -/
theorem test_setGap_answer :
    answerFields (asked .setGap (digits [0, 2, 0, 7] ++ [⟨10, 2, 50⟩])
      (gapped 1040 { gap0207 with lifetime := 68, nextAdmission := 1048#32, admitted := 2, rejected := 1 }))
      [(72, 2), (74, 2), (76, 1), (77, 1), (78, 2), (80, 4), (84, 4)] = some [0, 50, 0, 1, 1, 1, 2, 1] := by decide

/-- CLEAR GAP at tick 1,200: SOFTWARE, interval 50, lifetime 0, admitted 3, rejected 2. -/
theorem test_clearGap_answer :
    answerFields (asked .clearGap (digits [0, 2, 0, 7]) (gapped 1200 ⟨[0, 2, 0, 7], .software, 50, 0, 1128#32, 3, 2, false⟩))
      [(72, 2), (74, 2), (76, 1), (80, 4), (84, 4)] = some [0, 50, 0, 0, 3, 2] := by decide

/-- A code that only matches is not removed (R55). -/
theorem test_clearGap_exact :
    answerField (asked .clearGap (digits [0, 2, 0]) (gapped 1200 gap0207)) 64 1 = some 17 := by decide

/-- A ROUTE whose walk ended ALL_BUSY at exhaust count 4, its installation still to be reported (tick 1,003). -/
def reporting (gaps : List GapEntry) (renew install : Option (List Nat)) : State :=
  (holding routeHalf (atTick 1003 { State.reset with
    supervision := { Supervision.reset with periodEnd := 1050#32, gaps := gaps } })).setRouteJob
    (some { slot := 3, request := routeHalf, stage := .walked renew install (answerHalf .allBusy routeHalf 0 [⟨72, 1, 4⟩]) })

/-- ROUTE_REPORTS installs AUTOMATIC, 20, 100, 1,003, 0, 0, and answers ALL_BUSY with exhaust count 4 (tick 1,003). -/
theorem test_routeReports_installs :
    (nextOf (exec .routeReports (reporting [] none (some [0, 2, 0, 7])))).supervision.gaps =
      [⟨[0, 2, 0, 7], .automatic, 20, 100, 1003#32, 0, 0, false⟩] ∧
    answerFields (exec .routeReports (reporting [] none (some [0, 2, 0, 7]))) [(72, 1)] = some [7, 4] := by decide

/-- ROUTE_REPORTS renews the lifetime of an AUTOMATIC entry to two periods (tick 1,008). -/
theorem test_routeReports_renews :
    (nextOf (exec .routeReports (reporting [{ gap0207 with lifetime := 95 }] (some [0, 2, 0, 7]) none))).supervision.gaps =
      [gap0207] := by decide

/-- An entry whose lifetime has run out is removed (R52). -/
theorem test_gapEntryLapse_removes :
    (nextOf (exec (.gapEntryLapse [0, 2, 0, 7]) (gapped 1108 { gap0207 with lifetime := 0, lapsed := true }))).supervision.gaps =
      [] := by decide

/-- An entry with a lifetime left stays (R52). -/
theorem test_gapEntryLapse_not_due :
    nextOf (exec (.gapEntryLapse [0, 2, 0, 7]) (gapped 1015 gap0207)) = gapped 1015 gap0207 := by decide

/-! ### Groups: the worked sequences of 2.7 and chapter 3 -/

/-- Group 517 as it stands before row 4 of 2.7. -/
def group517 : Group :=
  { plainGroup with size := 40, busy := 35, reservation := 4, congestion := .watch, owner := 12, attempts := 2 }

/-- The machine with that group. -/
def with517 : State :=
  { State.reset with
    groups := [(517, group517)]
    carriers := [(12, { Carrier.reset with ceiling := 100 })]
    backup := { Backup.cold with settlements := [(12, ⟨Sums.zero, 99⟩)] } }

/-- BLOCK CIRCUITS, count 2: applied 2, busy 35, blocked 2, free 3 (2.7, row 4). -/
theorem test_blockCircuits_answer :
    answerFields (asked .blockCircuits [⟨8, 2, 517⟩, ⟨10, 2, 2⟩] with517) [(72, 2), (79, 1), (86, 2), (88, 2), (90, 2), (92, 2)] =
      some [0, 517, 1, 2, 35, 2, 3] := by decide

/-- BLOCK CIRCUITS on an unconfigured group applies 0 (R36). -/
theorem test_blockCircuits_unconfigured :
    answerFields (asked .blockCircuits [⟨8, 2, 5⟩, ⟨10, 2, 2⟩] with517) [(86, 2), (90, 2)] = some [0, 0, 0] := by decide

/-- UNBLOCK CIRCUITS is clamped to what is blocked (R37). -/
theorem test_unblockCircuits_clamps :
    answerFields (asked .unblockCircuits [⟨8, 2, 517⟩, ⟨10, 2, 9⟩]
      { with517 with groups := [(517, { group517 with blocked := 2 })] }) [(86, 2), (90, 2), (92, 2)] = some [0, 2, 0, 5] := by
  decide

/-- SET GROUP, size 30, owner 12, IN: blocked 2 kept, free 0, the default thresholds (2.7, row 8). -/
theorem test_setGroup_answer :
    answerFields (asked .setGroup [⟨8, 2, 517⟩, ⟨10, 1, 1⟩, ⟨11, 1, 12⟩, ⟨12, 2, 30⟩, ⟨14, 2, 4⟩]
      { with517 with groups := [(517, { group517 with blocked := 2 })] })
      [(74, 1), (76, 2), (78, 1), (80, 2), (82, 2), (84, 2), (88, 2), (90, 2), (92, 2)] =
      some [0, 1, 30, 4, 850, 700, 200, 35, 2, 0] := by decide

/-- SET GROUP with another owner while busy: WRONG_STATE (2.7, row 9). -/
theorem test_setGroup_owner :
    answerField (asked .setGroup [⟨8, 2, 517⟩, ⟨10, 1, 1⟩, ⟨11, 1, 14⟩, ⟨12, 2, 30⟩] with517) 64 1 = some 4 := by decide

/-- The examinations of rows 2, 5 and 10 of 2.7: refused under 4, under 3 and under 2. -/
theorem test_examine_517 :
    examine { with517 with backup := { Backup.cold with settlements := [(12, ⟨Sums.zero, 100⟩)] } } [] ⟨517, 2, .overflow⟩ =
      .refused4 ∧
    examine { with517 with groups := [(517, { group517 with blocked := 2 })] } [] ⟨517, 2, .overflow⟩ = .refused3 ∧
    examine { with517 with groups := [(517, { group517 with blocked := 2, size := 30 })] } [] ⟨517, 2, .direct⟩ = .refused2 := by
  decide

/-- Group 77 of chapter 3 at period ends 2, 3, 5, 6 and 9: the smoothed occupancy, the state and the calm count after. -/
theorem test_evaluateGroup_worked :
    [({ plainGroup with occupancy := 675, busy := 97, reservation := 5, attempts := 50, refusals := 6 } : Group),
     { plainGroup with occupancy := 749, busy := 100, reservation := 5, congestion := .watch, attempts := 60, refusals := 24 },
     { plainGroup with occupancy := 857, busy := 92, reservation := 5, congestion := .congested, attempts := 20, refusals := 2 },
     { plainGroup with occupancy := 873, busy := 85, reservation := 5, congestion := .congested, attempts := 25, refusals := 1,
                       calm := 1 },
     { plainGroup with occupancy := 744, busy := 40, reservation := 5, congestion := .watch, attempts := 12 }].map
      (fun r => ((evaluateGroup r).occupancy, (evaluateGroup r).congestion, (evaluateGroup r).calm)) =
      [(749, .watch, 0), (812, .congested, 0), (873, .congested, 1), (867, .watch, 0), (658, .clear, 0)] := by decide

/-- SET SUPERVISION clamps: period 0 to 1, threshold 16 to 15, interval 601 to 600 (R41). -/
theorem test_setSupervision_clamps :
    answerFields (asked .setSupervision [⟨8, 1, 0⟩, ⟨9, 1, 16⟩, ⟨10, 2, 601⟩] State.reset)
      [(72, 1), (73, 1), (74, 2), (76, 4)] = some [0, 1, 15, 600, 50] := by decide

/-- PERIOD_END before the end tick changes nothing (R40). -/
theorem test_periodEnd_not_due : nextOf (exec .periodEnd (atTick 49 State.reset)) = atTick 49 State.reset := by decide

/-! ### Time -/

/-- The machine with a SET calendar. -/
def calendarAt (cal : Calendar) (s : State) : State :=
  s.setBackup { s.backup with calendar := cal, clockSet := true }

/-- The day carries of 6.2. -/
theorem test_day_carries :
    [(⟨24, 2, 28, 2, 23, 59, 59, 9⟩ : Calendar), ⟨24, 2, 29, 3, 23, 59, 59, 9⟩, ⟨25, 2, 28, 4, 23, 59, 59, 9⟩,
     ⟨25, 2, 30, 0, 23, 59, 59, 9⟩, ⟨1, 4, 31, 1, 23, 59, 59, 9⟩, ⟨99, 12, 31, 3, 23, 59, 59, 9⟩].map addTenth =
      [⟨24, 2, 29, 3, 0, 0, 0, 0⟩, ⟨24, 3, 1, 4, 0, 0, 0, 0⟩, ⟨25, 3, 1, 5, 0, 0, 0, 0⟩, ⟨25, 3, 1, 1, 0, 0, 0, 0⟩,
       ⟨1, 5, 1, 2, 0, 0, 0, 0⟩, ⟨0, 1, 1, 4, 0, 0, 0, 0⟩] := by decide

/-- The machine of the sequence of 6.7 just before its tick 70,010: carrier 14's outbound set due at midnight, carrier 5's
inbound set five seconds later. -/
def midnight : State :=
  calendarAt ⟨25, 6, 30, 0, 23, 59, 59, 9⟩ (atTick 70010 { State.reset with
    clock := { ClockUnit.reset with calDivider := 800, band := 3 }
    plan := { PlanStore.reset with bankA := { BankData.empty with bandMap := [(1, 4), (48, 3)] } }
    carriers :=
      [(5, { Carrier.reset with inbound := ⟨none, some ⟨⟨25, 7, 1, 0, 0, 5⟩, rated 450, false⟩⟩ }),
       (14, { Carrier.reset with outbound := ⟨none, some ⟨⟨25, 7, 1, 0, 0, 0⟩, rated 600, false⟩⟩ })] })

/-- The tenth advance at midnight: 1 July, band 4, carrier 14's set handed over and carrier 5's not (6.7). -/
theorem test_tenthAdvance_midnight :
    (fun t : State => (t.backup.calendar, t.clock.band, t.clock.calDivider,
      (t.carrier 14).outbound.pending.map PendingSet.handed, (t.carrier 5).inbound.pending.map PendingSet.handed))
      (nextOf (exec .tenthAdvance midnight)) = (⟨25, 7, 1, 1, 0, 0, 0, 0⟩, 4, 0, some true, some false) := by decide

/-- The SET CALENDAR of 6.7: one set found due, band 4 and no change, clock state SET before. -/
theorem test_setCalendar_brings_forward :
    answerFields (asked .setCalendar [⟨8, 1, 25⟩, ⟨9, 1, 7⟩, ⟨10, 1, 1⟩, ⟨11, 1, 1⟩, ⟨14, 1, 20⟩]
      (calendarAt ⟨25, 7, 1, 1, 0, 0, 0, 3⟩ { midnight with
        clock := { ClockUnit.reset with band := 4 }
        carriers := [(5, { Carrier.reset with inbound := ⟨none, some ⟨⟨25, 7, 1, 0, 0, 5⟩, rated 450, false⟩⟩ })] }))
      [(72, 1), (73, 1), (74, 1), (75, 1), (78, 1), (79, 1), (80, 1), (81, 1), (82, 1), (84, 2)] =
      some [0, 25, 7, 1, 1, 20, 0, 1, 4, 0, 1] := by decide

/-- SET CALENDAR names the first field out of range: day 32 is field 3 (R105, Table 10-12). -/
theorem test_setCalendar_range :
    answerFields (asked .setCalendar [⟨9, 1, 12⟩, ⟨10, 1, 32⟩, ⟨11, 1, 9⟩] State.reset) [(66, 2)] = some [2, 3] := by decide

/-- ALIGN MINUTE from second 30 on goes to the next minute, here with its hour and day (R106). -/
theorem test_alignMinute_rounds_up :
    (nextOf (asked .alignMinute [] (calendarAt ⟨24, 2, 29, 3, 23, 59, 30, 4⟩ State.reset))).backup.calendar =
      ⟨24, 3, 1, 4, 0, 0, 0, 0⟩ := by decide

/-- ALIGN MINUTE with the clock UNSET: WRONG_STATE (R106). -/
theorem test_alignMinute_unset : answerField (asked .alignMinute [] State.reset) 64 1 = some 4 := by decide

/-- A frame slot moves both dividers and breaks the present run (R100, R109). -/
theorem test_frameSlot_counts :
    (nextOf (exec (.frameSlot false) { State.reset with clock := { ClockUnit.reset with presentRun := 63 } })).clock =
      { ClockUnit.reset with tickDivider := 1, calDivider := 1 } := by decide

/-- The eighth missing slot in a row is a loss: FREE_RUNNING, EVENTS set, and the flag in an ANSWERED context (R109, R110). -/
theorem test_referenceLoss_marks :
    (fun t : State => (t.clock.reference, t.clock.missingRun, t.regs.events, (t.context 0).state))
      (nextOf (exec .referenceLoss { charging with
        clock := { ClockUnit.reset with reference := .locked, missingRun := 8 } })) =
      (.freeRunning, 0, true, .answered { onPool with origin := 5 } { answeredCall with freeRunning := true }) := by decide

/-- The 64th present slot in a row is a lock (R109). -/
theorem test_referenceLock_locks :
    (nextOf (exec .referenceLock { State.reset with clock := { ClockUnit.reset with presentRun := 64 } })).clock =
      { ClockUnit.reset with reference := .locked } := by decide

/-- A tick advance wraps the counter and counts gap lifetimes down (R52, R100). -/
theorem test_tickAdvance_wraps :
    (fun t : State => (t.clock.tick, t.clock.tickDivider, t.supervision.gaps.map (fun e => (e.lifetime, e.lapsed))))
      (nextOf (exec .tickAdvance { State.reset with
        clock := { ClockUnit.reset with tick := 0xFFFFFFFF#32, tickDivider := 800 }
        supervision := { Supervision.reset with gaps := [{ gap0207 with lifetime := 1 }, { gap0207 with code := [1] }] } })) =
      (0#32, 0, [(0, true), (99, false)]) := by decide

/-! ### Carriers, tariffs and settlement -/

/-- SET CARRIER: the old ceiling and count are answered, and CLEAR zeroes the count (R119). -/
theorem test_setCarrier_clears :
    answerFields (asked .setCarrier [⟨8, 1, 12⟩, ⟨9, 1, 1⟩, ⟨10, 2, 70⟩]
      { with517 with carriers := [(12, { Carrier.reset with ceiling := 100, refusals := 6 })] })
      [(72, 1), (74, 2), (76, 2), (78, 2), (80, 4)] = some [0, 12, 100, 70, 99, 6] ∧
    ((nextOf (asked .setCarrier [⟨8, 1, 12⟩, ⟨9, 1, 1⟩, ⟨10, 2, 70⟩]
      { with517 with carriers := [(12, { Carrier.reset with ceiling := 100, refusals := 6 })] })).carrier 12) =
      { Carrier.reset with ceiling := 70 } := by decide

/-- LOAD TARIFF: its 256-byte block is asked for from its address (R123). -/
theorem test_loadTariff_asks :
    (nextOf (asked .loadTariff [⟨8, 1, 5⟩, ⟨12, 4, 0x2000⟩] State.reset)).port.carrier =
      [⟨.tariffBlock, false, 0x2000#32, 256, [], some 64⟩] := by decide

/-- LOAD TARIFF, TIMED, with the clock UNSET: WRONG_STATE (R122). -/
theorem test_loadTariff_unset :
    answerField (asked .loadTariff [⟨8, 1, 5⟩, ⟨10, 1, 1⟩, ⟨17, 1, 1⟩, ⟨18, 1, 1⟩] State.reset) 64 1 = some 4 := by decide

/-- CANCEL TARIFF removes the pending set and answers its effective time (R126). -/
theorem test_cancelTariff_removes :
    answerFields (asked .cancelTariff [⟨8, 1, 5⟩] midnight) [(72, 1), (73, 1), (74, 1), (75, 1), (76, 1), (77, 1)] =
      some [0, 25, 7, 1, 0, 0, 5] ∧
    ((nextOf (asked .cancelTariff [⟨8, 1, 5⟩] midnight)).carrier 5).inbound.pending = none := by decide

/-- CANCEL TARIFF with none pending: NOT_PENDING (R126). -/
theorem test_cancelTariff_none : answerField (asked .cancelTariff [⟨8, 1, 14⟩] midnight) 64 1 = some 17 := by decide

/-- Carrier 14 of 9.7 at row 5. -/
def owing : State :=
  { State.reset with
    backup := { Backup.cold with settlements := [(14, ⟨{ Sums.zero with payable := 53961, outCount := 14 }, 1⟩)] } }

/-- CLOSE PERIOD ONE: payable 53,961, outbound count 14, unsettled 0; the open handover stays (9.7, row 5). -/
theorem test_closePeriod_one :
    answerFields (asked .closePeriod [⟨9, 1, 14⟩] owing) [(72, 1), (73, 1), (74, 2), (88, 4), (96, 4)] =
      some [0, 14, 0, 0, 53961, 14] ∧
    (nextOf (asked .closePeriod [⟨9, 1, 14⟩] owing)).settlement 14 = ⟨Sums.zero, 1⟩ := by decide

/-- A warm start with the close record full: the payable is restored, then the open handover is carried (9.7). -/
theorem test_softReset_restores :
    (fun t : State => (t.settlement 14, t.backup.closeRecord, t.power.reset, t.regs.startKind))
      (nextOf (exec .softReset { owing with backup := { Backup.cold with
        settlements := [(14, ⟨Sums.zero, 1⟩)]
        closeRecord := some ⟨.one 14, [(14, { Sums.zero with payable := 53961, outCount := 14 })]⟩ } })) =
      (⟨{ Sums.zero with payable := 53961, outCount := 14, unsettled := 1 }, 0⟩, none, some .soft, .warm) := by decide

/-- The RESET line at row 7 of 9.7: the open handover becomes the unsettled count. -/
theorem test_resetLineAsserted_carries :
    (nextOf (exec .resetLineAsserted owing)).settlement 14 =
      ⟨{ Sums.zero with payable := 53961, outCount := 14, unsettled := 1 }, 0⟩ := by decide

/-! ### Plans -/

/-- LOAD DESTINATIONS joins the load queue (R9). -/
theorem test_loadDestinations_queues :
    (nextOf (asked .loadDestinations [⟨8, 1, 1⟩, ⟨9, 1, 1⟩, ⟨10, 2, 256⟩, ⟨12, 4, 4096⟩] State.reset)).plan.queue =
      [⟨3, half .loadDestinations [⟨8, 1, 1⟩, ⟨9, 1, 1⟩, ⟨10, 2, 256⟩, ⟨12, 4, 4096⟩], .destinations .merge, .b, 4096#32, 256⟩] := by
  decide

/-- LOAD ROUTE LISTS with 257 records: RANGE (R9). -/
theorem test_loadRouteLists_range : answerField (asked .loadRouteLists [⟨8, 1, 1⟩, ⟨10, 2, 257⟩] State.reset) 64 1 = some 2 := by
  decide

/-- SET BAND MAP at an address that is not a multiple of 8: FORMAT (R9). -/
theorem test_setBandMap_format : answerField (asked .setBandMap [⟨8, 1, 1⟩, ⟨12, 4, 12⟩] State.reset) 64 1 = some 1 := by decide

/-- SET HOLIDAYS with 33 entries: RANGE (R9). -/
theorem test_setHolidays_range : answerField (asked .setHolidays [⟨8, 1, 1⟩, ⟨10, 2, 33⟩] State.reset) 64 1 = some 2 := by decide

/-- The machine with one load queued for a bank. -/
def queued (kind : LoadKind) (bank : Bank) (addr count : Nat) : State :=
  { State.reset with plan := { PlanStore.reset with queue := [⟨3, half .setHolidays [], kind, bank, BitVec.ofNat 32 addr, count⟩] }
                     intake := { Intake.reset with inHand := [⟨3, .withOwner (half .setHolidays []) true⟩] } }

/-- BANK_LOAD_HEAD on the active bank: BANK_ACTIVE (R10). -/
theorem test_bankLoadHead_active : answerField (exec .bankLoadHead (queued .bandMap .a 0 144)) 64 1 = some 11 := by decide

/-- BANK_LOAD_HEAD: a route list block of two records is 64 bytes (R11). -/
theorem test_bankLoadHead_asks :
    (nextOf (exec .bankLoadHead (queued .routeLists .b 8 2))).port.plan = [⟨.loadBlock, false, 8#32, 64, [], some 64⟩] := by decide

/-- SWITCH PLAN: bank B becomes active (R19). -/
theorem test_switchPlan_switches :
    answerFields (asked .switchPlan [] State.reset) [(72, 1)] = some [0, 1] ∧
    (nextOf (asked .switchPlan [] State.reset)).plan.active = .b := by decide

/-- SWITCH PLAN with a load queued: LOAD_IN_PROGRESS (R19). -/
theorem test_switchPlan_in_progress :
    answerField (asked .switchPlan [] (queued .bandMap .b 0 144)) 64 1 = some 13 := by decide

/-! ### Registers -/

theorem test_scanInterval_clamps :
    [0#6, 1#6, 32#6, 33#6, 63#6].map (fun u => (nextOf (exec (.scanInterval u) State.reset)).regs.interval) = [1, 1, 32, 32, 32] := by
  decide

theorem test_areaSize_clamps :
    [0#32, 5#32, 6#32, 12#32, 13#32, 15#32].map (fun v => (nextOf (exec (.areaSize v) State.reset)).regs.sizeExp) =
      [6, 6, 6, 12, 12, 12] := by decide

theorem test_areaBase_masks : (nextOf (exec (.areaBase 0x12345FFF#32) State.reset)).regs.base = 0x12345000#32 := by decide

theorem test_areaBase_only_halted :
    (nextOf (exec (.areaBase 0x1000#32) (inEngine .running State.reset))).regs.base = 0#32 := by decide

theorem test_burstSize_stores : (nextOf (exec (.burstSize 3#2) State.reset)).regs.burst = 3 := by decide

/-- CONTROL after reset: RUN 0, LATCHED, 4 units, burst size 2; ATTENTION, STATUS and NUDGE (R168). -/
theorem test_registers_after_reset :
    readRegister State.reset .control = 0x00020400#32 ∧ readRegister State.reset .areaSize = 6#32 ∧
    readRegister State.reset .nudge = 0xFFFFFFFF#32 ∧ readRegister State.reset .status = 0#32 := by decide

/-- The machine with EVENTS set. -/
def attending : State := State.reset.setRegs { State.reset.regs with events := true, attnLine := true }

theorem test_attention_clears :
    (fun t : State => (t.regs.events, t.regs.attnLine)) (nextOf (exec (.attention 5#32) attending)) = (false, false) := by decide

theorem test_attention_leaves :
    (fun t : State => (t.regs.events, t.regs.attnLine)) (nextOf (exec (.attention 2#32) attending)) = (true, true) := by decide

theorem test_attnMode_pulse :
    (fun t : State => (t.regs.pulse, t.regs.attnLine)) (nextOf (exec (.attnMode true) attending)) = (true, false) := by decide

theorem test_attnPulseEnd_deasserts :
    (nextOf (exec .attnPulseEnd (attending.setRegs { attending.regs with pulse := true }))).regs.attnLine = false := by decide

theorem test_registerWriteIgnored :
    nextOf (exec (.registerWriteIgnored .status 0xFFFFFFFF#32) attending) = attending := by decide

/-- RUN 1 with the sweep owed: the strip of 64 slots is read in one burst of 64 bytes, and no timer starts (R176). -/
theorem test_runOne_sweeps :
    (fun t : State => (t.port.intake, t.intake.timer, t.regs.engine)) (nextOf (exec .runOne State.reset)) =
      ([⟨.sweepStrip, false, 0#32, 64, [], some 64⟩], none, .running) := by decide

/-- The machine RUNNING with nothing owed. -/
def running : State :=
  (inEngine .running State.reset).setIntake { Intake.reset with
    timer := some 4, sweep := { owed := false, next := 0, active := false, codes := [] } }

/-- RUN 0 with nothing in hand: HALTED, and the timer stops (R158, R170). -/
theorem test_runZero_halts :
    (fun t : State => (t.regs.engine, t.regs.run, t.intake.timer)) (nextOf (exec .runZero running)) = (.halted, false, none) := by
  decide

/-- NUDGE starts a pass of N slots from the resume point (R158, R159). -/
theorem test_nudge_starts :
    (fun t : State => (t.intake.pass, t.port.intake))
      (nextOf (exec (.nudge 0#32) (running.setIntake { running.intake with resume := 40 }))) =
      (some ⟨40, 64, [], none⟩, [⟨.strip 40, false, 40#32, 24, [], some 64⟩]) := by decide

/-- The scan timer starts a pass (R158). -/
theorem test_scanTimerExpiry_starts :
    (nextOf (exec .scanTimerExpiry running)).intake.pass = some ⟨0, 64, [], none⟩ := by decide

/-! ### Bursts -/

/-- The machine RUNNING, a pass at slot 0 reading its strip. -/
def scanning : State := nextOf (exec (.nudge 0#32) running)

/-- Slot 5 POSTED is taken: an UNREAD entry, and TAKEN written to its strip byte (R159). -/
theorem test_burst_takes :
    (fun t : State => (t.intake.inHand, t.port.intake))
      (nextOf (exec (.memoryBurstDone (.done ((List.range 64).map (fun i => if i = 5 then 1#8 else 0#8)))) scanning)) =
      ([⟨5, .unread⟩], [⟨.taken 5, true, 5#32, 1, [2#8], some 64⟩]) := by decide

/-- A bus error on the strip faults the engine: RUN 0, kind STRIP, slot 0, FAULT set (R162, R170). -/
theorem test_burst_faults :
    (fun t : State => (t.regs.engine, t.regs.run, t.regs.faultKind, t.regs.faultSlot, t.regs.fault, t.port.intake))
      (nextOf (exec (.memoryBurstDone (.busError 3)) scanning)) = (.faulted, false, .strip, 0, true, []) := by decide

/-- A reply of another length is no reply to the burst. -/
theorem test_burst_mismatch : exec (.memoryBurstDone (.done [])) scanning = .fault .replyMismatch := by rfl

/-- The machine RUNNING, the answer of slot 3 in its last write. -/
def answeringSlot : State :=
  { running with
    intake := { running.intake with
      inHand := [⟨3, .answerFormed (half .switchPlan []) (answerHalf .ok (half .switchPlan []) 0 [])⟩], formed := [3],
      writing := true }
    port := { Port.reset with intake := [⟨.answered 3, true, 3#32, 1, [3#8], some 64⟩], serving := some .intake } }

/-- ANSWERED is stored, the ANSWERS bit is set, and the entry leaves the list (R161). -/
theorem test_burst_answers :
    (fun t : State => (Memory.byte t.mem 3, t.regs.answers, t.intake.inHand, t.intake.formed, t.port.serving))
      (nextOf (exec (.memoryBurstDone (.done [])) answeringSlot)) = (some 3#8, true, [], [], none) := by decide

/-- A failed ANSWERED write faults the engine, and its one beat reached host memory or did not (R162). -/
theorem test_burst_failed_write :
    (nextOf (exec (.memoryBurstDone (.busError 0)) answeringSlot)).regs.faultKind = .answer ∧
    (Memory.byte (nextOf (exec (.memoryBurstDone (.busError 0)) answeringSlot)).mem 3 = none ∨
      Memory.byte (nextOf (exec (.memoryBurstDone (.busError 0)) answeringSlot)).mem 3 = some 3#8) := by
  refine ⟨by decide, ?_⟩
  show Memory.byte (storeFailed ⟨.answered 3, true, 3#32, 1, [3#8], some 64⟩ 0 answeringSlot).mem 3 = none ∨
    Memory.byte (storeFailed ⟨.answered 3, true, 3#32, 1, [3#8], some 64⟩ 0 answeringSlot).mem 3 = some 3#8
  unfold storeFailed failingBeatReached
  cases Config.failingBeatStored answeringSlot.failures
  · exact .inl (by decide)
  · exact .inr (by decide)

/-- A route list block with step kind 4 in record 1: FORMAT, record 1 (R13). -/
theorem test_burst_bad_record :
    answerFields (exec (.memoryBurstDone (.done (layOut 0 32 [⟨0, 2, 7⟩, ⟨2, 1, 1⟩, ⟨8, 2, 100⟩, ⟨10, 1, 4⟩])))
      (nextOf (exec .bankLoadHead (queued .routeLists .b 8 1)))) [(66, 2)] = some [1, 1] := by decide

/-- A good holiday block is applied: 25 December (R15, R17). -/
theorem test_burst_applies :
    (nextOf (exec (.memoryBurstDone (.done [12#8, 25#8, 0#8, 0#8])) (nextOf (exec .bankLoadHead (queued .holidays .b 8 1))))
      ).plan.bankB.holidays = [(12, 25)] := by decide

/-! ### Starts and supplies -/

/-- POWER_ON with the marker lost: COLD, epoch 1, clock UNSET (R174). -/
theorem test_powerOn_cold :
    (fun t : State => (t.regs.startKind, t.backup, t.power.reset))
      (nextOf (exec .powerOn { owing with power := ⟨false, false, none⟩, backup := { owing.backup with marker := false } })) =
      (.cold, Backup.cold, some .power) := by decide

/-- POWER_ON with the marker intact: WARM, and the Backup Domain is kept (R174). -/
theorem test_powerOn_warm :
    (fun t : State => (t.regs.startKind, (t.settlement 14).sums.payable, t.backup.epoch))
      (nextOf (exec .powerOn { owing with power := ⟨false, false, none⟩ })) = (.warm, 53961, 1) := by decide

/-- A warm reset's end advances the epoch from 255 to 1 (R174). -/
theorem test_resetEnd_epoch :
    (nextOf (exec .resetEnd { State.reset with
      power := ⟨true, false, some .soft⟩, regs := Regs.reset .warm, backup := { Backup.cold with epoch := 255 } })).backup.epoch =
      1 := by decide

/-- The line still asserted: the reset goes on as one from the line (R174). -/
theorem test_resetEnd_line :
    (nextOf (exec .resetEnd { State.reset with power := ⟨true, true, some .power⟩ })).power.reset = some .line := by decide

/-- The line released: its reset ends, the epoch advanced (R174). -/
theorem test_resetLineReleased_ends :
    (fun t : State => (t.power, t.backup.epoch)) (nextOf (exec .resetLineReleased { State.reset with
      power := ⟨true, true, some .line⟩, regs := Regs.reset .warm })) = (⟨true, false, none⟩, 2) := by decide

/-- On the backup supply a SET calendar goes on and nothing is compared (R114). -/
theorem test_backupTenthAdvance_counts :
    (fun t : State => (t.backup.calendar, t.carriers)) (nextOf (exec .backupTenthAdvance
      { midnight with power := ⟨false, false, none⟩ })) = (⟨25, 7, 1, 1, 0, 0, 0, 0⟩, midnight.carriers) := by decide

/-- The loss of the main supply keeps the Backup Domain (R114, R145). -/
theorem test_mainSupplyLoss_keeps :
    (fun t : State => (t.backup, t.power.main, t.groups)) (nextOf (exec .mainSupplyLoss with517)) =
      (with517.backup, false, []) := by decide

/-- The failure of the backup supply loses the marker (R145). -/
theorem test_backupSupplyFailure_marker :
    (nextOf (exec .backupSupplyFailure { owing with power := ⟨false, false, none⟩ })).backup.marker = false := by decide

/-- The step carries out the front command. -/
theorem test_step_front : nextOf (step (State.reset.setPending [.burstSize 1#2, .softReset])) =
    { State.reset with regs := { Regs.reset .cold with burst := 1 }, pending := [.softReset] } := by decide

/-! ### Witnesses: the hypotheses of each obligation are met together -/

/-- A table that lists one index reads as its default at every other. -/
theorem read_one {α : Type} (k g : Nat) (v d : α) : Table.read [(k, v)] d g = if k = g then v else d := by
  by_cases h : k = g <;> simp [Table.read, Table.find, h]

/-- The machine of 5.7 with its due expiry at the front of the queue. -/
def due : State := expiring.setPending [.confirmationExpiry 13]

theorem witness_StepRunsFrontCommand : State.reset.pending = [] := by decide

theorem witness_step_due : ∃ t, step due = .next t ∧ t.contexts.expired = [12, 13] := ⟨_, rfl, by decide⟩

theorem witness_TablesStayCanonical : due.Canonical ∧ ∃ t, step due = .next t :=
  ⟨⟨by decide, by decide, by decide, by decide, by decide, fun k => by cases k <;> decide⟩, _, rfl⟩

theorem witness_RegistersAndInHandListStayLegal :
    (due.regs.Legal ∧ ∃ t, step due = .next t) ∧
    ((holding routeHalf due).intake.Bounded ∧ ∃ t, step (holding routeHalf due) = .next t) :=
  ⟨⟨by unfold Regs.Legal; decide, _, rfl⟩, by unfold Intake.Bounded; decide, _, rfl⟩


theorem rated_legal (k n : Nat) (h : n ≤ 999999) (hk : 1 ≤ k ∧ k ≤ 255) : SetLegal k (rated n) := by
  refine ⟨hk.1, hk.2, rfl, fun r hr => ?_⟩
  simp only [rated, List.mem_map] at hr
  obtain ⟨i, -, rfl⟩ := hr
  simp only [BandRecord.Legal]
  split <;> omega

theorem midnight_tariffsLegal : midnight.TariffsLegal := by
  have h (k : Nat) : midnight.carrier k =
      if 5 = k then { Carrier.reset with inbound := ⟨none, some ⟨⟨25, 7, 1, 0, 0, 5⟩, rated 450, false⟩⟩ }
      else if 14 = k then { Carrier.reset with outbound := ⟨none, some ⟨⟨25, 7, 1, 0, 0, 0⟩, rated 600, false⟩⟩ }
      else Carrier.reset := by
    show Table.read [(5, _), (14, _)] _ k = _
    simp only [Table.read, Table.find]
    repeat' split
    all_goals rfl
  refine ⟨fun k d set hs => ?_, fun k d p hp => ?_, fun _ _ hj => nomatch (show none = some _ from hj)⟩
  · rw [h] at hs
    repeat' split at hs
    all_goals cases d <;> simp [Carrier.tariffs, Carrier.reset, Tariffs.none] at hs
  · rw [h] at hp
    repeat' split at hp
    all_goals cases d <;> simp [Carrier.tariffs, Carrier.reset, Tariffs.none] at hp
    all_goals subst hp
    all_goals exact rated_legal _ _ (by decide) (by omega)

theorem witness_SupervisionCalendarSumsAndSetsStayLegal :
    (let s := (gapped 1015 gap0207).setPending [.routeReports]
     s.supervision.Legal ∧ s.backup.calendar.Legal ∧ s.backup.Legal ∧ ∃ t, step s = .next t) ∧
    (let s := midnight.setPending [.tenthAdvance]
     s.TariffsLegal ∧ ∃ t, step s = .next t) := by
  refine ⟨⟨?_, ?_, ?_, _, rfl⟩, midnight_tariffsLegal, _, rfl⟩
  · refine ⟨by decide, by decide, by decide, by decide, by decide, by decide, by decide, ?_⟩
    intro e he
    have h : e = gap0207 := List.mem_singleton.1 he
    subst h
    unfold GapEntry.Legal
    decide
  · unfold Calendar.Legal
    decide
  · refine ⟨by decide, fun k => ?_, fun r (hr : none = some r) => (nomatch hr), by decide, by decide⟩
    show (Settlement.zero.sums).Legal
    unfold Sums.Legal
    decide


theorem due_context (i : Nat) : due.context i = if 11 = i then ⟨2, .expired plainCall 220#32⟩
    else if 12 = i then ⟨9, .expired plainCall 250#32⟩ else if 13 = i then ⟨1, .provisional plainCall 260#32⟩
    else Context.reset := by
  show Table.read [(11, _), (12, _), (13, _)] _ i = _
  simp only [Table.read, Table.find]
  repeat' split
  all_goals rfl

theorem due_conserved : due.Conserved := by
  refine ⟨by decide, by decide, by decide, fun g => ?_, fun _ c hc => ?_, fun k => ?_, by decide, fun i => ?_⟩
  · have h : due.group g = if 77 = g then { plainGroup with busy := 1 } else Group.unconfigured := read_one 77 g _ _
    rw [h]
    by_cases hg : 77 = g
    · subst hg
      decide
    · simp [hg, seizuresOn, contextsIn, due, expiring, atTick, State.setPending, State.setClock, CallState.holds,
        CallState.live, CallState.call?, plainCall, Group.unconfigured]
  · have h : callOwner due plainCall = 0 := by decide
    have h0 : due.openHandovers c = 0 := rfl
    rw [h0]
    simp only [seizuresOf, contextsIn, show due.contexts.table = [(11, ⟨2, .expired plainCall 220#32⟩),
      (12, ⟨9, .expired plainCall 250#32⟩), (13, ⟨1, .provisional plainCall 260#32⟩)] from rfl]
    simp [CallState.holds, CallState.live, CallState.call?, h, Ne.symm hc]
  · cases k <;> decide
  · rw [due_context]
    show i ∈ [11, 12] ↔ _
    by_cases h1 : 11 = i
    · subst h1
      decide
    · by_cases h2 : 12 = i
      · subst h2
        decide
      · by_cases h3 : 13 = i
        · subst h3
          decide
        · simp [h1, h2, h3, CallState.isExpired, Context.reset, Ne.symm h1, Ne.symm h2]

theorem witness_SeizuresAreConserved : due.Conserved ∧ ∃ t, step due = .next t := ⟨due_conserved, _, rfl⟩

theorem plainCall_legal : plainCall.Legal := by
  unfold Call.Legal
  decide

theorem answeredCall_legal : answeredCall.Legal charging.now := by
  unfold Answered.Legal
  decide

theorem callBank_legal : callBank.Legal := by
  refine ⟨by decide, by decide, ?_, ?_, by decide, by decide, by decide, by decide⟩
  · unfold Dest.Legal CodeLegal
    simp only [callBank]
    decide
  · intro e he
    simp only [callBank, List.mem_cons, List.not_mem_nil, or_false] at he
    rcases he with rfl | rfl | rfl
    · exact ⟨by decide, by decide, by decide, by decide, by decide, by decide,
        [⟨1, .direct⟩], [], [], rfl, by decide, by decide, by decide⟩
    · exact ⟨by decide, by decide, by decide, by decide, by decide, by decide,
        [⟨1, .direct⟩], [], [], rfl, by decide, by decide, by decide⟩
    · exact ⟨by decide, by decide, by decide, by decide, by decide, by decide,
        [⟨100, .direct⟩, ⟨110, .overflow⟩], [⟨341, .pool⟩, ⟨352, .pool⟩, ⟨363, .pool⟩], [⟨400, .overflow⟩], rfl,
        by decide, by decide, by decide⟩

/-- The machine of 5.7 with the plan of 4.8 in bank B. -/
def duePlanned : State := due.setPlan { due.plan with bankB := callBank }

theorem duePlanned_callsLegal : duePlanned.CallsLegal := by
  refine ⟨fun k => ?_, by decide, by decide, fun i => ?_, fun i call h => ?_, fun i call a h => ?_,
    fun e he => absurd (show e ∈ ([] : List GapEntry) from he) List.not_mem_nil,
    fun _ _ _ _ hj => nomatch (show none = some _ from hj)⟩
  · cases k
    · refine ⟨by decide, by decide, ?_, fun e he => ?_, by decide, by decide, by decide, by decide⟩
      · show ∀ e ∈ due.plan.bankA.dests, e.Legal
        unfold Dest.Legal CodeLegal
        decide
      · exact absurd (show e ∈ ([] : List (Nat × List RouteStep)) from he) List.not_mem_nil
    · exact callBank_legal
  · show 1 ≤ (due.context i).generation ∧ (due.context i).generation ≤ 255
    rw [due_context]
    repeat' split
    all_goals decide
  · have h' : (due.context i).state.call? = some call := h
    rw [due_context] at h'
    repeat' split at h'
    all_goals first | (cases h'; exact plainCall_legal) | (simp [CallState.call?, Context.reset] at h')
  · have h' : (due.context i).state = .answered call a := h
    rw [due_context] at h'
    repeat' split at h'
    all_goals simp [Context.reset] at h'

theorem duePlanned_conserved : duePlanned.Conserved := by
  obtain ⟨h1, h2, h3, h4, h5, -, h7⟩ := due_conserved
  exact ⟨h1, h2, h3, h4, h5, fun k => by cases k <;> decide, h7⟩

theorem witness_CallsAndPlansStayLegal :
    duePlanned.Conserved ∧ duePlanned.CallsLegal ∧ ∃ t, step duePlanned = .next t :=
  ⟨duePlanned_conserved, duePlanned_callsLegal, _, rfl⟩

theorem witness_GroupRecordsStayLegal : (∀ g, (due.group g).Legal) ∧ due.Conserved ∧ ∃ t, step due = .next t := by
  refine ⟨fun g => ?_, due_conserved, _, rfl⟩
  have h : due.group g = if 77 = g then { plainGroup with busy := 1 } else Group.unconfigured := read_one 77 g _ _
  rw [h]
  split <;> unfold Group.Legal <;> decide

theorem witness_StateMovesOnlyByItsEvents :
    (∃ t, exec .confirm ringing = .next t) ∧ Instr.confirm.movesTick = false ∧ Instr.confirm.movesCalendar = false ∧
    Instr.confirm.isBurst = false := ⟨⟨_, rfl⟩, rfl, rfl, rfl⟩

theorem witness_OnlyImpossibleOperandsStop :
    (Instr.gapEntryLapse []).wellFormed = false ∧ Instr.route.wellFormed = true ∧ Instr.route.isBurst = false ∧
    (Instr.memoryBurstDone (.busError 3)).wellFormed = true ∧ carried State.reset = none ∧ (carried scanning).isSome = true := by
  decide

/-- Two requests in taking order: a SET CARRIER and the ROUTE. -/
def twoInHand : State :=
  congested.setIntake { congested.intake with
    inHand := [⟨1, .withOwner (half .setCarrier [⟨8, 1, 12⟩]) false⟩, ⟨3, .withOwner routeHalf false⟩] }

theorem witness_OwnersServeAndCheckRequests :
    twoInHand.up = true ∧ ownerReady Kind.route.owner twoInHand = true ∧
    twoInHand.intake.inHand = [⟨1, .withOwner (half .setCarrier [⟨8, 1, 12⟩]) false⟩] ++ ⟨3, .withOwner routeHalf false⟩ :: [] ∧
    kindOf routeHalf = some .route ∧ kindOf (half .setCarrier [⟨8, 1, 12⟩]) = some .setCarrier ∧
    Kind.setCarrier.owner ≠ Kind.route.owner ∧ served .confirm State.reset = none ∧
    (let req := half .setGroup [⟨1, 1, 9⟩]
     served .setGroup (holding req State.reset) = some (3, req) ∧ reservedClear .setGroup req = false) := by decide

theorem witness_FormedAnswersWaitTheirTurn :
    (holding routeHalf State.reset).regs.engine = .halted ∧ (holding routeHalf running).regs.engine = .running ∧
    (holding routeHalf running).intake.writing = false ∧ (holding routeHalf running).intake.sweep.active = false ∧
    (holding routeHalf running).intake.formed = [] ∧ ∃ e ∈ (holding routeHalf running).intake.inHand, e.slot = 3 := by decide

theorem witness_GapCheckJudgesTheCall :
    (served .route (holding routeHalf congested) = some (3, routeHalf) ∧ reservedClear .route routeHalf = true ∧
      1 ≤ byteAt routeHalf 8 ∧ byteAt routeHalf 8 ≤ 16 ∧ (∀ d ∈ byteFields routeHalf 16 (byteAt routeHalf 8), d ≤ 9)) ∧
    NoMatch GapEntry.code (dialled routeHalf) congested.supervision.gaps ∧
    (let s := holding routeHalf (gapped 1015 gap0207)
     served .route s = some (3, routeHalf) ∧ (s.supervision.gaps.map GapEntry.code).Nodup ∧
       IsLongestMatch GapEntry.code (dialled routeHalf) s.supervision.gaps gap0207) ∧
    (let req := half .route (digits (List.replicate 16 9))
     served .route (holding req congested) = some (3, req) ∧ reservedClear .route req = true ∧ byteAt req 8 = 16) ∧
    (let req := half .route [⟨8, 1, 17⟩]
     served .route (holding req congested) = some (3, req) ∧ reservedClear .route req = true ∧ 16 < byteAt req 8) := by
  unfold NoMatch IsLongestMatch
  decide

/-- The candidates of the ROUTE of 4.8. -/
def offered : List Candidate :=
  [⟨100, 1, .direct⟩, ⟨110, 2, .overflow⟩, ⟨341, 3, .pool⟩, ⟨352, 4, .pool⟩, ⟨363, 5, .pool⟩, ⟨400, 6, .overflow⟩]

/-- The destination 0207. -/
def dest0207 : Dest := ⟨[0, 2, 0, 7], 12, some 341, 0⟩

theorem witness_SeizureTakesFirstAdmissible :
    (offered.map Candidate.group).Nodup ∧ offered = offered.take 3 ++ offered.drop 3 ∧
    (∀ x ∈ offered.take 3, examine congested [] x ≠ .admissible) ∧
    (∀ c, (offered.drop 3).head? = some c → examine congested [] c = .admissible) ∧
    examine congested [] ⟨363, 5, .pool⟩ = .refused4 ∧ (∀ x ∈ offered, examine State.reset [] x ≠ .admissible) := by
  refine ⟨by decide, by decide, by decide, fun c h => ?_, by decide, by decide⟩
  cases h
  decide

theorem witness_CandidatesAreOrdered :
    candidatesOf ((congested.bank .a).routeList 12) = offered.take 2 ++ (offered.drop 2).take 3 ++ offered.drop 5 ∧
    (∀ c ∈ offered.take 2, c.kind ≠ .pool) ∧ (∀ c ∈ (offered.drop 2).take 3, c.kind = .pool) ∧
    (∀ c ∈ offered.drop 5, c.kind ≠ .pool) ∧ (congested.bank onPool.bank).dests[onPool.dest]? = some dest0207 ∧
    ((congested.group 341).owner ≠ 0 ∧ (congested.carrier 12).outbound.active = some (rated 900) ∧
      ((rated 900)[congested.clock.band]?).map BandRecord.rate = some 900) ∧
    ((congested.group 100).owner = 0 ∧ (congested.carrier 5).outbound.active = none) := by decide

theorem witness_WalkGrantsFirstAdmissible :
    walking.up = true ∧ walking.routeJob = some { slot := 3, request := routeHalf, stage := .admitted none } ∧
    ((walking.bank walking.plan.active).dests.map Dest.code).Nodup ∧
    (walking.bank walking.plan.active).dests[2]? = some dest0207 ∧
    IsLongestMatch Dest.code ((dialled routeHalf).take 12) (walking.bank walking.plan.active).dests dest0207 ∧
    (walking.bank walking.plan.active).routeList dest0207.routeList ≠ [] ∧ Allocates walking 0 [] ∧
    arrange (rankingRate walking) dest0207.retained
      (candidatesOf ((walking.bank walking.plan.active).routeList dest0207.routeList)) =
      offered.take 3 ++ ⟨352, 4, .pool⟩ :: offered.drop 4 ∧
    (∀ x ∈ offered.take 3, examine walking [] x ≠ .admissible) ∧ examine walking [] ⟨352, 4, .pool⟩ = .admissible := by
  refine ⟨by decide, by decide, by decide, by decide, ?_, by decide, ?_, by decide, by decide, by decide⟩
  · unfold IsLongestMatch
    decide
  · exact .inl ⟨by decide, by decide, fun j hj => absurd hj (Nat.not_lt_zero j), rfl⟩

/-- The machine of 4.8 with every group of the list taken out of service. -/
def refusing : State := { walking with groups := [] }

theorem witness_RefusedWalkCountsExhaustion :
    refusing.up = true ∧ refusing.routeJob = some { slot := 3, request := routeHalf, stage := .admitted none } ∧
    ((refusing.bank refusing.plan.active).dests.map Dest.code).Nodup ∧
    (refusing.bank refusing.plan.active).dests[2]? = some dest0207 ∧
    IsLongestMatch Dest.code ((dialled routeHalf).take 12) (refusing.bank refusing.plan.active).dests dest0207 ∧
    (refusing.bank refusing.plan.active).routeList dest0207.routeList ≠ [] ∧ Allocates refusing 0 [] ∧
    ∀ x ∈ arrange (rankingRate refusing) dest0207.retained
      (candidatesOf ((refusing.bank refusing.plan.active).routeList dest0207.routeList)),
      examine refusing [] x ≠ .admissible := by
  refine ⟨by decide, by decide, by decide, by decide, ?_, by decide, ?_, by decide⟩
  · unfold IsLongestMatch
    decide
  · exact .inl ⟨by decide, by decide, fun j hj => absurd hj (Nat.not_lt_zero j), rfl⟩

/-- Every context CONFIRMED. -/
def fullTable : Table Context := (List.range 16384).map (fun i => (i, ⟨1, .confirmed plainCall⟩))

theorem find_mapped {α : Type} (v : α) (j : Nat) : ∀ l : List Nat, j ∈ l → Table.find (l.map (fun i => (i, v))) j = some v
  | [], h => absurd h List.not_mem_nil
  | i :: l, h => by
    by_cases hi : i = j
    · simp [Table.find, hi]
    · have hl : j ∈ l := by simpa [Ne.symm hi] using h
      simp [Table.find, hi, find_mapped v j l hl]

theorem context_of_find (s : State) (t : Table Context) (j : Nat) (c : Context) (h : Table.find t j = some c) :
    ({ s with contexts := { ContextTable.reset with table := t } } : State).context j = c := by
  show Table.read t Context.reset j = c
  rw [Table.read, h]
  rfl

theorem witness_WalkWithoutRouteOrContext :
    walking.up = true ∧ walking.routeJob = some { slot := 3, request := routeHalf, stage := .admitted none } ∧
    ((walking.bank walking.plan.active).dests.map Dest.code).Nodup ∧
    NoMatch Dest.code ((dialled routeHalf).take 12) ({ walking with plan := PlanStore.reset }.bank .a).dests ∧
    ({ walking with plan := { PlanStore.reset with bankA := { callBank with lists := [] } } }.bank .a).routeList
      dest0207.routeList = [] ∧
    IsLongestMatch Dest.code ((dialled routeHalf).take 12) callBank.dests dest0207 ∧
    (∀ j < 16384, ({ walking with contexts := { ContextTable.reset with table := fullTable } }.context j).state ≠ .free) := by
  refine ⟨by decide, by decide, by decide, ?_, by decide, ?_, fun j hj => ?_⟩
  · unfold NoMatch
    decide
  · unfold IsLongestMatch
    decide
  · have h : Table.find fullTable j = some ⟨1, .confirmed plainCall⟩ := find_mapped _ j _ (List.mem_range.2 hj)
    rw [context_of_find walking fullTable j _ h]
    exact fun hf => nomatch hf

theorem witness_ReportsRenewAndInstall :
    (reporting [] none (some [0, 2, 0, 7])).up = true ∧
    (∀ e ∈ (reporting [] none (some [0, 2, 0, 7])).supervision.gaps, e.code ≠ [0, 2, 0, 7]) ∧
    (reporting [] none (some [0, 2, 0, 7])).supervision.gaps.length < 256 ∧
    (reporting [gap0207] (some [0, 2, 0, 7]) (some [0, 2, 0, 7])).up = true := by decide

/-- A call-handle request with the handle (1, 13, 0). -/
def callHalf (k : Kind) : List Byte := half k handle13

theorem witness_ConfirmKeepsTheSeizure :
    served .confirm (holding (callHalf .confirm) ringing) = some (3, callHalf .confirm) ∧
    reservedClear .confirm (callHalf .confirm) = true ∧
    Names (holding (callHalf .confirm) ringing) (callHalf .confirm) 0 ⟨13, .provisional onPool 5100#32⟩ := by
  unfold Names
  decide

theorem witness_AnswerTakesTermsAndFirstSegment :
    served .answer (holding (callHalf .answer) answering) = some (3, callHalf .answer) ∧
    reservedClear .answer (callHalf .answer) = true ∧
    Names (holding (callHalf .answer) answering) (callHalf .answer) 0 ⟨13, .confirmed { onPool with origin := 5 }⟩ := by
  unfold Names
  decide

theorem witness_ReleaseOfUnansweredCall :
    served .release (holding (callHalf .release) ringing) = some (3, callHalf .release) ∧
    reservedClear .release (callHalf .release) = true ∧
    Names (holding (callHalf .release) ringing) (callHalf .release) 0 ⟨13, .provisional onPool 5100#32⟩ ∧
    served .release (holding (callHalf .release) answering) = some (3, callHalf .release) ∧
    Names (holding (callHalf .release) answering) (callHalf .release) 0 ⟨13, .confirmed { onPool with origin := 5 }⟩ := by
  unfold Names
  decide

theorem witness_ReleasePricesAnsweredCall :
    served .release (holding (callHalf .release) charging) = some (3, callHalf .release) ∧
    reservedClear .release (callHalf .release) = true ∧
    Names (holding (callHalf .release) charging) (callHalf .release) 0
      ⟨13, .answered { onPool with origin := 5 } answeredCall⟩ := by
  unfold Names
  decide

theorem witness_PricingBillsWholeIntervals :
    let t : Terms := ⟨500, 0, 30, 6, 150⟩
    let offsets := [0, 200]
    t.initial ≠ 0 ∧ t.subsequent ≠ 0 ∧ t.surcharge ≤ 500 ∧ 934 ≤ 864000 ∧ offsets ≠ [] ∧ offsets.length = [1200, 650].length ∧
    offsets.head? = some 0 ∧ offsets.Pairwise (· < ·) ∧ ∀ o ∈ offsets, o ≤ 934 := by decide

/-- The machine of 4.8 at its first CRANKBACK, the seizure on 352 returned and its own retained alternate cleared. -/
def returned : State :=
  (returnSeizure 352 (holding (callHalf .crankback) ringing)).setPlan
    (ringing.plan.setBank .a { ringing.bank .a with
      dests := (ringing.bank .a).dests.modify 2 (fun e => if e.retained = some 352 then { e with retained := none } else e) })

theorem witness_CrankbackMovesTheCall :
    served .crankback (holding (callHalf .crankback) ringing) = some (3, callHalf .crankback) ∧
    reservedClear .crankback (callHalf .crankback) = true ∧
    Names (holding (callHalf .crankback) ringing) (callHalf .crankback) 0 ⟨13, .provisional onPool 5100#32⟩ ∧
    onPool.history.length < 4 ∧
    resumedCandidates returned onPool = [⟨363, 5, .pool⟩] ++ ⟨400, 6, .overflow⟩ :: [] ∧
    (∀ x ∈ [(⟨363, 5, .pool⟩ : Candidate)], examine returned onPool.history x ≠ .admissible) ∧
    examine returned onPool.history ⟨400, 6, .overflow⟩ = .admissible := by
  unfold Names
  decide

/-- The call with four groups tried. -/
def triedFour : Call := { onPool with history := [100, 110, 341, 352] }

theorem witness_CrankbackEndsTheCall :
    (let s := holding (callHalf .crankback) { ringing with
        contexts := { ContextTable.reset with table := [(0, ⟨13, .provisional triedFour 5100#32⟩)] } }
     served .crankback s = some (3, callHalf .crankback) ∧ reservedClear .crankback (callHalf .crankback) = true ∧
       Names s (callHalf .crankback) 0 ⟨13, .provisional triedFour 5100#32⟩ ∧ 4 ≤ triedFour.history.length) ∧
    (let s := holding (callHalf .crankback) { ringing with
        contexts := { ContextTable.reset with table := [(0, ⟨13, .provisional { onPool with step := 6 } 5100#32⟩)] } }
     served .crankback s = some (3, callHalf .crankback) ∧
       Names s (callHalf .crankback) 0 ⟨13, .provisional { onPool with step := 6 } 5100#32⟩ ∧
       resumedCandidates returned { onPool with step := 6 } = []) := by
  unfold Names
  decide

theorem witness_QueryCallChangesNothing :
    (let s := holding (callHalf .queryCall) charging
     served .queryCall s = some (3, callHalf .queryCall) ∧ reservedClear .queryCall (callHalf .queryCall) = true ∧
       Names s (callHalf .queryCall) 0 ⟨13, .answered { onPool with origin := 5 } answeredCall⟩ ∧
       (CallState.answered { onPool with origin := 5 } answeredCall).call? = some { onPool with origin := 5 }) ∧
    (let s := holding (callHalf .queryCall) State.reset
     served .queryCall s = some (3, callHalf .queryCall) ∧
       ∀ i c call, Names s (callHalf .queryCall) i c → c.state.call? ≠ some call) := by
  refine ⟨by unfold Names; decide, by decide, fun i c call h => ?_⟩
  obtain ⟨_, _, _, _, hc⟩ := h
  have h0 : c = Context.reset := by rw [← hc]; rfl
  subst h0
  exact fun h => nomatch (show none = some call from h)

theorem witness_HandlesOfOtherStates :
    (let s := holding (callHalf .confirm) State.reset
     served .confirm s = some (3, callHalf .confirm) ∧ reservedClear .confirm (callHalf .confirm) = true ∧
       (s.context (handleOf (callHalf .confirm)).index).state = .free) ∧
    (let s := holding (callHalf .confirm) answering
     served .confirm s = some (3, callHalf .confirm) ∧
       Names s (callHalf .confirm) 0 ⟨13, .confirmed { onPool with origin := 5 }⟩) ∧
    (let s := holding (half .release handle12) expiring
     served .release s = some (3, half .release handle12) ∧ reservedClear .release (half .release handle12) = true ∧
       Names s (half .release handle12) 12 ⟨9, .expired plainCall 250#32⟩) := by
  unfold Names
  decide

theorem witness_CallTimersTrimTheExpiredList :
    let req := half .setCallTimers [⟨8, 2, 301⟩, ⟨10, 2, 1⟩]
    served .setCallTimers (holding req expiring) = some (3, req) ∧ reservedClear .setCallTimers req = true ∧
    (holding req expiring).contexts.expired.Nodup ∧
    reservedClear .setCallTimers (half .setCallTimers [⟨12, 1, 1⟩]) = false := by decide

theorem witness_DueEventsAreTaken :
    (let s := { expiring with contexts := { expiring.contexts with limit := 3 } }
     s.up = true ∧ s.context 13 = ⟨1, .provisional plainCall 260#32⟩ ∧ (s.now - 260#32).toNat < 2 ^ 31 ∧
       13 ∉ s.contexts.expired ∧ s.contexts.expired.length < s.contexts.limit) ∧
    (expiring.contexts.expired.length = expiring.contexts.limit ∧ 13 ∉ expiring.contexts.expired ∧
      (expiring.now - 260#32).toNat < 2 ^ 31) ∧
    (let s := { expiring with contexts := { expiring.contexts with expired := [], limit := 0 } }
     s.up = true ∧ s.context 13 = ⟨1, .provisional plainCall 260#32⟩ ∧ 13 ∉ s.contexts.expired) ∧
    2 ^ 31 ≤ ((atTick 259 expiring).now - 260#32).toNat ∧
    (charging.up = true ∧ charging.context 0 = ⟨13, .answered { onPool with origin := 5 } answeredCall⟩) ∧
    ((gapped 1015 gap0207).up = true ∧ (Instr.gapEntryLapse gap0207.code).wellFormed = true ∧
      (gapped 1015 gap0207).supervision.gaps = [] ++ gap0207 :: []) := by decide

theorem witness_SetGroupStoresTheConfiguration :
    (let req := half .setGroup [⟨8, 2, 1024⟩]
     served .setGroup (holding req with517) = some (3, req) ∧ reservedClear .setGroup req = true ∧ 1023 < readLE req 8 2) ∧
    (let req := half .setGroup [⟨8, 2, 517⟩, ⟨11, 1, 14⟩]
     served .setGroup (holding req with517) = some (3, req) ∧ byteAt req 11 ≠ ((holding req with517).group 517).owner ∧
       0 < ((holding req with517).group 517).busy) ∧
    (let req := half .setGroup [⟨8, 2, 1023⟩, ⟨10, 1, 1⟩, ⟨11, 1, 14⟩]
     served .setGroup (holding req with517) = some (3, req) ∧ readLE req 8 2 ≤ 1023 ∧ byteAt req 10 ≤ 1 ∧
       ((holding req with517).group 1023).busy = 0) := by decide

theorem witness_BlockingMovesTheBlockedCount :
    (let req := half .blockCircuits [⟨8, 2, 1023⟩, ⟨10, 2, 65535⟩]
     served .blockCircuits (holding req with517) = some (3, req) ∧ reservedClear .blockCircuits req = true ∧
       readLE req 8 2 ≤ 1023) ∧
    (let req := half .unblockCircuits [⟨8, 2, 1024⟩]
     served .unblockCircuits (holding req with517) = some (3, req) ∧ reservedClear .unblockCircuits req = true ∧
       1023 < readLE req 8 2) ∧
    (let req := half .blockCircuits [⟨12, 1, 1⟩]
     served .blockCircuits (holding req with517) = some (3, req) ∧ reservedClear .blockCircuits req = false) := by decide

theorem witness_SettingsAreClampedAndStored :
    (let req := half .setSupervision [⟨8, 1, 61⟩]
     served .setSupervision (holding req with517) = some (3, req) ∧ reservedClear .setSupervision req = true) ∧
    (let req := half .setCarrier [⟨8, 1, 255⟩, ⟨9, 1, 1⟩]
     served .setCarrier (holding req with517) = some (3, req) ∧ reservedClear .setCarrier req = true ∧ byteAt req 8 ≠ 0 ∧
       byteAt req 9 ≤ 1) ∧
    (let req := half .setCarrier [⟨8, 1, 0⟩]
     served .setCarrier (holding req with517) = some (3, req) ∧ byteAt req 8 = 0) := by decide

/-- A gap table of 256 entries. -/
def fullGaps : List GapEntry := (List.range 256).map (fun i => { gap0207 with code := [i / 100, i / 10 % 10, i % 10] })

theorem witness_SetGapMakesOrReplaces :
    (let req := half .setGap (digits [0, 2, 0, 7])
     served .setGap (holding req (gapped 1040 gap0207)) = some (3, req) ∧ reservedClear .setGap req = true ∧
       byteFields req 16 (byteAt req 8) = gap0207.code ∧ 1 ≤ byteAt req 8 ∧ byteAt req 8 ≤ 12 ∧
       (gapped 1040 gap0207).supervision.gaps = [] ++ gap0207 :: []) ∧
    (let req := half .setGap (digits [0, 2])
     served .setGap (holding req (gapped 1040 gap0207)) = some (3, req) ∧
       (∀ e ∈ (gapped 1040 gap0207).supervision.gaps, e.code ≠ byteFields req 16 (byteAt req 8))) ∧
    (let req := half .setGap (digits (List.replicate 13 1))
     served .setGap (holding req (gapped 1040 gap0207)) = some (3, req) ∧ 12 < byteAt req 8) := by decide

theorem witness_SetGap_full :
    let s := { State.reset with supervision := { Supervision.reset with gaps := fullGaps } }
    256 ≤ s.supervision.gaps.length ∧ ∀ e ∈ s.supervision.gaps, e.code ≠ [0, 2, 0, 7] := by
  refine ⟨by simp [fullGaps], fun e he => ?_⟩
  obtain ⟨i, _, rfl⟩ := List.mem_map.1 he
  simp

theorem witness_ClearGapRemovesTheExactCode :
    (let req := half .clearGap (digits [0, 2, 0, 7])
     served .clearGap (holding req (gapped 1200 gap0207)) = some (3, req) ∧ reservedClear .clearGap req = true ∧
       byteFields req 16 (byteAt req 8) = gap0207.code ∧ (gapped 1200 gap0207).supervision.gaps = [] ++ gap0207 :: []) ∧
    (let req := half .clearGap (digits (List.replicate 12 9))
     served .clearGap (holding req (gapped 1200 gap0207)) = some (3, req) ∧ reservedClear .clearGap req = true ∧
       byteAt req 8 ≤ 12 ∧ (∀ e ∈ (gapped 1200 gap0207).supervision.gaps, e.code ≠ byteFields req 16 (byteAt req 8))) ∧
    (let req := half .clearGap [⟨10, 1, 1⟩]
     served .clearGap (holding req (gapped 1200 gap0207)) = some (3, req) ∧ reservedClear .clearGap req = false) := by decide

/-- The machine at the end tick of its period, in an engine state. -/
def periodOver (e : Engine) : State := inEngine e (atTick 50 with517)

theorem witness_PeriodEndJudgesEveryGroup :
    (periodOver .halted).up = true ∧
    ((periodOver .halted).now - (periodOver .halted).supervision.periodEnd).toNat < 2 ^ 31 := by decide

/-- The machine at the one burst of a transfer of a requester. -/
def carrying (r : Requester) (t : Transfer) (s : State) : State :=
  s.setPort { Port.reset.setQueue r [t] with serving := some r }

/-- A mirror write that a bus error ends leaves the odd generation count in memory: its opening write has reached it, its
closing write has not (R163, R164). -/
theorem test_burst_failed_generation :
    let failed (p : Purpose) (g : Byte) : State := nextOf (exec (.memoryBurstDone (.busError 0))
      (carrying .mirror ⟨p, true, 12288#32, 4, [g, 0#8, 0#8, 0#8], some 64⟩ (running.setMirror ⟨g.setWidth 32, some []⟩)))
    (Memory.byte (failed .mirrorOpen 1#8).mem 12288, Memory.byte (failed .mirrorClose 2#8).mem 12288) =
      (some 1#8, none) := by decide

theorem witness_PeriodEndSnapshotsTheMirror :
    midnight.backup.calendar.Legal ∧
    ((periodOver .running).up = true ∧ (periodOver .running).regs.engine = .running ∧
      (periodOver .running).mirror.marks = none ∧
      ((periodOver .running).now - (periodOver .running).supervision.periodEnd).toNat < 2 ^ 31 ∧
      (∃ u, exec .periodEnd (periodOver .running) = .next u) ∧
      (∃ u, exec .periodEnd ((periodOver .running).setMirror ⟨1#32, some [517]⟩) = .next u)) ∧
    (∀ p ∈ [Purpose.mirrorOpen, .mirrorBody, .mirrorClose],
      let t : Transfer := ⟨p, true, 12288#32, 4, [1#8, 0#8, 0#8, 0#8], some 64⟩
      let s := carrying .mirror t (State.reset.setMirror ⟨1#32, some [517]⟩)
      Completes s .mirror t [] [] ∧ t.write = true ∧ s.mirror.marks = some [517]) := by
  refine ⟨by unfold Calendar.Legal; decide, ⟨by decide, by decide, by decide, by decide, ⟨_, rfl⟩, ⟨_, rfl⟩⟩, ?_⟩
  unfold Completes
  decide

theorem witness_BankLoadsQueueAndBegin :
    (let req := half .loadDestinations [⟨8, 1, 1⟩, ⟨9, 1, 1⟩, ⟨10, 2, 256⟩, ⟨12, 4, 4096⟩]
     served .loadDestinations (holding req congested) = some (3, req) ∧ reservedClear .loadDestinations req = true ∧
       readLE req 12 4 % 8 = 0) ∧
    (let req := half .setHolidays [⟨8, 1, 1⟩, ⟨10, 2, 0⟩]
     served .setHolidays (holding req congested) = some (3, req) ∧ reservedClear .setHolidays req = true) ∧
    (let req := half .loadRouteLists [⟨10, 2, 257⟩]
     served .loadRouteLists (holding req congested) = some (3, req) ∧ reservedClear .loadRouteLists req = true) ∧
    (let req := half .setBandMap [⟨12, 4, 4⟩]
     served .setBandMap (holding req congested) = some (3, req) ∧ readLE req 12 4 % 8 ≠ 0) ∧
    ((queued .bandMap .a 0 144).up = true ∧ (queued .bandMap .a 0 144).plan.headBegun = false ∧
     (queued .routeLists .b 8 2).plan.queue ≠ [] ∧ ((queued .routeLists .b 8 2).bank .b).provisional = 0 ∧
     (queued .holidays .b 8 0).up = true ∧
     (nextOf (exec .bankLoadHead (queued .routeLists .b 8 2))).plan.headBegun = true ∧
     0 < ((queued .bandMap .b 0 144).setPlan { (queued .bandMap .b 0 144).plan with
       bankB := { BankData.empty with provisional := 1 } } |>.bank .b).provisional) := by decide

/-- The block read of a queued load, at its one burst. -/
def reading (kind : LoadKind) (count : Nat) : State := nextOf (exec .bankLoadHead (queued kind .b 8 count))

/-- A holiday record: 25 December. -/
def christmas : List Byte := [12#8, 25#8, 0#8, 0#8]

theorem witness_LoadBlockIsValidatedAndApplied :
    (let t : Transfer := ⟨.loadBlock, false, 8#32, 4, [], some 64⟩
     Completes (reading .holidays 1) .plan t [] christmas ∧ t.write = false ∧ t.purpose = .loadBlock ∧
       (reading .holidays 1).plan.queue = [⟨3, half .setHolidays [], .holidays, .b, 8#32, 1⟩] ∧
       (∀ r ∈ recordsOf 4 1 ([] ++ christmas), badHoliday r = none)) ∧
    (let t : Transfer := ⟨.loadBlock, false, 8#32, 16, [], some 64⟩
     let record := layOut 0 16 [⟨0, 1, 2⟩, ⟨2, 2, 7⟩, ⟨4, 1, 0⟩, ⟨5, 1, 2⟩]
     Completes (reading (.destinations .merge) 1) .plan t [] record ∧
       ((reading (.destinations .merge) 1).bank .b).dests = [] ∧
       (∀ r ∈ recordsOf 16 1 ([] ++ record), badDestination r = none)) ∧
    (let t : Transfer := ⟨.loadBlock, false, 8#32, 32, [], some 64⟩
     let record := layOut 0 32 [⟨0, 2, 7⟩, ⟨2, 1, 9⟩]
     Completes (reading .routeLists 1) .plan t [] record ∧ (recordsOf 32 1 ([] ++ record))[0]? = some record ∧
       badRouteList record = some .format ∧ Table.canonical ((reading .routeLists 1).bank .b).lists [] = true) := by
  unfold Completes
  decide

theorem witness_RecordsAreReadAndChecked :
    badDestination (layOut 0 16 [⟨0, 1, 12⟩, ⟨2, 2, 2047⟩]) = none ∧
    badDestination (layOut 0 16 [⟨0, 1, 13⟩]) = some .range ∧ badDestination (layOut 0 16 [⟨1, 1, 1⟩]) = some .format ∧
    badRouteList (layOut 0 32 [⟨0, 2, 2047⟩, ⟨2, 1, 2⟩, ⟨8, 2, 1023⟩, ⟨10, 1, 3⟩, ⟨13, 1, 3⟩]) = none ∧
    badRouteList (layOut 0 32 [⟨2, 1, 3⟩, ⟨8, 2, 1⟩, ⟨10, 1, 3⟩, ⟨11, 2, 2⟩, ⟨13, 1, 2⟩, ⟨14, 2, 3⟩, ⟨16, 1, 3⟩]) = some .format ∧
    badRouteList (layOut 0 32 [⟨2, 1, 1⟩, ⟨8, 2, 1024⟩, ⟨10, 1, 1⟩]) = some .range ∧
    badCell [7#8] = none ∧ badCell [8#8] = some .range ∧ badCell [16#8] = some .format ∧
    badHoliday [12#8, 31#8, 0#8, 0#8] = none ∧ badHoliday [13#8, 1#8, 0#8, 0#8] = some .range := by decide

theorem witness_SwitchPlanExchangesTheBanks :
    let req := half .switchPlan []
    served .switchPlan (holding req congested) = some (3, req) ∧ reservedClear .switchPlan req = true ∧
    (holding req congested).plan.queue = [] ∧ (holding req (queued .bandMap .b 0 144)).plan.queue ≠ [] := by decide

theorem witness_CalendarIsSetOrAligned :
    (let req := half .setCalendar [⟨8, 1, 99⟩, ⟨9, 1, 12⟩, ⟨10, 1, 31⟩, ⟨11, 1, 6⟩, ⟨12, 1, 23⟩, ⟨13, 1, 59⟩, ⟨14, 1, 59⟩]
     served .setCalendar (holding req midnight) = some (3, req) ∧ reservedClear .setCalendar req = true) ∧
    (let req := half .setCalendar [⟨9, 1, 13⟩]
     served .setCalendar (holding req midnight) = some (3, req) ∧ reservedClear .setCalendar req = true) ∧
    (let req := half .alignMinute []
     served .alignMinute (holding req midnight) = some (3, req) ∧ reservedClear .alignMinute req = true ∧
       (holding req midnight).backup.clockSet = true ∧ (holding req midnight).backup.calendar.Legal ∧
       (holding req midnight).Canonical ∧ (holding req State.reset).backup.clockSet = false) := by
  refine ⟨by decide, by decide, by decide, by decide, by decide, by unfold Calendar.Legal; decide, ?_, by decide⟩
  exact ⟨by decide, by decide, by decide, by decide, by decide, fun k => by cases k <;> decide⟩

theorem witness_TenthAdvanceCarriesTheCalendar :
    midnight.up = true ∧ 800 ≤ midnight.clock.calDivider ∧ midnight.backup.clockSet = true ∧ midnight.backup.calendar.Legal ∧
    midnight.backup.calendar.tenths % 18000 = 17999 ∧ midnight.backup.calendar.tenth = 9 ∧
    (let s := { midnight with power := ⟨true, false, some .soft⟩ }
     s.up = false ∧ s.power.main = true ∧ s.power.reset = some .soft) ∧
    ((⟨25, 2, 30, 0, 23, 59, 59, 9⟩ : Calendar).Legal ∧ (⟨25, 2, 30, 0, 23, 59, 59, 9⟩ : Calendar).tenths = 863999) := by
  unfold Calendar.Legal
  decide

theorem witness_SlotsRunTheDividersAndTheMonitor :
    (State.reset.up = true ∧ State.reset.clock.tickDivider < 800 ∧ State.reset.clock.calDivider < 800 ∧
      State.reset.clock.reference = .freeRunning ∧ State.reset.clock.presentRun < 64) ∧
    (let s := { State.reset with clock := { ClockUnit.reset with reference := .locked, missingRun := 8 } }
     s.up = true ∧ s.clock.reference = .locked ∧ 8 ≤ s.clock.missingRun) ∧
    (let s := { State.reset with clock := { ClockUnit.reset with presentRun := 64 } }
     s.up = true ∧ s.clock.reference = .freeRunning ∧ 64 ≤ s.clock.presentRun) ∧
    (let s := { midnight with power := ⟨true, false, some .soft⟩ }
     s.up = false ∧ s.power.main = true ∧ s.power.reset = some .soft ∧ 800 ≤ s.clock.calDivider) ∧
    (let s := { State.reset with power := ⟨true, true, some .line⟩ }
     s.up = false ∧ s.power.reset = some .line ∧ s.clock.calDivider < 800) ∧
    ({ State.reset with power := ⟨true, false, some .power⟩ }.up = false ∧
      { State.reset with power := ⟨false, false, none⟩ }.up = false) := by decide

/-- The machine with its tick advance due and one gap entry counting down. -/
def ticking : State := { gapped 1015 gap0207 with clock := { ClockUnit.reset with tick := 1015#32, tickDivider := 800 } }

theorem witness_TickAdvanceRaisesTheCounter :
    ticking.up = true ∧ 800 ≤ ticking.clock.tickDivider ∧ (∀ e ∈ ticking.supervision.gaps, e.lapsed = false) ∧
    (∀ k d p, ((ticking.carrier k).tariffs d).pending = some p → p.handed = false) ∧
    (∀ i call deadline, (ticking.context i).state = .provisional call deadline → 2 ^ 31 ≤ (ticking.now - deadline).toNat) ∧
    (∀ i call a, (ticking.context i).state = .answered call a →
      a.long = true ∨ 2 ^ 31 ≤ (ticking.now - (a.tick + 864000#32)).toNat) ∧
    2 ^ 31 ≤ (ticking.now - ticking.supervision.periodEnd).toNat ∧
    (let s := duePlanned.setClock { duePlanned.clock with tickDivider := 800 }
     s.up = true ∧ s.supervision.Legal ∧ s.Conserved ∧ s.CallsLegal ∧ s.TariffsLegal ∧
       (s.context 13).state = .provisional plainCall 260#32 ∧ (s.now - 260#32).toNat < 2 ^ 31) := by
  refine ⟨by decide, by decide, by decide, fun k d p h => ?_, fun i call deadline h => ?_, fun i call a h => ?_, by decide,
    by decide, ⟨by decide, by decide, by decide, by decide, by decide, by decide, by decide,
      fun e he => absurd (show e ∈ ([] : List GapEntry) from he) List.not_mem_nil⟩,
    duePlanned_conserved, duePlanned_callsLegal, ⟨fun k d set h => ?_, fun k d p h => ?_,
      fun _ _ h => nomatch (show none = some _ from h)⟩, by decide, by decide⟩
  · have h0 : ticking.carrier k = Carrier.reset := rfl
    rw [h0] at h
    cases d <;> exact nomatch (show none = some p from h)
  · have h0 : ticking.context i = Context.reset := rfl
    rw [h0] at h
    exact absurd h (by simp [Context.reset])
  · have h0 : ticking.context i = Context.reset := rfl
    rw [h0] at h
    exact absurd h (by simp [Context.reset])
  · cases d <;> exact nomatch (show none = some set from h)
  · cases d <;> exact nomatch (show none = some p from h)

theorem witness_LoadTariffChecksAndBegins :
    (let req := half .loadTariff [⟨8, 1, 255⟩, ⟨9, 1, 1⟩, ⟨10, 1, 1⟩, ⟨16, 1, 99⟩, ⟨17, 1, 12⟩, ⟨18, 1, 31⟩, ⟨19, 1, 23⟩,
       ⟨20, 1, 59⟩, ⟨21, 1, 59⟩]
     served .loadTariff (holding req midnight) = some (3, req) ∧ reservedClear .loadTariff req = true ∧
       readLE req 12 4 % 8 = 0 ∧ midnight.backup.clockSet = true) ∧
    (let req := half .loadTariff [⟨8, 1, 0⟩]
     served .loadTariff (holding req midnight) = some (3, req) ∧ reservedClear .loadTariff req = true ∧ byteAt req 8 < 1) ∧
    (let req := half .loadTariff [⟨12, 4, 4⟩]
     served .loadTariff (holding req midnight) = some (3, req) ∧ readLE req 12 4 % 8 ≠ 0) := by decide

/-- The machine at the last 64-byte burst of carrier 5's inbound tariff block, `data` read before it. -/
def lastTariffBurst (data : List Byte) (s : State) : State :=
  { s with
    carrierJob := some (.tariff 3 (half .loadTariff [⟨8, 1, 5⟩]))
    port := { Port.reset with carrier := [⟨.tariffBlock, false, 192#32, 64, data, some 64⟩], serving := some .carrier } }

theorem witness_TariffBlockIsAppliedOrHeld :
    let t : Transfer := ⟨.tariffBlock, false, 192#32, 64, List.replicate 192 0#8, some 64⟩
    let data := List.replicate 64 0#8
    let s := lastTariffBurst t.data midnight
    Completes s .carrier t [] data ∧ t.write = false ∧ t.purpose = .tariffBlock ∧
    s.carrierJob = some (.tariff 3 (half .loadTariff [⟨8, 1, 5⟩])) ∧
    (∀ r ∈ recordsOf 32 8 (t.data ++ data), ¬ ∃ i < 14, byteAt r (18 + i) ≠ 0) := by
  refine ⟨⟨by decide, rfl, by decide, by simp, by simp⟩, rfl, rfl, rfl, ?_⟩
  decide +kernel

theorem witness_PendingSetsAreActivatedOrCancelled :
    (handing.up = true ∧ (((handing.carrier 5).tariffs .inbound).pending.map PendingSet.handed) = some true ∧
      (((midnight.carrier 255).tariffs .inbound).pending) = none ∧ midnight.up = true) ∧
    (let req := half .cancelTariff [⟨8, 1, 5⟩]
     served .cancelTariff (holding req midnight) = some (3, req) ∧ reservedClear .cancelTariff req = true ∧
       (((midnight.carrier 5).tariffs .inbound).pending.map PendingSet.handed) = some false ∧
       served .cancelTariff (holding req handing) = some (3, req) ∧
       (((handing.carrier 5).tariffs .inbound).pending.map PendingSet.handed) = some true) ∧
    (let req := half .cancelTariff [⟨8, 1, 255⟩, ⟨9, 1, 1⟩]
     served .cancelTariff (holding req midnight) = some (3, req) ∧ reservedClear .cancelTariff req = true ∧
       ((midnight.carrier 255).tariffs .outbound).pending = none) ∧
    (let req := half .cancelTariff [⟨8, 1, 1⟩, ⟨9, 1, 2⟩]
     served .cancelTariff (holding req midnight) = some (3, req) ∧ 1 < byteAt req 9) := by decide

theorem witness_ClosePeriodTakesTheSums :
    (let req := half .closePeriod [⟨9, 1, 14⟩]
     served .closePeriod (holding req owing) = some (3, req) ∧ reservedClear .closePeriod req = true ∧ byteAt req 8 = 0 ∧
       byteAt req 9 ≠ 0) ∧
    (let req := half .closePeriod [⟨8, 1, 1⟩, ⟨12, 4, 8192⟩]
     served .closePeriod (holding req owing) = some (3, req) ∧ reservedClear .closePeriod req = true ∧ byteAt req 8 = 1 ∧
       readLE req 12 4 % 8 = 0 ∧ (holding req owing).Canonical) ∧
    (let t : Transfer := ⟨.resultBlock, true, 8192#32, 2, [0#8, 0#8], some 64⟩
     let s := { carrying .carrier t owing with
       carrierJob := some (.close 3 [] 9#32)
       backup := { owing.backup with closeRecord := some ⟨.all 8192#32, []⟩ } }
     Completes s .carrier t [] [] ∧ t.write = true ∧ s.carrierJob = some (.close 3 [] 9#32)) ∧
    (let req := half .closePeriod [⟨8, 1, 2⟩]
     served .closePeriod (holding req owing) = some (3, req) ∧ 1 < byteAt req 8) := by
  refine ⟨by decide, ⟨by decide, by decide, by decide, by decide, ?_⟩, ?_, by decide⟩
  · exact ⟨by decide, by decide, by decide, by decide, by decide, fun k => by cases k <;> decide⟩
  · unfold Completes
    decide

theorem witness_RunBitDrivesTheEngine :
    (running.up = true ∧ running.regs.engine = .running) ∧
    (State.reset.regs.engine = .halted ∧ State.reset.intake.sweep.owed = true ∧ State.reset.intake.sweep.active = false ∧
      State.reset.intake.sweep.next < 2 ^ State.reset.regs.sizeExp) ∧
    ((inEngine .draining running).regs.engine = .draining ∧ (inEngine .draining running).intake.sweep.owed = false) ∧
    (let s := inEngine .faulted { answeringSlot with
       intake := { answeringSlot.intake with writing := false }, port := Port.reset }
     s.up = true ∧ s.regs.engine = .faulted ∧ s.intake.sweep.owed = false ∧ s.intake.sweep.active = false ∧
       s.intake.writing = false ∧ s.intake.formed = [3] ∧ (s.intake.answerOf 3).isSome = true) ∧
    (let s := inEngine .faulted (running.setIntake { running.intake with inHand := [⟨5, .unread⟩] })
     s.regs.engine = .faulted ∧ s.intake.formed = [] ∧ s.intake.inHand = [⟨5, .unread⟩]) ∧
    (let s := inEngine .faulted running
     s.intake.formed = [] ∧ s.intake.inHand = [] ∧ s.intake.passDue = false ∧ s.intake.pass = none ∧
       s.intake.resume < 2 ^ s.regs.sizeExp) ∧
    (let s := inEngine .faulted State.reset
     s.up = true ∧ s.intake.sweep.owed = true ∧ s.intake.sweep.active = false ∧ s.intake.sweep.next < 2 ^ s.regs.sizeExp) ∧
    (let s := inEngine .draining (State.reset.setIntake { Intake.reset with sweep := ⟨true, 7, true, []⟩ })
     s.regs.engine = .draining ∧ s.intake.sweep.owed = true ∧ s.intake.sweep.active = true) := by decide

theorem witness_RegisterWritesAndReads :
    State.reset.up = true ∧ State.reset.regs.Legal ∧ State.reset.regs.engine = .halted ∧ running.regs.engine ≠ .halted ∧
    { State.reset with power := ⟨true, false, some .soft⟩ }.up = false := by
  unfold Regs.Legal
  decide

theorem witness_AttentionDrivesTheLine :
    attending.up = true ∧ attending.regs.pulse = false ∧ attending.regs.attention .events = true ∧
    attending.regs.attention .fault = false ∧ (attending.setRegs { attending.regs with pulse := true }).regs.pulse = true := by
  decide

theorem witness_ScanPassesStart :
    running.up = true ∧ running.intake.timer ≠ none ∧ running.regs.engine = .running ∧ running.intake.sweep.active = false ∧
    running.intake.pass = none ∧ running.intake.recovery = none ∧ running.intake.resume < 2 ^ running.regs.sizeExp ∧
    scanning.intake.pass ≠ none ∧ scanning.intake.timer ≠ none ∧ State.reset.regs.engine ≠ .running := by decide

theorem witness_WarmStartsKeepTheBackupDomain :
    owing.backup.Legal ∧ owing.backup.marker = true ∧ owing.up = true ∧ owing.power.main = true := by
  refine ⟨⟨by decide, fun k => ?_, fun r (hr : none = some r) => (nomatch hr), by decide, by decide⟩, by decide, by decide, by decide⟩
  have h : Table.read owing.backup.settlements Settlement.zero k =
      if 14 = k then ⟨{ Sums.zero with payable := 53961, outCount := 14 }, 1⟩ else Settlement.zero := read_one 14 k _ _
  rw [h]
  split <;> unfold Sums.Legal <;> decide

theorem witness_ColdStartsAndSupplies :
    { owing.backup with marker := false }.marker = false ∧ { owing with power := ⟨false, false, none⟩ }.power.main = false ∧
    owing.power.main = true ∧ midnight.backup.marker = true ∧ midnight.backup.clockSet = true ∧
    owing.backup.clockSet = false := by decide

theorem witness_ResetsEnd :
    (let s := { State.reset with power := ⟨true, true, some .power⟩ }
     s.power.main = true ∧ s.power.line = true ∧ s.power.reset = some .power) ∧
    (let s := { State.reset with power := ⟨true, false, some .soft⟩, regs := Regs.reset .warm }
     s.power.line = false ∧ s.power.reset = some .soft ∧ (s.bank s.plan.active).bandMap = []) ∧
    (let s := { State.reset with power := ⟨true, true, some .line⟩ }
     s.power.reset = some .line ∧ (s.bank s.plan.active).bandMap = []) ∧ State.reset.power.reset = none := by decide

theorem witness_BurstsMoveTransfers :
    (let t : Transfer := ⟨.answered 3, true, 3#32, 1, [3#8], some 64⟩
     answeringSlot.port.serving = some .intake ∧ answeringSlot.port.queue .intake = t :: [] ∧ t.write = true ∧
       t.data.length = t.left ∧ t.burstLength ≤ 128 ∧ t.burstLength = t.left ∧
       answeringSlot.intake.isCloseOk 3 = false) ∧
    (let s := nextOf (asked .loadTariff [⟨8, 1, 5⟩, ⟨12, 4, 0x2000⟩] State.reset)
     let t : Transfer := ⟨.tariffBlock, false, 0x2000#32, 256, [], some 64⟩
     s.port.serving = some .carrier ∧ s.port.queue .carrier = t :: [] ∧ t.write = false ∧ t.burstLength = 64 ∧
       t.burstLength < t.left) := by decide

/-- A pass of 64 slots that has reached slot 5 and is taking it, with one code held, or without taking one. -/
def passing (taking : Option Nat) : State :=
  running.setIntake { running.intake with pass := some ⟨6, 58, [1#8], taking⟩, inHand := [⟨5, .unread⟩] }

theorem witness_TransfersCarryRequestsThrough :
    (let t : Transfer := ⟨.strip 6, false, 6#32, 2, [], some 64⟩
     Completes (carrying .intake t (passing none)) .intake t [] [0#8, 1#8] ∧
       (carrying .intake t (passing none)).intake.pass = some ⟨6, 58, [1#8], none⟩ ∧ 6 < 2 ^ running.regs.sizeExp) ∧
    (let t : Transfer := ⟨.taken 5, true, 5#32, 1, [2#8], some 64⟩
     Completes (carrying .intake t (passing (some 5))) .intake t [] []) ∧
    (let t : Transfer := ⟨.requestHalf 5, false, 4736#32, 2, [], some 64⟩
     Completes (carrying .intake t (passing (some 5))) .intake t [] [1#8, 0#8] ∧ kindOf [1#8, 0#8] = some .route ∧
       kindOf [0xFF#8] = none ∧ (passing (some 5)).intake.pass = some ⟨6, 58, [1#8], some 5⟩ ∧
       running.intake.pass = none) ∧
    (let t : Transfer := ⟨.answerHalf 5, true, 4800#32, 2, [0#8, 0#8], some 64⟩
     Completes (carrying .intake t (passing none)) .intake t [] []) ∧
    (let t : Transfer := ⟨.answered 3, true, 3#32, 1, [3#8], some 64⟩
     let with5 (p : Phase) (k : Intake) : Intake := { k with inHand := k.inHand ++ [⟨5, p⟩] }
     let two := answeringSlot.setIntake { with5 (.answerFormed [] [7#8]) answeringSlot.intake with formed := [3, 5] }
     let last := answeringSlot.setIntake { answeringSlot.intake with recovery := some (.answers 1), passDue := true }
     let unread := answeringSlot.setIntake { with5 .unread answeringSlot.intake with recovery := some (.answers 1) }
     (∀ s ∈ [two, inEngine .draining two, answeringSlot, inEngine .draining answeringSlot, last, unread],
       Completes s .intake t [] [] ∧ (s.regs.engine = .running ∨ s.regs.engine = .draining)) ∧
     (∀ s ∈ [two, inEngine .draining two], s.intake.recovery = none ∧ s.intake.sweep.active = false ∧
       s.intake.formed = 3 :: 5 :: [] ∧ s.intake.answerOf 5 = some [7#8]) ∧
     (∀ s ∈ [answeringSlot, inEngine .draining answeringSlot, last, unread],
       s.intake.sweep.active = false ∧ s.intake.formed = [3]) ∧
     (last.intake.pass = none ∧ last.intake.resume < 2 ^ last.regs.sizeExp ∧
       last.intake.inHand.filter (fun e => decide (e.slot ≠ 3)) = []) ∧
     unread.intake.inHand.filter (fun e => decide (e.slot ≠ 3)) = [⟨5, .unread⟩]) := by
  unfold Completes
  decide

/-- The machine in its abort sweep at slot 9. -/
def sweeping (e : Engine) : State :=
  inEngine e (State.reset.setIntake { Intake.reset with sweep := ⟨true, 9, true, [2#8]⟩ })

theorem witness_SweepAnswersTakenSlots :
    (sweeping .running).regs.engine = .running ∧ (sweeping .draining).regs.engine = .draining ∧
    (sweeping .running).intake.formed = [] ∧ (sweeping .running).intake.recovery = none ∧
    (let t : Transfer := ⟨.sweepStrip, false, 9#32, 2, [], some 64⟩
     Completes (carrying .intake t (sweeping .running)) .intake t [] [0#8, 2#8]) ∧
    (let t : Transfer := ⟨.sweepHeader, false, 5248#32, 2, [], some 64⟩
     Completes (carrying .intake t (sweeping .running)) .intake t [] [1#8, 0#8]) ∧
    (∀ p ∈ [Purpose.sweepAnswer, .sweepAnswered],
      let t : Transfer := ⟨p, true, 9#32, 1, [3#8], some 64⟩
      Completes (carrying .intake t (sweeping .draining)) .intake t [] []) := by
  unfold Completes
  decide

theorem witness_BusErrorsFaultTheEngine :
    (scanning.port.serving = some .intake ∧
      scanning.port.queue .intake = (⟨.strip 0, false, 0#32, 64, [], some 64⟩ : Transfer) :: [] ∧
      7 < beatCount (0#32).toNat (Transfer.burstLength ⟨.strip 0, false, 0#32, 64, [], some 64⟩) ∧
      (scanning.intake.pass.map Pass.left) = some 64) ∧
    (let t : Transfer := ⟨.answered 3, true, 3#32, 1, [3#8], some 64⟩
     answeringSlot.port.serving = some .intake ∧ answeringSlot.port.queue .intake = t :: [] ∧
       0 < beatCount t.addr.toNat t.burstLength ∧ t.write = true ∧ t.data.length = t.left ∧ t.burstLength ≤ 128) ∧
    (let s := reading .holidays 1
     s.port.serving = some .plan ∧ s.port.queue .plan = (⟨.loadBlock, false, 8#32, 4, [], some 64⟩ : Transfer) :: [] ∧
       s.plan.queue = [⟨3, half .setHolidays [], .holidays, .b, 8#32, 1⟩]) := by decide

end Sys2Proof.Tests
end

section
/-! PROOFS. What every step does with its command: the queue (R2), the commands that complete, how an owner comes to its next
request and what it makes of one with a nonzero reserved field (R157, R160, R166, R167). -/

namespace Sys2Proof.Machine

/-! ### The queue -/

theorem step_setPending_cons (c : Instr) (rest : List Instr) (s : State) :
    step (s.setPending (c :: rest)) = exec c (s.setPending rest) := rfl

theorem step_of_pending_nil {s : State} (h : s.pending = []) : step s = .next s := by
  simp [step, h]

/-- Settles O1. -/
theorem stepRunsFrontCommand : Obligations.StepRunsFrontCommand :=
  ⟨step_setPending_cons, fun _ => step_of_pending_nil⟩

/-! ### The commands that complete and those that stop -/

theorem serve_completes (k : Kind) (f : Nat → List Byte → State → State) (s : State) : ∃ t, serve k f s = .next t := by
  cases h : served k s with
  | none => exact ⟨s, serve_of_not_served h⟩
  | some p => exact ⟨f p.1 p.2 s, serve_of_served h⟩

theorem exec_of_illFormed {c : Instr} (h : c.wellFormed = false) (s : State) : exec c s = .fault .illFormed := by
  cases c with
  | tariffActivation | gapEntryLapse | confirmationExpiry | longCallMark | memoryBurstDone => exact if_pos h
  | _ => cases h

/-- The guard with which the meaning of a command with an operand begins lets a well-formed one pass. -/
theorem guard_passed {c : Instr} (h : c.wellFormed = true) (x y : Result) :
    (if c.wellFormed = false then x else y) = y := if_neg (by simp [h])

theorem execGapEntryLapse_completes {code : List Nat} (h : (Instr.gapEntryLapse code).wellFormed = true) (s : State) :
    ∃ t, execGapEntryLapse code s = .next t := by
  rw [execGapEntryLapse, guard_passed h]
  cases gapWithCode s code <;> exact ⟨_, rfl⟩

theorem execBankLoadHead_completes (s : State) : ∃ t, execBankLoadHead s = .next t := by
  unfold execBankLoadHead
  split <;> exact ⟨_, rfl⟩

theorem execRouteWalk_completes (s : State) : ∃ t, execRouteWalk s = .next t := by
  unfold execRouteWalk
  split <;> exact ⟨_, rfl⟩

theorem execRouteReports_completes (s : State) : ∃ t, execRouteReports s = .next t := by
  unfold execRouteReports
  split <;> exact ⟨_, rfl⟩

/-- The requests complete by `serve_completes`, the events that wait for a load or a ROUTE by their own lemmas, those with an
operand once its guard is passed, and every other command answers `.next` outright. -/
theorem exec_completes {c : Instr} (hw : c.wellFormed = true) (hb : c.isBurst = false) (s : State) :
    ∃ t, exec c s = .next t := by
  cases c with
  | route | confirm | answer | release | crankback | queryCall | setCallTimers | loadDestinations | loadRouteLists
  | setBandMap | setHolidays | switchPlan | setGroup | blockCircuits | unblockCircuits | setSupervision | setGap | clearGap
  | setCalendar | alignMinute | setCarrier | loadTariff | cancelTariff | closePeriod => exact serve_completes _ _ s
  | routeWalk => exact execRouteWalk_completes s
  | routeReports => exact execRouteReports_completes s
  | bankLoadHead => exact execBankLoadHead_completes s
  | gapEntryLapse => exact execGapEntryLapse_completes hw s
  | tariffActivation | confirmationExpiry | longCallMark => exact ⟨_, guard_passed hw _ _⟩
  | memoryBurstDone => cases hb
  | _ => exact ⟨_, rfl⟩

theorem exec_memoryBurstDone_of_not_carried {reply : BurstReply} {s : State}
    (hw : (Instr.memoryBurstDone reply).wellFormed = true) (hc : carried s = none) :
    exec (.memoryBurstDone reply) s = .next s := by
  simp [exec, execMemoryBurstDone, hw, hc]

theorem exec_memoryBurstDone_of_carried {reply : BurstReply} {s : State} {r : Requester} {t : Transfer}
    {ts : List Transfer} (hw : (Instr.memoryBurstDone reply).wellFormed = true) (hc : carried s = some (r, t, ts)) :
    exec (.memoryBurstDone reply) s =
      if replyFits t reply then .next (serveNext r (endBurst r t ts reply s)) else .fault .replyMismatch := by
  simp [exec, execMemoryBurstDone, hw, hc]

/-- Settles O10, by cases on the command; of a burst's reply, on what the port carries. -/
theorem onlyImpossibleOperandsStop : Obligations.OnlyImpossibleOperandsStop := by
  refine fun c s => ⟨fun h => exec_of_illFormed h s, fun hw hb => exec_completes hw hb s, ?_⟩
  rintro reply rfl hw
  rcases hc : carried s with _ | ⟨r, t, ts⟩
  · exact exec_memoryBurstDone_of_not_carried hw hc
  · have hexec := exec_memoryBurstDone_of_carried hw hc
    cases hf : replyFits t reply <;> simp [hexec, hf]

/-! ### Kinds and request halves -/

theorem Kind.mem_every (k : Kind) : k ∈ Kind.every := by
  cases k <;> decide

theorem Kind.find_code (k : Kind) : Kind.every.find? (fun j => decide (j.code = k.code)) = some k := by
  cases k <;> rfl

theorem kindOf_eq_some_iff {req : List Byte} {k : Kind} : kindOf req = some k ↔ byteAt req 0 = k.code := by
  constructor
  · intro h
    have hcode := List.find?_some h
    exact (of_decide_eq_true hcode).symm
  · intro h
    rw [kindOf, h, Kind.find_code]

/-- The bytes outside the kind byte, the tag and the named fields (Tables 10-1, 10-4, 10-13). -/
theorem not_covered_iff {fields : List (Nat × Nat)} {i : Nat} :
    (¬ ∃ f ∈ (0, 1) :: (4, 4) :: fields, f.1 ≤ i ∧ i < f.1 + f.2) ↔
      i ≠ 0 ∧ (i < 4 ∨ 8 ≤ i) ∧ ∀ f ∈ fields, i < f.1 ∨ f.1 + f.2 ≤ i := by
  push Not
  rw [List.forall_mem_cons, List.forall_mem_cons]
  exact and_congr (by omega) (and_congr (by omega) (forall₂_congr fun f _ => by omega))

theorem reservedClear_iff {k : Kind} {req : List Byte} :
    reservedClear k req = true ↔
      ∀ i < 64, i ≠ 0 → (i < 4 ∨ 8 ≤ i) → (∀ f ∈ k.named, i < f.1 ∨ f.1 + f.2 ≤ i) → byteAt req i = 0 := by
  simp only [reservedClear, List.all_eq_true, List.mem_range, Bool.or_eq_true, List.any_eq_true, decide_eq_true_eq,
    or_iff_not_imp_left (a := ∃ _, _), not_covered_iff, and_imp]

/-- A kind with its kind byte, owner and named fields, as the model's own functions give them. -/
def Kind.row (k : Kind) : Kind × Nat × Owner × List (Nat × Nat) := (k, k.code, k.owner, k.named)

theorem mem_rows_iff {k : Kind} {n : Nat} {o : Owner} {fields : List (Nat × Nat)} :
    (k, n, o, fields) ∈ Kind.every.map Kind.row ↔ n = k.code ∧ o = k.owner ∧ fields = k.named := by
  constructor
  · rw [List.mem_map]
    rintro ⟨j, -, hj⟩
    cases hj
    exact ⟨rfl, rfl, rfl⟩
  · rintro ⟨rfl, rfl, rfl⟩
    exact List.mem_map_of_mem k.mem_every

/-! ### The request an owner serves next -/

theorem Entry.waitsFor_eq_some_iff {e : Entry} {o : Owner} {slot : Nat} {req : List Byte} :
    e.waitsFor o = some (slot, req) ↔
      e = ⟨slot, .withOwner req false⟩ ∧ (kindOf req).map Kind.owner = some o := by
  obtain ⟨i, p⟩ := e
  unfold Entry.waitsFor
  split <;> grind

theorem served_eq_some_iff {k : Kind} {s : State} {slot : Nat} {req : List Byte} :
    served k s = some (slot, req) ↔
      (s.up = true ∧ ownerReady k.owner s = true) ∧ nextRequest k.owner s = some (slot, req) ∧ kindOf req = some k := by
  unfold served
  split <;> grind

/-- What an owner serves next waits for it in the in-hand list, not yet begun. -/
theorem mem_inHand_of_served {k : Kind} {s : State} {slot : Nat} {req : List Byte} (h : served k s = some (slot, req)) :
    ⟨slot, .withOwner req false⟩ ∈ s.intake.inHand := by
  obtain ⟨-, hnext, -⟩ := served_eq_some_iff.1 h
  obtain ⟨e, he, hw⟩ := List.exists_of_findSome?_eq_some hnext
  obtain ⟨rfl, -⟩ := Entry.waitsFor_eq_some_iff.1 hw
  exact he

theorem nextRequest_of_first {o : Owner} {s : State} {pre post : List Entry} {slot : Nat} {req : List Byte}
    (hlist : s.intake.inHand = pre ++ ⟨slot, .withOwner req false⟩ :: post)
    (hpre : ∀ e ∈ pre, e.waitsFor o = none) (howner : (kindOf req).map Kind.owner = some o) :
    nextRequest o s = some (slot, req) := by
  have hfirst : Entry.waitsFor ⟨slot, .withOwner req false⟩ o = some (slot, req) :=
    Entry.waitsFor_eq_some_iff.2 ⟨rfl, howner⟩
  simp [nextRequest, hlist, List.findSome?_append, List.findSome?_eq_none_iff.2 hpre, hfirst]

/-- Serving in taking order: no entry before it waits for the same owner (R160). -/
theorem served_of_first {k : Kind} {s : State} {pre post : List Entry} {slot : Nat} {req : List Byte}
    (hup : s.up = true) (hready : ownerReady k.owner s = true)
    (hlist : s.intake.inHand = pre ++ ⟨slot, .withOwner req false⟩ :: post) (hkind : kindOf req = some k)
    (hpre : ∀ e ∈ pre, ∀ r j, e.phase = .withOwner r false → kindOf r = some j → j.owner ≠ k.owner) :
    served k s = some (slot, req) := by
  have hnone : ∀ e ∈ pre, e.waitsFor k.owner = none := by
    intro e he
    rw [Option.eq_none_iff_forall_ne_some]
    rintro ⟨i, r⟩ hw
    obtain ⟨rfl, howner⟩ := Entry.waitsFor_eq_some_iff.1 hw
    obtain ⟨j, hj, hjk⟩ := Option.map_eq_some_iff.1 howner
    exact hpre _ he r j rfl hj hjk
  exact served_eq_some_iff.2 ⟨⟨hup, hready⟩, nextRequest_of_first hlist hnone (by rw [hkind]; rfl), hkind⟩

theorem ne_slot_of_served_markBegun {k : Kind} {slot i : Nat} {req r : List Byte} {s : State}
    (h : served k (markBegun slot req s) = some (i, r)) : i ≠ slot := by
  have hmem := mem_inHand_of_served h
  simp only [markBegun, Intake.setPhase, State.setIntake_intake, List.mem_map] at hmem
  obtain ⟨e, -, he⟩ := hmem
  split at he
  next => simp at he
  next hne =>
    rintro rfl
    exact hne (by rw [he])

/-! ### What an owner makes of a request -/

/-- What the owner of a kind makes of the request it serves. -/
def Kind.service : Kind → Nat → List Byte → State → State
  | .route => serveRoute
  | .confirm => callRequest .confirm confirmRule
  | .answer => callRequest .answer answerRule
  | .release => callRequest .release releaseRule
  | .crankback => callRequest .crankback crankbackRule
  | .queryCall => callRequest .queryCall queryRule
  | .setCallTimers => serveSetCallTimers
  | .loadDestinations => serveLoad .loadDestinations destinationsFields
  | .loadRouteLists => serveLoad .loadRouteLists routeListsFields
  | .setBandMap => serveLoad .setBandMap bandMapFields
  | .setHolidays => serveLoad .setHolidays holidaysFields
  | .switchPlan => serveSwitchPlan
  | .setGroup => serveSetGroup
  | .blockCircuits =>
    serveBlocking .blockCircuits (fun r n => min n (r.size - r.blocked)) (fun r n => { r with blocked := r.blocked + n })
  | .unblockCircuits =>
    serveBlocking .unblockCircuits (fun r n => min n r.blocked) (fun r n => { r with blocked := r.blocked - n })
  | .setSupervision => serveSetSupervision
  | .setGap => serveSetGap
  | .clearGap => serveClearGap
  | .setCalendar => serveSetCalendar
  | .alignMinute => serveAlignMinute
  | .setCarrier => serveSetCarrier
  | .loadTariff => serveLoadTariff
  | .cancelTariff => serveCancelTariff
  | .closePeriod => serveClosePeriod

theorem exec_command (k : Kind) (s : State) : exec k.command s = serve k k.service s := by
  cases k <;> rfl

theorem exec_command_of_served {k : Kind} {s : State} {slot : Nat} {req : List Byte}
    (h : served k s = some (slot, req)) : exec k.command s = .next (k.service slot req s) := by
  rw [exec_command, serve_of_served h]

theorem exec_command_of_not_served {k : Kind} {s : State} (h : served k s = none) : exec k.command s = .next s := by
  rw [exec_command, serve_of_not_served h]

/-- What a FORMAT answer carries besides its header: the group index, about a group. -/
def Kind.formatFields (k : Kind) (req : List Byte) : List Field :=
  if k = .setGroup ∨ k = .blockCircuits ∨ k = .unblockCircuits then [⟨72, 2, readLE req 8 2⟩] else []

/-- The reserved bytes are the first check of every owner. -/
theorem service_of_not_reservedClear {k : Kind} {req : List Byte} (h : reservedClear k req = false) (slot : Nat)
    (s : State) : k.service slot req s = reply slot req .format 0 (k.formatFields req) s := by
  cases k <;> exact if_pos h

/-- Settles O11: the table is the model's own rows, and the clauses are those of the lemmas above. -/
theorem ownersServeAndCheckRequests : Obligations.OwnersServeAndCheckRequests := by
  refine ⟨?_, fun slot req s => ⟨rfl, fun _ _ _ => ne_slot_of_served_markBegun⟩,
    fun k s pre post slot req => served_of_first, fun k s => exec_command_of_not_served, ?_⟩
  · intro table
    have htable : table = Kind.every.map Kind.row := rfl
    simp only [htable, mem_rows_iff]
    refine ⟨fun k => ⟨_, _, _, rfl, rfl, rfl⟩, ?_⟩
    rintro k n o fields ⟨rfl, rfl, rfl⟩ req
    exact ⟨kindOf_eq_some_iff, rfl, reservedClear_iff⟩
  · intro k s slot req hserved hreserved
    rw [exec_command_of_served hserved, service_of_not_reservedClear hreserved]
    rfl

end Sys2Proof.Machine
end

section
/-! PROOFS. The invariants that every step keeps (R3, R4, R6, R8, R24, R29, R30, R80, R81, R91, R94 to R96, R118, R173): what a
write does to a count over a table, and the three invariants as one relation between machines that is closed under
composition. -/

namespace Sys2Proof.Machine

/-! ### Counting the entries of a table -/

section
variable {α : Type}

/-- How many listed values `p` selects. -/
def Table.count (p : α → Bool) (t : Table α) : Nat := (t.filter (fun e => p e.2)).length

@[simp] theorem Table.count_nil (p : α → Bool) : Table.count p [] = 0 := rfl

theorem Table.count_cons (p : α → Bool) (k : Nat) (v : α) (t : Table α) :
    Table.count p ((k, v) :: t) = bit (p v) + Table.count p t := by
  cases h : p v <;> simp [Table.count, h, bit, Nat.add_comm]

theorem Table.remove_of_above {k : Nat} {t : Table α} (h : Table.above k t) : Table.remove t k = t := by
  induction t with
  | nil => rfl
  | cons e t ih =>
    have hk : k < e.1 := h e (by simp)
    rw [Table.remove, if_neg (by omega), ih (fun x hx => h x (by simp [hx]))]

theorem Table.count_insert (p : α → Bool) (t : Table α) (k : Nat) (v : α) :
    Table.count p (Table.insert t k v) = bit (p v) + Table.count p t := by
  induction t with
  | nil => simp [Table.insert, Table.count_cons]
  | cons e t ih =>
    rw [Table.insert]
    split
    · rw [Table.count_cons]
    · rw [Table.count_cons, Table.count_cons, ih]; omega

theorem Table.count_remove (p : α → Bool) {t : Table α} (ht : Table.rising t = true) (k : Nat) :
    Table.count p (Table.remove t k) + bit ((Table.find t k).any p) = Table.count p t := by
  induction t with
  | nil => simp [Table.remove, bit]
  | cons e t ih =>
    obtain ⟨j, v⟩ := e
    obtain ⟨habove, hrising⟩ := (Table.rising_cons _ _ _).1 ht
    rw [Table.remove, Table.find, Table.count_cons]
    split
    next h =>
      subst h
      rw [Table.remove_of_above habove, Option.any_some, Nat.add_comm]
    next h =>
      rw [Table.count_cons, ← ih hrising]; omega

/-- A write moves a count by what it puts in the place of what was held there. -/
theorem Table.count_write [DecidableEq α] (p : α → Bool) {t : Table α} {d : α} (hd : p d = false)
    (ht : Table.rising t = true) (k : Nat) (v : α) :
    Table.count p (Table.write t d k v) + bit (p (Table.read t d k)) = Table.count p t + bit (p v) := by
  have hread : bit (p (Table.read t d k)) = bit ((Table.find t k).any p) := by
    unfold Table.read
    cases Table.find t k <;> simp [hd]
  have hremove := Table.count_remove p ht k
  unfold Table.write
  split
  next h => rw [hread, hremove, h, hd]; rfl
  next => rw [Table.put, Table.count_insert, hread]; omega

theorem Table.count_pos (p : α → Bool) {t : Table α} {k : Nat} {v : α} (h : Table.find t k = some v) (hv : p v = true) :
    0 < Table.count p t :=
  List.length_pos_of_mem (List.mem_filter.2 ⟨Table.mem_of_find h, hv⟩)

theorem Table.count_mapValues {p : α → Bool} {f : α → α} (hf : ∀ v, p (f v) = p v) (t : Table α) :
    Table.count p (Table.mapValues f t) = Table.count p t := by
  induction t with
  | nil => rfl
  | cons e t ih => rw [Table.mapValues, Table.count_cons, Table.count_cons, ih, hf]

theorem Table.rising_write [DecidableEq α] {t : Table α} (d : α) (k : Nat) (v : α) (h : Table.rising t = true) :
    Table.rising (Table.write t d k v) = true := by
  unfold Table.write
  split
  · exact Table.rising_remove k h
  · exact Table.rising_put k v h

theorem Table.mem_write [DecidableEq α] {t : Table α} {d : α} {k : Nat} {v : α} {e : Nat × α}
    (h : e ∈ Table.write t d k v) : e = (k, v) ∨ e ∈ t := by
  unfold Table.write at h
  split at h
  · exact .inr (Table.mem_remove.1 h).1
  · rcases Table.mem_insert.1 h with h | h
    · exact .inl h
    · exact .inr (Table.mem_remove.1 h).1

theorem Table.rising_filter (p : Nat × α → Bool) {t : Table α} (h : Table.rising t = true) :
    Table.rising (t.filter p) = true := by
  induction t with
  | nil => rfl
  | cons e t ih =>
    obtain ⟨k, v⟩ := e
    obtain ⟨habove, hrising⟩ := (Table.rising_cons _ _ _).1 h
    rw [List.filter_cons]
    split
    · exact (Table.rising_cons _ _ _).2 ⟨fun x hx => habove x (List.mem_filter.1 hx).1, ih hrising⟩
    · exact ih hrising

theorem Table.find_of_above {k j : Nat} {t : Table α} (h : Table.above k t) (hj : j ≤ k) : Table.find t j = none := by
  induction t with
  | nil => rfl
  | cons e t ih =>
    have hk : k < e.1 := h e (by simp)
    rw [Table.find, if_neg (by omega)]
    exact ih fun x hx => h x (by simp [hx])

/-- What equals the value of an unlisted index may be dropped. -/
theorem Table.read_filter_ne [DecidableEq α] {t : Table α} (d : α) (h : Table.rising t = true) (k : Nat) :
    Table.read (t.filter (fun e => decide (e.2 ≠ d))) d k = Table.read t d k := by
  induction t with
  | nil => rfl
  | cons e t ih =>
    obtain ⟨j, v⟩ := e
    obtain ⟨habove, hrising⟩ := (Table.rising_cons _ _ _).1 h
    have ih := ih hrising
    unfold Table.read at ih ⊢
    rw [List.filter_cons]
    by_cases hv : v = d
    · rw [if_neg (by simp [hv]), ih, Table.find]
      by_cases hjk : j = k
      · simp [hjk, hv, Table.find_of_above habove hjk.ge]
      · rw [if_neg hjk]
    · rw [if_pos (by simpa using hv), Table.find, Table.find]
      by_cases hjk : j = k
      · simp [hjk]
      · rw [if_neg hjk, if_neg hjk, ih]

/-- What a table holds besides the value of its unlisted indices, it lists. -/
theorem Table.mem_of_read_ne {t : Table α} {d : α} {k : Nat} (h : Table.read t d k ≠ d) : (k, Table.read t d k) ∈ t := by
  unfold Table.read at *
  cases hf : Table.find t k with
  | none => simp [hf] at h
  | some v => exact Table.mem_of_find hf

end

/-! ### The canonical form (R3, R24, R81, R118, R173) -/

theorem State.Canonical.of_tables {s t : State} (h : s.Canonical) (hmem : t.mem = s.mem) (hgroups : t.groups = s.groups)
    (hcontexts : t.contexts.table = s.contexts.table) (hcarriers : t.carriers = s.carriers)
    (hsettlements : t.backup.settlements = s.backup.settlements)
    (hbanks : ∀ k, (t.bank k).lists = (s.bank k).lists ∧ (t.bank k).bandMap = (s.bank k).bandMap) : t.Canonical := by
  simpa only [State.Canonical, hmem, hgroups, hcontexts, hcarriers, hsettlements, hbanks] using h

theorem State.Canonical.setMem {s : State} (h : s.Canonical) {m : List Host.Cell} (hm : Memory.wf m = true) :
    (s.setMem m).Canonical :=
  ⟨hm, h.2⟩

theorem State.Canonical.putGroup {s : State} (h : s.Canonical) (g : Nat) (r : Group) : (putGroup g r s).Canonical := by
  obtain ⟨hmem, hgroups, hrest⟩ := h
  exact ⟨hmem, Table.canonical_write g r hgroups, hrest⟩

theorem State.Canonical.setContexts {s : State} (h : s.Canonical) {x : ContextTable}
    (hx : Table.canonical x.table Context.reset = true) : (s.setContexts x).Canonical := by
  obtain ⟨hmem, hgroups, -, hrest⟩ := h
  exact ⟨hmem, hgroups, hx, hrest⟩

theorem State.Canonical.contexts {s : State} (h : s.Canonical) : Table.canonical s.contexts.table Context.reset = true :=
  h.2.2.1

theorem State.Canonical.putContext {s : State} (h : s.Canonical) (i : Nat) (c : Context) : (putContext i c s).Canonical :=
  h.setContexts (Table.canonical_write i c h.contexts)

theorem State.Canonical.freeContext {s : State} (h : s.Canonical) (i : Nat) : (freeContext i s).Canonical := h.putContext i _

theorem State.Canonical.setCarriers {s : State} (h : s.Canonical) {x : Table Carrier}
    (hx : Table.canonical x Carrier.reset = true) : (s.setCarriers x).Canonical := by
  obtain ⟨hmem, hgroups, hcontexts, -, hrest⟩ := h
  exact ⟨hmem, hgroups, hcontexts, hx, hrest⟩

theorem State.Canonical.putCarrier {s : State} (h : s.Canonical) (c : Nat) (r : Carrier) : (putCarrier c r s).Canonical := by
  obtain ⟨hmem, hgroups, hcontexts, hcarriers, hrest⟩ := h
  exact ⟨hmem, hgroups, hcontexts, Table.canonical_write c r hcarriers, hrest⟩

theorem State.Canonical.setBackup {s : State} (h : s.Canonical) {x : Backup}
    (hx : Table.canonical x.settlements Settlement.zero = true) : (s.setBackup x).Canonical := by
  obtain ⟨hmem, hgroups, hcontexts, hcarriers, -, hrest⟩ := h
  exact ⟨hmem, hgroups, hcontexts, hcarriers, hx, hrest⟩

theorem State.Canonical.settlements {s : State} (h : s.Canonical) :
    Table.canonical s.backup.settlements Settlement.zero = true :=
  h.2.2.2.2.1

theorem State.Canonical.putSettlement {s : State} (h : s.Canonical) (c : Nat) (r : Settlement) :
    (putSettlement c r s).Canonical :=
  h.setBackup (Table.canonical_write c r h.settlements)

theorem State.Canonical.putBank {s : State} (h : s.Canonical) {k : Bank} {d : BankData}
    (hlists : Table.canonical d.lists [] = true) (hmap : Table.canonical d.bandMap 0 = true) : (putBank k d s).Canonical := by
  obtain ⟨hmem, hgroups, hcontexts, hcarriers, hsettlements, hbanks⟩ := h
  refine ⟨hmem, hgroups, hcontexts, hcarriers, hsettlements, fun j => ?_⟩
  rw [bank_putBank]
  split
  · exact ⟨hlists, hmap⟩
  · exact hbanks j

theorem State.Canonical.bank {s : State} (h : s.Canonical) (k : Bank) :
    Table.canonical (s.bank k).lists [] = true ∧ Table.canonical (s.bank k).bandMap 0 = true :=
  h.2.2.2.2.2 k

theorem State.Canonical.changeDest {s : State} (h : s.Canonical) (k : Bank) (n : Nat) (f : Dest → Dest) :
    (changeDest k n f s).Canonical :=
  h.putBank (h.bank k).1 (h.bank k).2

theorem State.Canonical.changeProvisional {s : State} (h : s.Canonical) (k : Bank) (f : Nat → Nat) :
    (changeProvisional k f s).Canonical :=
  h.putBank (h.bank k).1 (h.bank k).2

theorem State.Canonical.changeOpen {s : State} (h : s.Canonical) (c : Nat) (f : Nat → Nat) : (changeOpen c f s).Canonical := by
  unfold Machine.changeOpen
  split
  · exact h
  · exact h.putSettlement c _

theorem State.Canonical.returnSeizure {s : State} (h : s.Canonical) (g : Nat) : (returnSeizure g s).Canonical :=
  (h.putGroup g _).changeOpen _ _

theorem State.Canonical.grantSeizure {s : State} (h : s.Canonical) (g : Nat) : (grantSeizure g s).Canonical :=
  (h.putGroup g _).changeOpen _ _

theorem State.Canonical.countExamination {s : State} (h : s.Canonical) (g a f : Nat) :
    (countExamination g a f s).Canonical := by
  unfold Machine.countExamination
  dsimp only
  split <;> exact h.putGroup g _

theorem State.Canonical.countVerdict {s : State} (h : s.Canonical) (g : Nat) (v : Verdict) :
    (countVerdict g v s).Canonical := by
  cases v with
  | refused1 | refused5 => exact h
  | refused2 | refused3 | admissible => exact h.countExamination g _ _
  | refused4 => exact (h.countExamination g _ _).putCarrier _ _

theorem State.Canonical.seize {s : State} (h : s.Canonical) (history : List Nat) (cs : List Candidate) :
    (seize history cs s).2.Canonical := by
  induction cs generalizing s with
  | nil => exact h
  | cons c cs ih =>
    have hcounted := h.countVerdict c.group (examine s history c)
    rw [Machine.seize]
    split
    · exact hcounted.grantSeizure c.group
    · exact ih hcounted

theorem State.Canonical.statusEvent {s : State} (h : s.Canonical) : (statusEvent s).Canonical :=
  h.of_tables (by simp) (by simp) (by simp) (by simp) (by simp) (by simp)

theorem State.Canonical.statusEvents {s : State} (h : s.Canonical) (n : Nat) : (statusEvents n s).Canonical := by
  induction n generalizing s with
  | zero => exact h
  | succ n ih => exact ih h.statusEvent

theorem State.Canonical.putSums {s : State} (h : s.Canonical) (c : Nat) (v : Sums) : (putSums c v s).Canonical :=
  (h.putSettlement c _).statusEvents _

theorem State.Canonical.handTotal {s : State} (h : s.Canonical) (c : Nat) (d : Direction) (p : Option Price) :
    (handTotal c d p s).Canonical := by
  cases p with
  | none => exact h
  | some x => exact h.putSums c _

/-! ### The books: what every seizure is counted by (R8, R29, R30, R91) -/

/-- A context's state as the counts read it: an ANSWERED call counts as a CONFIRMED one. -/
def CallState.seat : CallState → CallState
  | .answered call _ => .confirmed call
  | c => c

theorem CallState.holds_seat (p : Call → Bool) (c : CallState) : c.seat.holds p = c.holds p := by
  cases c <;> rfl

theorem CallState.provisionalIn_seat (k : Bank) (c : CallState) : c.seat.provisionalIn k = c.provisionalIn k := by
  cases c <;> rfl

theorem CallState.isExpired_seat (c : CallState) : c.seat.isExpired = c.isExpired := by
  cases c <;> rfl

theorem contextsIn_eq_count (s : State) (p : CallState → Bool) :
    contextsIn s p = Table.count (fun c : Context => p c.state) s.contexts.table := rfl

/-- The books of `t` are those of `s`: the contexts are seated alike, and every count is as it was. The owner of a group that
nothing is seized on may be another. -/
structure SameBooks (s t : State) : Prop where
  main : t.power.main = s.power.main
  seats : ∃ f : Context → Context, f Context.reset = Context.reset ∧ (∀ c, (f c).state.seat = c.state.seat) ∧
    t.contexts.table = Table.mapValues f s.contexts.table
  expired : t.contexts.expired = s.contexts.expired
  groups : ∀ g, (t.group g).busy = (s.group g).busy ∧ ((t.group g).owner = (s.group g).owner ∨ (s.group g).busy = 0)
  rising : Table.rising s.backup.settlements = true → Table.rising t.backup.settlements = true
  handovers : ∀ k, t.openHandovers k = s.openHandovers k
  provisional : ∀ k, (t.bank k).provisional = (s.bank k).provisional

theorem Table.mapValues_id {α : Type} (t : Table α) : Table.mapValues id t = t := by
  induction t with
  | nil => rfl
  | cons e t ih => rw [Table.mapValues, ih]; rfl

theorem seats_of_contexts {s t : State} (h : t.contexts.table = s.contexts.table) :
    ∃ f : Context → Context, f Context.reset = Context.reset ∧ (∀ c, (f c).state.seat = c.state.seat) ∧
      t.contexts.table = Table.mapValues f s.contexts.table :=
  ⟨id, rfl, fun _ => rfl, by rw [h, Table.mapValues_id]⟩

/-- A live call's group is busy. -/
theorem State.Conserved.busy_pos {s : State} (h : s.Conserved) {e : Nat × Context} (he : e ∈ s.contexts.table)
    {call : Call} (hcall : e.2.state.call? = some call) (hlive : e.2.state.live = true) :
    (s.group call.group).busy ≠ 0 := by
  obtain ⟨-, -, -, hbusy, -⟩ := h
  rw [hbusy, seizuresOn, contextsIn]
  exact (List.length_pos_of_mem (List.mem_filter.2 ⟨he, by simp [CallState.holds, hcall, hlive]⟩)).ne'

theorem SameBooks.conserved {s t : State} (hb : SameBooks s t) (h : s.Conserved) : t.Conserved := by
  obtain ⟨f, hreset, hseat, htable⟩ := hb.seats
  have hcount : ∀ p : CallState → Bool, (∀ c, p c.seat = p c) → contextsIn t p = contextsIn s p := by
    intro p hp
    rw [contextsIn_eq_count, htable]
    exact Table.count_mapValues (fun c => by rw [← hp, hseat, hp]) _
  have hcontext : ∀ i, (t.context i).state.isExpired = (s.context i).state.isExpired := by
    intro i
    rw [State.context, htable, Table.read_mapValues f _ _ _ hreset, ← CallState.isExpired_seat, hseat,
      CallState.isExpired_seat]
    rfl
  have hof : ∀ c, seizuresOf t c = seizuresOf s c := by
    intro c
    rw [seizuresOf, hcount _ (CallState.holds_seat _), seizuresOf, contextsIn, contextsIn]
    congr 1
    refine List.filter_congr fun e he => ?_
    unfold CallState.holds
    cases hcall : e.2.state.call? with
    | none => rfl
    | some call =>
      cases hlive : e.2.state.live with
      | false => rfl
      | true =>
        have howner : callOwner t call = callOwner s call :=
          (hb.groups call.group).2.resolve_right (h.busy_pos he hcall hlive)
        simp [howner]
  obtain ⟨hrising, hindex, hsettled, hbusy, hopen, hprov, hnodup, hlisted⟩ := h
  refine ⟨htable ▸ Table.rising_mapValues hrising, ?_, hb.rising hsettled, fun g => ?_, fun hmain c hc => ?_, fun k => ?_,
    hb.expired ▸ hnodup, fun i => ?_⟩
  · intro e he
    rw [htable] at he
    obtain ⟨x, hx, rfl⟩ := Table.mem_mapValues.1 he
    exact hindex x hx
  · rw [(hb.groups g).1, hbusy, seizuresOn, seizuresOn, hcount _ (CallState.holds_seat _)]
  · rw [hb.handovers, hof, hopen (hb.main ▸ hmain) c hc]
  · rw [hb.provisional, hprov, hcount _ (CallState.provisionalIn_seat k)]
  · rw [hb.expired, hlisted, hcontext]

/-! ### One context changes its state (R8, R29, R30, R91) -/

/-- The expired list follows a change of context `i` from state `x` to state `y`. -/
inductive Relisted (i : Nat) (x y : CallState) (old : List Nat) : List Nat → Prop
  | kept (h : x.isExpired = y.isExpired) : Relisted i x y old old
  | left (h : y.isExpired = false) : Relisted i x y old (old.filter (fun j => decide (j ≠ i)))
  | joined (hx : x.isExpired = false) (hy : y.isExpired = true) : Relisted i x y old (old ++ [i])

theorem Relisted.nodup {i : Nat} {x y : CallState} {old new : List Nat} (h : Relisted i x y old new)
    (hx : i ∈ old ↔ x.isExpired = true) (hold : old.Nodup) : new.Nodup := by
  cases h with
  | kept _ => exact hold
  | left _ => exact hold.filter _
  | joined hx' _ =>
    have hi : i ∉ old := by simp [hx, hx']
    exact List.nodup_append.2 ⟨hold, List.nodup_singleton i, by rintro a ha b hb rfl; simp_all⟩

theorem Relisted.mem_iff {i : Nat} {x y : CallState} {old new : List Nat} (h : Relisted i x y old new)
    (hx : i ∈ old ↔ x.isExpired = true) (j : Nat) : j ∈ new ↔ if j = i then y.isExpired = true else j ∈ old := by
  by_cases hj : j = i
  · subst hj
    cases h with
    | kept h => simp [hx, h]
    | left h => simp [h]
    | joined _ hy => simp [hy]
  · cases h <;> simp [hj]

/-- A count moves by what a context counted for, `x`, and what it comes to count for, `y`; `x` was counted. -/
def Follows (x y : Bool) (old new : Nat) : Prop := bit x ≤ old → new + bit x = old + bit y

theorem Follows.same (x : Bool) (n : Nat) : Follows x x n n := fun _ => rfl

theorem Follows.left (x : Bool) (n : Nat) : Follows x false n (n - bit x) := fun h => Nat.sub_add_cancel h

theorem Follows.joined (y : Bool) (n : Nat) : Follows false y n (n + bit y) := fun _ => rfl

theorem Follows.moved (x y : Bool) (n : Nat) : Follows x y n (n - bit x + bit y) := fun h => by omega

/-- From `s` to `t`, within an event that began in `r`, context `i` comes to hold `c`, and every count follows it. -/
structure Reseats (r s t : State) (i : Nat) (c : Context) : Prop where
  main : t.power.main = s.power.main
  index : r.Conserved → i < 16384
  table : t.contexts.table = Table.write s.contexts.table Context.reset i c
  expired : Relisted i (s.context i).state c.state s.contexts.expired t.contexts.expired
  owner : ∀ g, (t.group g).owner = (s.group g).owner
  busy : ∀ g, Follows ((s.context i).state.holds (fun call => decide (call.group = g)))
    (c.state.holds (fun call => decide (call.group = g))) (s.group g).busy (t.group g).busy
  rising : Table.rising s.backup.settlements = true → Table.rising t.backup.settlements = true
  handovers : ∀ k, k ≠ 0 → Follows ((s.context i).state.holds (fun call => decide (callOwner s call = k)))
    (c.state.holds (fun call => decide (callOwner s call = k))) (s.openHandovers k) (t.openHandovers k)
  provisional : ∀ k, Follows ((s.context i).state.provisionalIn k) (c.state.provisionalIn k) (s.bank k).provisional
    (t.bank k).provisional

theorem Reseats.conserved {r s t : State} {i : Nat} {c : Context} (hr : Reseats r s t i c) (hbegan : r.Conserved)
    (h : s.Conserved) : t.Conserved := by
  have hindex := hr.index hbegan
  obtain ⟨hrising, hindices, hsettled, hbusy, hopen, hprov, hnodup, hlisted⟩ := h
  have hcount : ∀ (p : CallState → Bool) (n : Nat), p .free = false →
      Follows (p (s.context i).state) (p c.state) (contextsIn s p) n → n = contextsIn t p := by
    intro p n hp hn
    have hwrite := Table.count_write (fun c : Context => p c.state) (d := Context.reset) hp hrising i c
    have hread : (Table.read s.contexts.table Context.reset i) = s.context i := rfl
    rw [hread] at hwrite
    have hcounted : bit (p (s.context i).state) ≤ Table.count (fun c : Context => p c.state) s.contexts.table := by
      cases hc : p (s.context i).state with
      | false => simp [bit]
      | true =>
        have hne : s.context i ≠ Context.reset := by
          intro he; rw [he] at hc; exact absurd (hp.symm.trans hc) (by simp)
        exact List.length_pos_of_mem (List.mem_filter.2 ⟨Table.mem_of_read_ne hne, hc⟩)
    have hmoved := hn hcounted
    rw [contextsIn_eq_count] at hmoved
    rw [contextsIn_eq_count, hr.table]
    omega
  have hof : ∀ k, seizuresOf t k = contextsIn t (CallState.holds (fun call => decide (callOwner s call = k))) := by
    have howner : callOwner t = callOwner s := funext fun call => hr.owner call.group
    intro k
    rw [seizuresOf, howner]
  have hcontext : ∀ j, t.context j = if j = i then c else s.context j := by
    intro j
    rw [State.context, hr.table, Table.read_write]; rfl
  refine ⟨hr.table ▸ Table.rising_write _ _ _ hrising, ?_, hr.rising hsettled, fun g => ?_, fun hmain k hk => ?_,
    fun k => ?_, hr.expired.nodup (hlisted i) hnodup, fun j => ?_⟩
  · intro e he
    rw [hr.table] at he
    rcases Table.mem_write he with rfl | he
    · exact hindex
    · exact hindices e he
  · have hfollows := hr.busy g
    rw [hbusy] at hfollows
    exact hcount _ _ rfl hfollows
  · rw [hof]
    have hfollows := hr.handovers k hk
    rw [hopen (hr.main ▸ hmain) k hk] at hfollows
    exact hcount _ _ rfl hfollows
  · have hfollows := hr.provisional k
    rw [hprov] at hfollows
    exact hcount _ _ rfl hfollows
  · rw [hr.expired.mem_iff (hlisted i), hcontext]
    split
    · rfl
    · exact hlisted j

/-! ### What banks, calls and codes may hold (R4, R6, R7, R50, R80) -/

/-- What a context holds at a tick lies in the ranges of R80. -/
def Context.LegalAt (now : Tick) (c : Context) : Prop :=
  (1 ≤ c.generation ∧ c.generation ≤ 255) ∧ (∀ call, c.state.call? = some call → call.Legal) ∧
  ∀ call a, c.state = .answered call a → a.Legal now

/-- The contexts' part of `State.CallsLegal`. -/
def State.ContextsLegal (s : State) : Prop :=
  (s.up = false → s.contexts.table = []) ∧ ∀ i, (s.context i).LegalAt s.now

/-- The Plan Store's part of `State.CallsLegal`. -/
def State.PlansLegal (s : State) : Prop :=
  (∀ k, (s.bank k).Legal) ∧ ∀ l ∈ s.plan.queue, l.kind = .holidays → l.count ≤ 32

/-- The ROUTE at work has only a legal code to install. -/
def InstallLegal (job : Option RouteJob) : Prop :=
  ∀ j renew code answer, job = some j → j.stage = .walked renew (some code) answer → CodeLegal code

/-- The gap codes' part of `State.CallsLegal`. -/
def State.CodesLegal (s : State) : Prop := (∀ e ∈ s.supervision.gaps, CodeLegal e.code) ∧ InstallLegal s.routeJob

theorem callsLegal_iff {s : State} : s.CallsLegal ↔ s.PlansLegal ∧ s.ContextsLegal ∧ s.CodesLegal := by
  constructor
  · rintro ⟨hbanks, hqueue, hdown, hgen, hcall, hanswered, hgaps, hjob⟩
    exact ⟨⟨hbanks, hqueue⟩, ⟨hdown, fun i => ⟨hgen i, hcall i, hanswered i⟩⟩, hgaps, hjob⟩
  · rintro ⟨⟨hbanks, hqueue⟩, ⟨hdown, hcontexts⟩, hgaps, hjob⟩
    exact ⟨hbanks, hqueue, hdown, fun i => (hcontexts i).1, fun i => (hcontexts i).2.1, fun i => (hcontexts i).2.2, hgaps, hjob⟩

theorem State.CallsLegal.bank {s : State} (h : s.CallsLegal) (k : Bank) : (s.bank k).Legal := h.1 k

theorem State.CallsLegal.context {s : State} (h : s.CallsLegal) (i : Nat) : (s.context i).LegalAt s.now :=
  (callsLegal_iff.1 h).2.1.2 i

theorem State.CallsLegal.call {s : State} (h : s.CallsLegal) {i : Nat} {call : Call}
    (hc : (s.context i).state.call? = some call) : call.Legal :=
  (h.context i).2.1 call hc

theorem State.CallsLegal.codes {s : State} (h : s.CallsLegal) : s.CodesLegal := (callsLegal_iff.1 h).2.2

/-- A part that holds a call is up. -/
theorem State.CallsLegal.up_of_ne_free {s : State} (h : s.CallsLegal) {i : Nat} (hi : (s.context i).state ≠ .free) :
    s.up = true := by
  obtain ⟨-, -, hdown, -⟩ := h
  by_contra hup
  have hnil := hdown (by simpa using hup)
  simp [State.context, hnil, Table.read, Context.reset] at hi

theorem State.PlansLegal.congr {s t : State} (h : s.PlansLegal) (hbanks : ∀ k, t.bank k = s.bank k)
    (hqueue : t.plan.queue = s.plan.queue) : t.PlansLegal := by
  simpa only [State.PlansLegal, hbanks, hqueue] using h

theorem State.ContextsLegal.congr {s t : State} (h : s.ContextsLegal) (hpower : t.power = s.power)
    (htable : t.contexts.table = s.contexts.table) (htick : t.clock.tick = s.clock.tick) : t.ContextsLegal := by
  simpa only [State.ContextsLegal, State.up, State.context, State.now, hpower, htable, htick] using h

theorem State.CodesLegal.congr {s t : State} (h : s.CodesLegal) (hgaps : t.supervision.gaps = s.supervision.gaps)
    (hjob : t.routeJob = s.routeJob) : t.CodesLegal := by
  simpa only [State.CodesLegal, hgaps, hjob] using h

/-- A change of every listed context by a function that keeps what is legal. -/
theorem State.ContextsLegal.mapValues {s t : State} {f : Context → Context} (h : s.ContextsLegal)
    (hpower : t.power = s.power) (htick : t.clock.tick = s.clock.tick) (hreset : f Context.reset = Context.reset)
    (htable : t.contexts.table = Table.mapValues f s.contexts.table)
    (hf : ∀ c : Context, c.LegalAt s.now → (f c).LegalAt s.now) : t.ContextsLegal := by
  obtain ⟨hdown, hcontexts⟩ := h
  have hup : t.up = s.up := by simp [State.up, hpower]
  have hnow : t.now = s.now := htick
  refine ⟨fun hd => ?_, fun i => ?_⟩
  · rw [htable, hdown (hup ▸ hd)]; rfl
  · rw [State.context, htable, Table.read_mapValues f _ _ _ hreset, hnow]
    exact hf _ (hcontexts i)

theorem State.ContextsLegal.write {s t : State} {i : Nat} {c : Context} (h : s.ContextsLegal)
    (hpower : t.power = s.power) (htick : t.clock.tick = s.clock.tick) (hup : s.up = true)
    (htable : t.contexts.table = Table.write s.contexts.table Context.reset i c) (hc : c.LegalAt s.now) :
    t.ContextsLegal := by
  have htup : t.up = true := by simpa [State.up, hpower] using hup
  have hnow : t.now = s.now := htick
  refine ⟨fun hd => absurd (htup.symm.trans hd) (by simp), fun j => ?_⟩
  rw [State.context, htable, Table.read_write, hnow]
  split
  · exact hc
  · exact h.2 j

/-! ### What a machine that comes from another upholds -/

/-- Whatever invariant `s` meets, `t` meets too. -/
structure Upholds (s t : State) : Prop where
  canonical : s.Canonical → t.Canonical
  conserved : s.Conserved → t.Conserved
  callsLegal : s.CallsLegal → t.CallsLegal

theorem Upholds.refl (s : State) : Upholds s s := ⟨id, id, id⟩

theorem Upholds.trans {s t u : State} (h : Upholds s t) (g : Upholds t u) : Upholds s u :=
  ⟨g.canonical ∘ h.canonical, g.conserved ∘ h.conserved, g.callsLegal ∘ h.callsLegal⟩

theorem Upholds.ite {c : Prop} [Decidable c] {s t u : State} (h : Upholds s t) (k : Upholds s u) :
    Upholds s (if c then t else u) := by
  split
  · exact h
  · exact k

/-- The records that the invariants read are the same in both machines. -/
structure SameRecords (s t : State) : Prop where
  mem : t.mem = s.mem
  groups : t.groups = s.groups
  contexts : t.contexts = s.contexts
  carriers : t.carriers = s.carriers
  settlements : t.backup.settlements = s.backup.settlements
  bankA : t.plan.bankA = s.plan.bankA
  bankB : t.plan.bankB = s.plan.bankB
  queue : t.plan.queue = s.plan.queue
  power : t.power = s.power
  tick : t.clock.tick = s.clock.tick
  gaps : t.supervision.gaps = s.supervision.gaps
  routeJob : t.routeJob = s.routeJob

theorem SameRecords.bank {s t : State} (h : SameRecords s t) (k : Bank) : t.bank k = s.bank k := by
  cases k
  · exact h.bankA
  · exact h.bankB

theorem SameRecords.upholds {s t : State} (h : SameRecords s t) : Upholds s t where
  canonical hc := hc.of_tables h.mem h.groups (by rw [h.contexts]) h.carriers h.settlements (fun k => by simp [h.bank])
  conserved := SameBooks.conserved
    { main := by rw [h.power], seats := seats_of_contexts (by rw [h.contexts]), expired := by rw [h.contexts],
      groups := fun g => by simp [group_congr h.groups], rising := by simp [h.settlements],
      handovers := fun k => by simp [State.openHandovers, settlement_congr h.settlements],
      provisional := fun k => by rw [h.bank] }
  callsLegal hl := by
    obtain ⟨hplans, hcontexts, hcodes⟩ := callsLegal_iff.1 hl
    exact callsLegal_iff.2 ⟨hplans.congr h.bank h.queue, hcontexts.congr h.power (by rw [h.contexts]) h.tick,
      hcodes.congr h.gaps h.routeJob⟩

end Sys2Proof.Machine
end

section
/-! PROOFS. Load blocks: what their records hold and which are refused (R4, R6, R12 to R15, R167), and what their apply makes
of a bank (R14 to R17, R21). -/

namespace Sys2Proof.Machine

/-! ### Bytes and fields (R167) -/

theorem zeroBytes_iff {r : List Byte} {off len : Nat} : zeroBytes r off len = true ↔ ∀ i < len, byteAt r (off + i) = 0 := by
  simp [zeroBytes]

theorem zeroBytes_eq_false_iff {r : List Byte} {off len : Nat} :
    zeroBytes r off len = false ↔ ∃ i < len, byteAt r (off + i) ≠ 0 := by
  rw [← Bool.not_eq_true, zeroBytes_iff]
  push Not
  rfl

theorem readLE_two (r : List Byte) (off : Nat) : readLE r off 2 = byteAt r off + 256 * byteAt r (off + 1) := by
  simp [readLE]

theorem byteAt_lt (r : List Byte) (off : Nat) : byteAt r off < 256 := (r.getD off 0#8).isLt

theorem digitsValid_iff {r : List Byte} {off n : Nat} : digitsValid r off n = true ↔ ∀ i < n, byteAt r (off + i) ≤ 9 := by
  simp [digitsValid, byteFields]

theorem byteFields_length (r : List Byte) (off n : Nat) : (byteFields r off n).length = n := by
  simp [byteFields]

theorem codeLegal_byteFields {r : List Byte} {off n : Nat} (hn : 1 ≤ n ∧ n ≤ 12) (hd : digitsValid r off n = true) :
    CodeLegal (byteFields r off n) := by
  refine ⟨by rw [byteFields_length]; exact hn.1, by rw [byteFields_length]; exact hn.2, fun d hd' => ?_⟩
  obtain ⟨i, hi, rfl⟩ := List.mem_map.1 hd'
  exact digitsValid_iff.1 hd i (List.mem_range.1 hi)

/-! ### Destination records (R12) -/

/-- A destination record whose digits, digit count or route list index is out of range. -/
def DestinationOutside (r : List Byte) : Prop :=
  byteAt r 0 < 1 ∨ 12 < byteAt r 0 ∨ (∃ i < byteAt r 0, 9 < byteAt r (4 + i)) ∨ 2047 < byteAt r 2 + 256 * byteAt r 3

theorem digitsValid_eq_false_iff {r : List Byte} {off n : Nat} :
    digitsValid r off n = false ↔ ∃ i < n, 9 < byteAt r (off + i) := by
  rw [← Bool.not_eq_true, digitsValid_iff]
  push Not
  rfl

theorem badDestination_spec (r : List Byte) :
    (byteAt r 1 ≠ 0 → badDestination r = some .format) ∧
    (byteAt r 1 = 0 → DestinationOutside r → badDestination r = some .range) ∧
    (byteAt r 1 = 0 → ¬ DestinationOutside r → badDestination r = none) := by
  have hreserved : zeroBytes r 1 1 = false ↔ byteAt r 1 ≠ 0 := by simp [zeroBytes_eq_false_iff]
  unfold badDestination DestinationOutside
  rw [← digitsValid_eq_false_iff, ← readLE_two]
  refine ⟨fun h => if_pos (hreserved.2 h), fun h ho => ?_, fun h ho => ?_⟩ <;> rw [if_neg (by simpa [hreserved] using h)]
  · split_ifs with hcount hdigits hlist <;> tauto
  · push Not at ho
    obtain ⟨hlow, hhigh, hdigits, hlist⟩ := ho
    rw [if_neg (by omega), if_neg hdigits, if_neg (by omega)]

theorem destinationOf_legal {r : List Byte} (h : badDestination r = none) : (destinationOf r).Legal := by
  obtain ⟨hformat, hrange, -⟩ := badDestination_spec r
  have hreserved : byteAt r 1 = 0 := by
    by_contra hne
    simp [hformat hne] at h
  have hinside : ¬ DestinationOutside r := fun ho => by simp [hrange hreserved ho] at h
  rw [DestinationOutside] at hinside
  push Not at hinside
  obtain ⟨hlow, hhigh, hdigits, hlist⟩ := hinside
  refine ⟨codeLegal_byteFields ⟨hlow, hhigh⟩ (digitsValid_iff.2 hdigits), ?_, by simp [destinationOf], by simp [destinationOf]⟩
  rw [destinationOf, readLE_two]
  exact hlist

/-! ### Route list records (R6, R13) -/

/-- The group index of step `i` of a route list record, counted from 0 (Table 10-15). -/
def stepGroup (r : List Byte) (i : Nat) : Nat := byteAt r (8 + 3 * i) + 256 * byteAt r (8 + 3 * i + 1)

/-- The kind code of step `i` of a route list record, counted from 0 (Table 10-15). -/
def stepCode (r : List Byte) (i : Nat) : Nat := byteAt r (10 + 3 * i)

theorem rawSteps_eq (r : List Byte) : rawSteps r = (List.range (byteAt r 2)).map (fun i => (stepGroup r i, stepCode r i)) := by
  simp only [rawSteps, stepGroup, stepCode, readLE_two]

theorem rawSteps_length (r : List Byte) : (rawSteps r).length = byteAt r 2 := by simp [rawSteps]

theorem rawSteps_any {r : List Byte} {p : Nat × Nat → Bool} :
    (rawSteps r).any p = true ↔ ∃ i < byteAt r 2, p (stepGroup r i, stepCode r i) = true := by
  simp [rawSteps_eq]

theorem nodup_map_range_iff {n : Nat} {f : Nat → Nat} :
    ((List.range n).map f).Nodup ↔ ¬ ∃ j < n, ∃ i < j, f i = f j := by
  rw [List.nodup_map_iff_inj_on List.nodup_range]
  constructor
  · rintro h ⟨j, hj, i, hi, he⟩
    exact absurd (h i (by simp; omega) j (by simpa using hj) he) (by omega)
  · intro h i hi j hj he
    simp only [List.mem_range] at hi hj
    by_contra hne
    rcases Nat.lt_or_gt_of_ne hne with hlt | hlt
    · exact h ⟨j, hj, i, hlt, he⟩
    · exact h ⟨i, hi, j, hlt, he.symm⟩

theorem tail_any_map_range_iff {α : Type} {n : Nat} {f : Nat → α} {p : α → Bool} :
    ((List.range n).map f).tail.any p = true ↔ ∃ i < n, 0 < i ∧ p (f i) = true := by
  cases n with
  | zero => simp
  | succ n =>
    rw [List.range_succ_eq_map]
    simp only [List.map_cons, List.tail_cons, List.map_map, List.any_map, List.any_eq_true, List.mem_range,
      Function.comp_apply]
    constructor
    · rintro ⟨i, hi, h⟩; exact ⟨i + 1, by omega, by omega, h⟩
    · rintro ⟨i, hi, hpos, h⟩
      obtain ⟨j, rfl⟩ := Nat.exists_eq_succ_of_ne_zero (by omega : i ≠ 0)
      exact ⟨j, by omega, h⟩

/-- Kind codes fall into those before the POOL steps, the POOL steps and those after. -/
def PoolRun (ks : List Nat) : Prop :=
  ∃ pre pool post, ks = pre ++ pool ++ post ∧ (∀ k ∈ pre, k ≠ 3) ∧ (∀ k ∈ pool, k = 3) ∧ ∀ k ∈ post, k ≠ 3

theorem onePool_iff {ks : List Nat} : onePool ks = true ↔ PoolRun ks := by
  constructor
  · intro h
    refine ⟨ks.takeWhile (fun k => decide (k ≠ 3)),
      (ks.dropWhile (fun k => decide (k ≠ 3))).takeWhile (fun k => decide (k = 3)),
      (ks.dropWhile (fun k => decide (k ≠ 3))).dropWhile (fun k => decide (k = 3)), ?_, fun k hk => ?_, fun k hk => ?_,
      fun k hk => ?_⟩
    · rw [List.append_assoc, List.takeWhile_append_dropWhile, List.takeWhile_append_dropWhile]
    · simpa using List.mem_takeWhile_imp hk
    · simpa using List.mem_takeWhile_imp hk
    · simpa using List.all_eq_true.1 h k hk
  · rintro ⟨pre, pool, post, rfl, hpre, hpool, hpost⟩
    have hfirst : (pre ++ pool ++ post).dropWhile (fun k => decide (k ≠ 3)) = (pool ++ post).dropWhile (fun k => decide (k ≠ 3)) := by
      rw [List.append_assoc, List.dropWhile_append_of_pos (by simpa using hpre)]
    rw [onePool, hfirst]
    cases pool with
    | nil =>
      have hnone : post.dropWhile (fun k => decide (k ≠ 3)) = [] := List.dropWhile_eq_nil_iff.2 (by simpa using hpost)
      rw [List.nil_append, hnone]; rfl
    | cons k pool =>
      have hk : k = 3 := hpool k (by simp)
      rw [List.cons_append, List.dropWhile_cons_of_neg (by simp [hk]), List.dropWhile_cons_of_pos (by simp [hk]),
        List.dropWhile_append_of_pos (fun x hx => by simpa using hpool x (by simp [hx]))]
      refine List.all_eq_true.2 fun x hx => ?_
      simpa using hpost x (List.dropWhile_sublist _ |>.subset hx)

/-- Two POOL steps with another step between them. -/
def PoolBroken (n : Nat) (kind : Nat → Nat) : Prop := ∃ k < n, ∃ j < k, ∃ i < j, kind i = 3 ∧ kind j ≠ 3 ∧ kind k = 3

theorem getElem?_map_range {α : Type} {n i : Nat} {f : Nat → α} {x : α} :
    ((List.range n).map f)[i]? = some x ↔ i < n ∧ f i = x := by
  rw [List.getElem?_map, Option.map_eq_some_iff]
  constructor
  · rintro ⟨a, ha, rfl⟩
    obtain ⟨hi, rfl⟩ := List.getElem?_eq_some_iff.1 ha
    exact ⟨by simpa using hi, by simp⟩
  · rintro ⟨hi, rfl⟩
    exact ⟨i, by simp [hi], rfl⟩

theorem PoolRun.not_broken {n : Nat} {kind : Nat → Nat} (h : PoolRun ((List.range n).map kind)) : ¬ PoolBroken n kind := by
  obtain ⟨pre, pool, post, hks, hpre, hpool, hpost⟩ := h
  have hget : ∀ m < n, (pre ++ pool ++ post)[m]? = some (kind m) := fun m hm => by
    rw [← hks, getElem?_map_range]; exact ⟨hm, rfl⟩
  have hinside : ∀ m < n, kind m = 3 → pre.length ≤ m ∧ m < pre.length + pool.length := by
    intro m hm hkind
    have hm' := hget m hm
    rw [List.append_assoc] at hm'
    constructor
    · by_contra hlt
      rw [List.getElem?_append_left (by omega)] at hm'
      exact hpre _ (List.mem_of_getElem? hm') hkind
    · by_contra hge
      rw [List.getElem?_append_right (by omega), List.getElem?_append_right (by omega)] at hm'
      exact hpost _ (List.mem_of_getElem? hm') hkind
  rintro ⟨k, hk, j, hj, i, hi, hki, hkj, hkk⟩
  have hlow := (hinside i (by omega) hki).1
  have hhigh := (hinside k hk hkk).2
  have hj' := hget j (by omega)
  rw [List.append_assoc, List.getElem?_append_right (by omega), List.getElem?_append_left (by omega)] at hj'
  exact hkj (hpool _ (List.mem_of_getElem? hj'))

/-- Adding a step in front keeps the run, or shows two POOL steps with another between them. -/
theorem poolRun_or_broken (ks : List Nat) :
    PoolRun ks ∨ ∃ i j k x : Nat, i < j ∧ j < k ∧ ks[i]? = some 3 ∧ ks[j]? = some x ∧ x ≠ 3 ∧ ks[k]? = some 3 := by
  induction ks with
  | nil => exact .inl ⟨[], [], [], by simp⟩
  | cons y ks ih =>
    rcases ih with ⟨pre, pool, post, rfl, hpre, hpool, hpost⟩ | ⟨i, j, k, x, hij, hjk, hi, hj, hx, hk⟩
    · by_cases hy : y = 3
      · subst hy
        cases pool with
        | nil => exact .inl ⟨[], [3], pre ++ post, by simp, by simp, by simp, fun k hk => by
            rcases List.mem_append.1 hk with hk | hk
            · exact hpre k hk
            · exact hpost k hk⟩
        | cons p pool =>
          cases pre with
          | nil => exact .inl ⟨[], 3 :: p :: pool, post, by simp, by simp, by simpa using hpool, hpost⟩
          | cons x pre =>
            have hp : p = 3 := hpool p (by simp)
            exact .inr ⟨0, 1, 2 + pre.length, x, by omega, by omega, by simp, by simp, hpre x (by simp), by
              rw [show 2 + pre.length = pre.length + 1 + 1 by omega]; simp [hp]⟩
      · exact .inl ⟨y :: pre, pool, post, by simp, by simpa [hy] using hpre, hpool, hpost⟩
    · exact .inr ⟨i + 1, j + 1, k + 1, x, by omega, by omega, by simpa using hi, by simpa using hj, hx, by simpa using hk⟩

theorem poolRun_iff {n : Nat} {kind : Nat → Nat} : PoolRun ((List.range n).map kind) ↔ ¬ PoolBroken n kind := by
  refine ⟨PoolRun.not_broken, fun h => (poolRun_or_broken _).resolve_right ?_⟩
  rintro ⟨i, j, k, x, hij, hjk, hi, hj, hx, hk⟩
  rw [getElem?_map_range] at hi hj hk
  exact h ⟨k, hk.1, j, hjk, i, hij, hi.2, hj.2 ▸ hx, hk.2⟩

/-- The head of a route list record is malformed: a reserved byte is not zero, or it counts more than 8 steps. -/
def RouteListMalformed (r : List Byte) : Prop := (∃ i < 5, byteAt r (3 + i) ≠ 0) ∨ 8 < byteAt r 2

/-- A step's kind code is none of 1 to 3. -/
def BadStepKind (r : List Byte) : Prop := ∃ i < byteAt r 2, stepCode r i < 1 ∨ 3 < stepCode r i

/-- A step's group index is above 1,023. -/
def BadStepGroup (r : List Byte) : Prop := ∃ i < byteAt r 2, 1023 < stepGroup r i

/-- The steps stand in no order that R6 allows: a group twice, a DIRECT step after the first, or a broken POOL run. -/
def BadStepOrder (r : List Byte) : Prop :=
  (∃ j < byteAt r 2, ∃ i < j, stepGroup r i = stepGroup r j) ∨ (∃ i < byteAt r 2, 0 < i ∧ stepCode r i = 1) ∨
    PoolBroken (byteAt r 2) (stepCode r)

/-- The conditions of R13's two tables, each the first that does not hold (R6, R13). -/
theorem badRouteList_spec (r : List Byte) :
    (RouteListMalformed r → badRouteList r = some .format) ∧
    (¬ RouteListMalformed r →
      (2047 < byteAt r 0 + 256 * byteAt r 1 → badRouteList r = some .range) ∧
      (byteAt r 0 + 256 * byteAt r 1 ≤ 2047 →
        (BadStepKind r → badRouteList r = some .format) ∧
        (¬ BadStepKind r → BadStepGroup r → badRouteList r = some .range) ∧
        (¬ BadStepKind r → ¬ BadStepGroup r → BadStepOrder r → badRouteList r = some .format) ∧
        (¬ BadStepKind r → ¬ BadStepGroup r → ¬ BadStepOrder r → badRouteList r = none))) := by
  have hreserved : zeroBytes r 3 5 = false ↔ ∃ i < 5, byteAt r (3 + i) ≠ 0 := zeroBytes_eq_false_iff
  have hkind : (rawSteps r).any (fun p => decide (p.2 < 1 ∨ 3 < p.2)) = true ↔ BadStepKind r := by
    rw [rawSteps_any]; simp [BadStepKind]
  have hgroup : (rawSteps r).any (fun p => decide (1023 < p.1)) = true ↔ BadStepGroup r := by
    rw [rawSteps_any]; simp [BadStepGroup]
  have hnodup : ¬ ((rawSteps r).map Prod.fst).Nodup ↔ ∃ j < byteAt r 2, ∃ i < j, stepGroup r i = stepGroup r j := by
    rw [rawSteps_eq, List.map_map, ← not_iff_not, not_not]
    exact nodup_map_range_iff
  have hdirect : (rawSteps r).tail.any (fun p => decide (p.2 = 1)) = true ↔ ∃ i < byteAt r 2, 0 < i ∧ stepCode r i = 1 := by
    rw [rawSteps_eq, tail_any_map_range_iff]; simp
  have hpool : onePool ((rawSteps r).map Prod.snd) = false ↔ PoolBroken (byteAt r 2) (stepCode r) := by
    rw [← Bool.not_eq_true, onePool_iff, rawSteps_eq, List.map_map, ← not_iff_not, not_not]
    exact poolRun_iff
  rw [badRouteList, readLE_two, Nat.zero_add, RouteListMalformed, BadStepOrder, ← hreserved, ← hkind, ← hgroup, ← hnodup,
    ← hdirect, ← hpool]
  refine ⟨?_, fun hm => ?_⟩
  · rintro (h | h)
    · rw [if_pos h]
    · rw [if_pos h, ite_self]
  obtain ⟨hreserved, hcount⟩ := not_or.1 hm
  rw [if_neg hreserved, if_neg hcount]
  refine ⟨fun hi => if_pos hi, fun hi => ?_⟩
  rw [if_neg (by omega)]
  refine ⟨fun hk => if_pos hk, fun hk hg => ?_, fun hk hg => ?_, fun hk hg ho => ?_⟩ <;> rw [if_neg hk]
  · rw [if_pos hg]
  · rw [if_neg hg]
    rintro (ho | ho | ho)
    · rw [if_pos ho]
    · rw [if_pos ho, ite_self]
    · rw [if_pos ho, ite_self, ite_self]
  · obtain ⟨hdistinct, hdirect, hpool⟩ := by simpa only [not_or] using ho
    rw [if_neg hg, if_neg hdistinct, if_neg hdirect, if_neg hpool]

/-- What a good route list record meets. -/
theorem good_of_badRouteList_none {r : List Byte} (h : badRouteList r = none) :
    ¬ RouteListMalformed r ∧ byteAt r 0 + 256 * byteAt r 1 ≤ 2047 ∧ ¬ BadStepKind r ∧ ¬ BadStepGroup r ∧ ¬ BadStepOrder r := by
  obtain ⟨hmalformed, hspec⟩ := badRouteList_spec r
  have hm : ¬ RouteListMalformed r := fun hc => by simp [hmalformed hc] at h
  obtain ⟨hrange, hspec⟩ := hspec hm
  have hi : byteAt r 0 + 256 * byteAt r 1 ≤ 2047 := not_lt.1 fun hc => by simp [hrange hc] at h
  obtain ⟨hkind, hgroup, horder, -⟩ := hspec hi
  have hk : ¬ BadStepKind r := fun hc => by simp [hkind hc] at h
  have hg : ¬ BadStepGroup r := fun hc => by simp [hgroup hk hc] at h
  exact ⟨hm, hi, hk, hg, fun hc => by simp [horder hk hg hc] at h⟩

theorem stepsOf_length (r : List Byte) : (stepsOf r).length = byteAt r 2 := by
  rw [stepsOf, List.length_map, rawSteps_length]

theorem stepsOf_getElem? {r : List Byte} {i : Nat} (hi : i < byteAt r 2) :
    (stepsOf r)[i]? = some { group := stepGroup r i, kind := (kindOfCode (stepCode r i)).getD .direct } := by
  rw [stepsOf, rawSteps_eq, List.map_map, getElem?_map_range]
  exact ⟨hi, rfl⟩

theorem kindOfCode_code (k : StepKind) : kindOfCode k.code = some k := by cases k <;> rfl

theorem kindOfCode_eq {n : Nat} (h : ¬ (n < 1 ∨ 3 < n)) (k : StepKind) : (kindOfCode n).getD .direct = k ↔ n = k.code := by
  have hn : n = 1 ∨ n = 2 ∨ n = 3 := by omega
  rcases hn with rfl | rfl | rfl <;> cases k <;> simp [kindOfCode, StepKind.code]

/-- A good record of at least one step holds a route list that R6 allows. -/
theorem stepsOf_legal {r : List Byte} (h : badRouteList r = none) (hne : stepsOf r ≠ []) : RouteListLegal (stepsOf r) := by
  obtain ⟨hmalformed, -, hkind, hgroup, horder⟩ := good_of_badRouteList_none h
  simp only [RouteListMalformed, not_or, not_lt] at hmalformed
  simp only [BadStepOrder, not_or] at horder
  obtain ⟨hdistinct, hdirect, hpool⟩ := horder
  have hgroups : (stepsOf r).map RouteStep.group = (List.range (byteAt r 2)).map (stepGroup r) := by
    rw [stepsOf, rawSteps_eq, List.map_map, List.map_map]; rfl
  have hcode : ∀ i < byteAt r 2, ∀ k : StepKind, (kindOfCode (stepCode r i)).getD .direct = k ↔ stepCode r i = k.code :=
    fun i hi => kindOfCode_eq fun hc => hkind ⟨i, hi, hc⟩
  refine ⟨List.length_pos_of_ne_nil hne, by rw [stepsOf_length]; exact hmalformed.2, ?_, fun x hx => ?_, fun x hx => ?_, ?_⟩
  · rw [hgroups]; exact nodup_map_range_iff.2 hdistinct
  · have hx' := List.mem_map_of_mem (f := RouteStep.group) hx
    rw [hgroups] at hx'
    obtain ⟨i, hi, hxi⟩ := List.mem_map.1 hx'
    exact not_lt.1 fun hc => hgroup ⟨i, List.mem_range.1 hi, hxi ▸ hc⟩
  · obtain ⟨i, hi⟩ := List.mem_iff_getElem?.1 hx
    rw [List.getElem?_tail] at hi
    have hlt : i + 1 < byteAt r 2 := by
      rw [← stepsOf_length]; exact (List.getElem?_eq_some_iff.1 hi).1
    rw [stepsOf_getElem? hlt, Option.some.injEq] at hi
    rw [← hi]
    intro hc
    exact hdirect ⟨i + 1, hlt, by omega, (hcode _ hlt .direct).1 hc⟩
  · obtain ⟨pre, pool, post, hks, hpre, hpool', hpost⟩ := poolRun_iff.2 hpool
    have hcodes : (stepsOf r).map (fun x => x.kind.code) = pre ++ pool ++ post := by
      rw [← hks, stepsOf, rawSteps_eq, List.map_map, List.map_map]
      refine List.map_congr_left fun i hi => ?_
      exact ((hcode i (List.mem_range.1 hi) _).1 rfl).symm
    obtain ⟨before, after, hsteps, hbefore, hafter⟩ := List.map_eq_append_iff.1 hcodes
    obtain ⟨first, run, hfirst, hpreeq, hrun⟩ := List.map_eq_append_iff.1 hbefore
    have hcode3 : ∀ x : RouteStep, x.kind = .pool ↔ x.kind.code = 3 := fun x => by cases x.kind <;> simp [StepKind.code]
    refine ⟨first, run, after, by rw [hsteps, hfirst], fun x hx => ?_, fun x hx => ?_, fun x hx => ?_⟩
    · rw [Ne, hcode3]; exact hpre _ (hpreeq ▸ List.mem_map_of_mem (f := fun x => x.kind.code) hx)
    · rw [hcode3]; exact hpool' _ (hrun ▸ List.mem_map_of_mem (f := fun x => x.kind.code) hx)
    · rw [Ne, hcode3]; exact hpost _ (hafter ▸ List.mem_map_of_mem (f := fun x => x.kind.code) hx)

/-! ### Cells and holidays (R14, R15) -/

theorem badCell_eq (r : List Byte) :
    badCell r = if byteAt r 0 / 16 ≠ 0 then some .format else if 7 < byteAt r 0 % 16 then some .range else none := by
  unfold badCell
  by_cases hformat : 16 ≤ byteAt r 0
  · have hhigh : byteAt r 0 / 16 ≠ 0 := by omega
    rw [if_pos hformat, if_pos hhigh]
  · have hhigh : byteAt r 0 / 16 = 0 := by omega
    have hlow : byteAt r 0 % 16 = byteAt r 0 := by omega
    rw [if_neg hformat, if_neg (not_not.2 hhigh), hlow]

/-- A month and a day in their ranges (R15). -/
def HolidayInside (r : List Byte) : Prop := 1 ≤ byteAt r 0 ∧ byteAt r 0 ≤ 12 ∧ 1 ≤ byteAt r 1 ∧ byteAt r 1 ≤ 31

theorem badHoliday_spec (r : List Byte) :
    (byteAt r 2 ≠ 0 ∨ byteAt r 3 ≠ 0 → badHoliday r = some .format) ∧
    (byteAt r 2 = 0 → byteAt r 3 = 0 → ¬ HolidayInside r → badHoliday r = some .range) ∧
    (byteAt r 2 = 0 → byteAt r 3 = 0 → HolidayInside r → badHoliday r = none) := by
  have hreserved : zeroBytes r 2 2 = false ↔ byteAt r 2 ≠ 0 ∨ byteAt r 3 ≠ 0 := by
    rw [zeroBytes_eq_false_iff]
    constructor
    · rintro ⟨i, hi, h⟩
      obtain rfl | rfl : i = 0 ∨ i = 1 := by omega
      · exact .inl h
      · exact .inr h
    · rintro (h | h)
      · exact ⟨0, by omega, h⟩
      · exact ⟨1, by omega, h⟩
  unfold badHoliday HolidayInside
  refine ⟨fun h => if_pos (hreserved.2 h), fun h2 h3 ho => ?_, fun h2 h3 ho => ?_⟩ <;> rw [if_neg (by simp [hreserved, h2, h3])]
  · by_cases hmonth : byteAt r 0 < 1 ∨ 12 < byteAt r 0
    · rw [if_pos hmonth]
    · rw [if_neg hmonth, if_pos (by omega)]
  · rw [if_neg (by omega), if_neg (by omega)]

theorem holidayInside_of_badHoliday_none {r : List Byte} (h : badHoliday r = none) : HolidayInside r := by
  obtain ⟨hformat, hrange, -⟩ := badHoliday_spec r
  have hreserved : byteAt r 2 = 0 ∧ byteAt r 3 = 0 := by
    by_contra hne
    simp [hformat (by tauto)] at h
  by_contra ho
  simp [hrange hreserved.1 hreserved.2 ho] at h

/-- Settles O40: the specs of the four kinds of records, and the fields read as Table 10-15 lays them out. -/
theorem recordsAreReadAndChecked : Obligations.RecordsAreReadAndChecked := by
  intro r
  obtain ⟨hdFormat, hdRange, hdGood⟩ := badDestination_spec r
  obtain ⟨hmalformed, hroute⟩ := badRouteList_spec r
  refine ⟨⟨hdFormat, hdRange, hdGood, byteFields_length r 4 _, fun i hi => ?_, readLE_two r 2, rfl, rfl⟩,
    ⟨hmalformed, fun hm => (hroute hm).1, fun hm hi => ((hroute hm).2 hi).1, fun hm hi => ((hroute hm).2 hi).2.1,
      fun hm hi => ((hroute hm).2 hi).2.2.1, fun hm hi => ((hroute hm).2 hi).2.2.2, stepsOf_length r, fun i hi k hk => ?_⟩,
    ⟨fun h => ?_, fun h0 h7 => ?_, fun h0 h7 => ?_⟩, badHoliday_spec r⟩
  · exact getElem?_map_range.2 ⟨hi, rfl⟩
  · have hkind : kindOfCode (stepCode r i) = some k := by
      rw [show stepCode r i = k.code from hk.symm, kindOfCode_code]
    rw [stepsOf_getElem? hi, hkind]
    rfl
  · rw [badCell_eq, if_pos h]
  · rw [badCell_eq, if_neg (not_not.2 h0), if_pos h7]
  · rw [badCell_eq, if_neg (not_not.2 h0), if_neg (not_lt.2 h7)]

/-! ### Destination tables (R12, R16) -/

theorem mem_upsertDest {d e : Dest} {t : List Dest} (ht : (t.map Dest.code).Nodup) :
    e ∈ upsertDest d t ↔ e = d ∨ (e ∈ t ∧ e.code ≠ d.code) := by
  induction t with
  | nil => simp [upsertDest]
  | cons x t ih =>
    rw [List.map_cons, List.nodup_cons] at ht
    rw [upsertDest]
    split
    next hx =>
      have hother : ∀ y ∈ t, y.code ≠ d.code := fun y hy hc => ht.1 (hx ▸ hc ▸ List.mem_map_of_mem hy)
      grind
    next hx => rw [List.mem_cons, ih ht.2, List.mem_cons]; grind

theorem upsertDest_codes {d : Dest} {t : List Dest} {c : List Nat} :
    c ∈ (upsertDest d t).map Dest.code ↔ c = d.code ∨ c ∈ t.map Dest.code := by
  induction t with
  | nil => simp [upsertDest]
  | cons x t ih =>
    rw [upsertDest]
    split
    next hx => simp [hx]
    next => simp only [List.map_cons, List.mem_cons, ih]; tauto

theorem upsertDest_nodup {d : Dest} {t : List Dest} (ht : (t.map Dest.code).Nodup) : ((upsertDest d t).map Dest.code).Nodup := by
  induction t with
  | nil => simp [upsertDest]
  | cons x t ih =>
    rw [List.map_cons, List.nodup_cons] at ht
    rw [upsertDest]
    split
    next hx => rw [List.map_cons, List.nodup_cons, ← hx]; exact ht
    next hx =>
      rw [List.map_cons, List.nodup_cons, upsertDest_codes]
      exact ⟨by rintro (h | h); exacts [hx h, ht.1 h], ih ht.2⟩

/-- A table after the records of a block, the last of each code prevailing. -/
def upserted (base : List Dest) (ds : List Dest) : List Dest := ds.foldl (fun t d => upsertDest d t) base

theorem upserted_concat (base ds : List Dest) (d : Dest) : upserted base (ds ++ [d]) = upsertDest d (upserted base ds) := by
  simp [upserted]

theorem upserted_nodup {base : List Dest} (h : (base.map Dest.code).Nodup) (ds : List Dest) :
    ((upserted base ds).map Dest.code).Nodup := by
  induction ds using List.reverseRecOn with
  | nil => exact h
  | append_singleton ds d ih => rw [upserted_concat]; exact upsertDest_nodup ih

/-- The entry of each code is that of the last record of the code, or the old one where no record has it. -/
theorem mem_upserted {base : List Dest} (h : (base.map Dest.code).Nodup) (ds : List Dest) (e : Dest) :
    e ∈ upserted base ds ↔
      (∃ n : Nat, ds[n]? = some e ∧ ∀ (m : Nat) (q : Dest), n < m → ds[m]? = some q → q.code ≠ e.code) ∨
      (e ∈ base ∧ ∀ d ∈ ds, d.code ≠ e.code) := by
  induction ds using List.reverseRecOn with
  | nil => simp [upserted]
  | append_singleton ds d ih =>
    rw [upserted_concat, mem_upsertDest (upserted_nodup h ds), ih]
    constructor
    · rintro (rfl | ⟨⟨n, hn, hlast⟩ | ⟨hbase, hnone⟩, hcode⟩)
      · refine .inl ⟨ds.length, by simp, fun m q hm hq => ?_⟩
        rw [List.getElem?_eq_none (by simp; omega)] at hq
        simp at hq
      · have hlt : n < ds.length := (List.getElem?_eq_some_iff.1 hn).1
        refine .inl ⟨n, by rw [List.getElem?_append_left hlt, hn], fun m q hm hq => ?_⟩
        rcases Nat.lt_or_ge m ds.length with hm' | hm'
        · exact hlast m q hm (by rwa [List.getElem?_append_left hm'] at hq)
        · rw [List.getElem?_append_right hm'] at hq
          obtain ⟨-, rfl⟩ := by simpa [List.getElem?_singleton] using hq
          exact hcode.symm
      · exact .inr ⟨hbase, fun q hq => by
          rcases List.mem_append.1 hq with hq | hq
          · exact hnone q hq
          · rw [List.mem_singleton.1 hq]; exact hcode.symm⟩
    · rintro (⟨n, hn, hlast⟩ | ⟨hbase, hnone⟩)
      · rcases Nat.lt_or_ge n ds.length with hlt | hge
        · rw [List.getElem?_append_left hlt] at hn
          refine .inr ⟨.inl ⟨n, hn, fun m q hm hq => hlast m q hm ?_⟩, (hlast ds.length d hlt (by simp)).symm⟩
          rw [List.getElem?_append_left (List.getElem?_eq_some_iff.1 hq).1, hq]
        · rw [List.getElem?_append_right hge] at hn
          obtain ⟨-, rfl⟩ := by simpa [List.getElem?_singleton] using hn
          exact .inl rfl
      · exact .inr ⟨.inr ⟨hbase, fun q hq => hnone q (by simp [hq])⟩, (hnone d (by simp)).symm⟩

theorem appliedDests_eq (mode : LoadMode) (old : List Dest) (records : List (List Byte)) :
    appliedDests mode old records = upserted (if mode = .merge then old else []) (records.map destinationOf) := by
  cases mode <;> rfl

theorem appliedBase_nodup (mode : LoadMode) {old : List Dest} (h : (old.map Dest.code).Nodup) :
    ((if mode = .merge then old else []).map Dest.code).Nodup := by
  split
  · exact h
  · exact List.nodup_nil

theorem appliedDests_nodup (mode : LoadMode) {old : List Dest} (h : (old.map Dest.code).Nodup) (records : List (List Byte)) :
    ((appliedDests mode old records).map Dest.code).Nodup := by
  rw [appliedDests_eq]
  exact upserted_nodup (appliedBase_nodup mode h) _

/-- What the table holds after an apply: the last record of each code, and with MERGE the entries of the other codes (R16). -/
theorem mem_appliedDests (mode : LoadMode) {old : List Dest} (h : (old.map Dest.code).Nodup) (records : List (List Byte))
    (e : Dest) :
    e ∈ appliedDests mode old records ↔
      (∃ (n : Nat) (r : List Byte), records[n]? = some r ∧ e = destinationOf r ∧
        ∀ (m : Nat) (q : List Byte), n < m → records[m]? = some q → (destinationOf q).code ≠ e.code) ∨
      (mode = .merge ∧ e ∈ old ∧ ∀ r ∈ records, (destinationOf r).code ≠ e.code) := by
  rw [appliedDests_eq, mem_upserted (appliedBase_nodup mode h)]
  refine or_congr ⟨?_, ?_⟩ ?_
  · rintro ⟨n, hn, hlast⟩
    obtain ⟨r, hr, rfl⟩ := Option.map_eq_some_iff.1 (List.getElem?_map (l := records) ▸ hn)
    exact ⟨n, r, hr, rfl, fun m q hm hq => hlast m _ hm (by rw [List.getElem?_map, hq]; rfl)⟩
  · rintro ⟨n, r, hr, rfl, hlast⟩
    refine ⟨n, by rw [List.getElem?_map, hr]; rfl, fun m q hm hq => ?_⟩
    rw [List.getElem?_map, Option.map_eq_some_iff] at hq
    obtain ⟨x, hx, rfl⟩ := hq
    exact hlast m x hm hx
  · cases mode <;> simp

/-! ### Route lists, band maps and holidays (R14, R15, R17) -/

theorem appliedLists_concat (old : Table (List RouteStep)) (records : List (List Byte)) (r : List Byte) :
    appliedLists old (records ++ [r]) = Table.write (appliedLists old records) [] (readLE r 0 2) (stepsOf r) := by
  simp [appliedLists]

/-- The last record naming an index prevails (R17). -/
theorem read_appliedLists (old : Table (List RouteStep)) (records : List (List Byte)) (i : Nat) :
    Table.read (appliedLists old records) [] i =
      ((records.reverse.find? (fun r => decide (readLE r 0 2 = i))).map stepsOf).getD (Table.read old [] i) := by
  induction records using List.reverseRecOn with
  | nil => rfl
  | append_singleton records r ih =>
    rw [appliedLists_concat, Table.read_write, List.reverse_concat, List.find?_cons, ih]
    by_cases hi : readLE r 0 2 = i
    · rw [if_pos hi.symm]; simp [hi]
    · rw [if_neg (Ne.symm hi)]; simp [hi]

theorem canonical_appliedLists {old : Table (List RouteStep)} (h : Table.canonical old [] = true) (records : List (List Byte)) :
    Table.canonical (appliedLists old records) [] = true := by
  induction records using List.reverseRecOn with
  | nil => exact h
  | append_singleton records r ih => rw [appliedLists_concat]; exact Table.canonical_write _ _ ih

/-- What the route lists list after an apply was listed before or stands in a record that holds a step. -/
theorem mem_appliedLists {old : Table (List RouteStep)} {records : List (List Byte)} {e : Nat × List RouteStep}
    (he : e ∈ appliedLists old records) :
    e ∈ old ∨ ∃ r ∈ records, stepsOf r ≠ [] ∧ e = (readLE r 0 2, stepsOf r) := by
  induction records using List.reverseRecOn with
  | nil => exact .inl he
  | append_singleton records r ih =>
    rw [appliedLists_concat, Table.write] at he
    have hold (he : e ∈ appliedLists old records) :
        e ∈ old ∨ ∃ q ∈ records ++ [r], stepsOf q ≠ [] ∧ e = (readLE q 0 2, stepsOf q) :=
      (ih he).imp_right fun ⟨q, hq, h⟩ => ⟨q, by simp [hq], h⟩
    split at he
    · exact hold (Table.mem_remove.1 he).1
    next hne =>
      rcases Table.mem_insert.1 he with rfl | he
      · exact .inr ⟨r, by simp, hne, rfl⟩
      · exact hold (Table.mem_remove.1 he).1

/-- The band map's cells from number `n` on. -/
def cellsFrom (n : Nat) (records : List (List Byte)) : Table Nat := (records.zipIdx n).map (fun p => (p.2, byteAt p.1 0))

theorem appliedMap_eq (records : List (List Byte)) :
    appliedMap records = (cellsFrom 1 records).filter (fun e => decide (e.2 ≠ 0)) := rfl

theorem above_cellsFrom {n k : Nat} (h : n < k) (records : List (List Byte)) : Table.above n (cellsFrom k records) := by
  intro e he
  obtain ⟨p, hp, rfl⟩ := List.mem_map.1 he
  have := List.le_snd_of_mem_zipIdx hp
  simp only
  omega

theorem rising_cellsFrom (n : Nat) (records : List (List Byte)) : Table.rising (cellsFrom n records) = true := by
  induction records generalizing n with
  | nil => rfl
  | cons r records ih => exact (Table.rising_cons _ _ _).2 ⟨above_cellsFrom (by omega) records, ih (n + 1)⟩

theorem canonical_appliedMap (records : List (List Byte)) : Table.canonical (appliedMap records) 0 = true :=
  Table.canonical_iff.2 ⟨Table.rising_filter _ (rising_cellsFrom 1 records), fun _ he => by
    simpa using (List.mem_filter.1 he).2⟩

theorem mem_cellsFrom {n : Nat} {records : List (List Byte)} {e : Nat × Nat} :
    e ∈ cellsFrom n records ↔ ∃ i r, records[i]? = some r ∧ e = (n + i, byteAt r 0) := by
  rw [cellsFrom, List.mem_map]
  constructor
  · rintro ⟨⟨r, k⟩, hp, rfl⟩
    obtain ⟨hk, hr⟩ := List.mem_zipIdx_iff_le_and_getElem?_sub.1 hp
    exact ⟨k - n, r, hr, by simp only [Prod.mk.injEq, and_true]; omega⟩
  · rintro ⟨i, r, hr, rfl⟩
    exact ⟨(r, n + i), List.mem_zipIdx_iff_le_and_getElem?_sub.2 ⟨by simp, by simpa using hr⟩, rfl⟩

/-- Cell n holds what record n says (R14). -/
theorem read_appliedMap {records : List (List Byte)} {n : Nat} {r : List Byte} (hr : records[n]? = some r) :
    Table.read (appliedMap records) 0 (n + 1) = byteAt r 0 := by
  have hcell : (n + 1, byteAt r 0) ∈ cellsFrom 1 records := mem_cellsFrom.2 ⟨n, r, hr, by rw [Nat.add_comm]⟩
  rw [appliedMap_eq, Table.read_filter_ne 0 (rising_cellsFrom 1 records), Table.read,
    Table.find_of_mem (rising_cellsFrom 1 records) hcell]
  rfl

theorem mem_insertHoliday {h k : Nat × Nat} {t : List (Nat × Nat)} : k ∈ insertHoliday h t ↔ k = h ∨ k ∈ t := by
  induction t with
  | nil => simp [insertHoliday]
  | cons x t ih =>
    rw [insertHoliday]
    split_ifs with hx hbefore
    · simp [hx]
    · exact List.mem_cons
    · rw [List.mem_cons, ih, List.mem_cons]; tauto

/-- The order of month-days in the year (R15). -/
def DayBefore (h k : Nat × Nat) : Prop := h.1 < k.1 ∨ (h.1 = k.1 ∧ h.2 < k.2)

theorem DayBefore.trans {h k l : Nat × Nat} (hk : DayBefore h k) (kl : DayBefore k l) : DayBefore h l := by
  unfold DayBefore at *
  omega

theorem dayBefore_or {h k : Nat × Nat} (hne : h ≠ k) (hnot : ¬ DayBefore h k) : DayBefore k h := by
  have : ¬ (h.1 = k.1 ∧ h.2 = k.2) := fun hc => hne (Prod.ext hc.1 hc.2)
  unfold DayBefore at *
  omega

theorem pairwise_insertHoliday {h : Nat × Nat} {t : List (Nat × Nat)} (ht : t.Pairwise DayBefore) :
    (insertHoliday h t).Pairwise DayBefore := by
  induction t with
  | nil => exact List.pairwise_singleton _ _
  | cons x t ih =>
    obtain ⟨hx, htail⟩ := List.pairwise_cons.1 ht
    rw [insertHoliday]
    split_ifs with hsame hbefore
    · exact ht
    · refine List.pairwise_cons.2 ⟨fun y hy => ?_, ht⟩
      rcases List.mem_cons.1 hy with rfl | hy
      · exact hbefore
      · exact DayBefore.trans hbefore (hx y hy)
    · refine List.pairwise_cons.2 ⟨fun y hy => ?_, ih htail⟩
      rcases mem_insertHoliday.1 hy with rfl | hy
      · exact dayBefore_or hsame hbefore
      · exact hx y hy

theorem insertHoliday_length_le (h : Nat × Nat) (t : List (Nat × Nat)) : (insertHoliday h t).length ≤ t.length + 1 := by
  induction t with
  | nil => simp [insertHoliday]
  | cons x t ih =>
    rw [insertHoliday]
    split_ifs
    · simp
    · simp
    · simpa using ih

theorem appliedHolidays_concat (records : List (List Byte)) (r : List Byte) :
    appliedHolidays (records ++ [r]) = insertHoliday (byteAt r 0, byteAt r 1) (appliedHolidays records) := by
  simp [appliedHolidays]

theorem mem_appliedHolidays {records : List (List Byte)} {h : Nat × Nat} :
    h ∈ appliedHolidays records ↔ ∃ r ∈ records, h = (byteAt r 0, byteAt r 1) := by
  induction records using List.reverseRecOn with
  | nil => simp [appliedHolidays]
  | append_singleton records r ih =>
    rw [appliedHolidays_concat, mem_insertHoliday, ih]
    simp only [List.mem_append, List.mem_singleton, or_and_right, exists_or, exists_eq_left]
    exact or_comm

theorem pairwise_appliedHolidays (records : List (List Byte)) : (appliedHolidays records).Pairwise DayBefore := by
  induction records using List.reverseRecOn with
  | nil => exact .nil
  | append_singleton records r ih => rw [appliedHolidays_concat]; exact pairwise_insertHoliday ih

theorem appliedHolidays_nodup (records : List (List Byte)) : (appliedHolidays records).Nodup :=
  (pairwise_appliedHolidays records).imp fun h he => by
    subst he
    unfold DayBefore at h
    omega

theorem appliedHolidays_length_le (records : List (List Byte)) : (appliedHolidays records).length ≤ records.length := by
  induction records using List.reverseRecOn with
  | nil => simp [appliedHolidays]
  | append_singleton records r ih =>
    rw [appliedHolidays_concat, List.length_append, List.length_singleton]
    exact (insertHoliday_length_le _ _).trans (by omega)

/-! ### Blocks (R11) -/

theorem recordsOf_length (size count : Nat) (bytes : List Byte) : (recordsOf size count bytes).length = count := by
  simp [recordsOf]

/-- The first bad record, numbered from `n`. -/
theorem firstBad_of_first {bad : List Byte → Option Code} {records : List (List Byte)} {k : Nat} {r : List Byte} {c : Code}
    (n : Nat) (hr : records[k]? = some r) (hc : bad r = some c)
    (hgood : ∀ m < k, ∀ q, records[m]? = some q → bad q = none) : firstBad bad n records = some (c, n + k) := by
  induction records generalizing n k with
  | nil => simp at hr
  | cons x records ih =>
    cases k with
    | zero =>
      obtain rfl : x = r := by simpa using hr
      rw [firstBad, hc]
      rfl
    | succ k =>
      rw [firstBad, hgood 0 (by omega) x rfl]
      dsimp only
      rw [ih (n + 1) hr fun m hm q hq => hgood (m + 1) (by omega) q hq]
      congr 2
      omega

theorem firstBad_eq_none_iff {bad : List Byte → Option Code} {records : List (List Byte)} (n : Nat) :
    firstBad bad n records = none ↔ ∀ r ∈ records, bad r = none := by
  induction records generalizing n with
  | nil => simp [firstBad]
  | cons x records ih =>
    rw [firstBad]
    cases hx : bad x with
    | none => simp [ih, hx]
    | some c => simp [hx]

/-! ### What an apply makes of a bank (R12 to R17) -/

theorem appliedDests_legal {mode : LoadMode} {b : BankData} (hb : b.Legal) {records : List (List Byte)}
    (hgood : ∀ r ∈ records, badDestination r = none) (hroom : (appliedDests mode b.dests records).length ≤ 8192) :
    BankData.Legal { b with dests := appliedDests mode b.dests records } := by
  obtain ⟨-, hnodup, hdests, hrest⟩ := hb
  refine ⟨hroom, appliedDests_nodup mode hnodup records, fun e he => ?_, hrest⟩
  rcases (mem_appliedDests mode hnodup records e).1 he with ⟨n, r, hr, rfl, -⟩ | ⟨-, hold, -⟩
  · exact destinationOf_legal (hgood r (List.mem_of_getElem? hr))
  · exact hdests e hold

theorem appliedLists_legal {b : BankData} (hb : b.Legal) {records : List (List Byte)}
    (hgood : ∀ r ∈ records, badRouteList r = none) :
    BankData.Legal { b with lists := appliedLists b.lists records } := by
  obtain ⟨hlength, hnodup, hdests, hlists, hrest⟩ := hb
  refine ⟨hlength, hnodup, hdests, fun e he => ?_, hrest⟩
  rcases mem_appliedLists he with hold | ⟨r, hr, hne, rfl⟩
  · exact hlists e hold
  · obtain ⟨-, hindex, -⟩ := good_of_badRouteList_none (hgood r hr)
    exact ⟨by rw [readLE_two]; exact hindex, stepsOf_legal (hgood r hr) hne⟩

theorem appliedMap_legal {b : BankData} (hb : b.Legal) {records : List (List Byte)} (hlength : records.length = 144)
    (hgood : ∀ r ∈ records, badCell r = none) : BankData.Legal { b with bandMap := appliedMap records } := by
  obtain ⟨hroom, hnodup, hdests, hlists, -, hrest⟩ := hb
  refine ⟨hroom, hnodup, hdests, hlists, fun e he => ?_, hrest⟩
  obtain ⟨i, r, hr, rfl⟩ := mem_cellsFrom.1 (List.mem_filter.1 he).1
  have hi : i < 144 := hlength ▸ (List.getElem?_eq_some_iff.1 hr).1
  refine ⟨by simp, by simp only; omega, ?_⟩
  have hcell := hgood r (List.mem_of_getElem? hr)
  rw [badCell] at hcell
  split_ifs at hcell with hformat hrange
  exact not_lt.1 hrange

theorem appliedHolidays_legal {b : BankData} (hb : b.Legal) {records : List (List Byte)} (hlength : records.length ≤ 32)
    (hgood : ∀ r ∈ records, badHoliday r = none) : BankData.Legal { b with holidays := appliedHolidays records } := by
  obtain ⟨hroom, hnodup, hdests, hlists, hmap, -⟩ := hb
  refine ⟨hroom, hnodup, hdests, hlists, hmap, (appliedHolidays_length_le records).trans hlength, fun h hh => ?_,
    pairwise_appliedHolidays records⟩
  obtain ⟨r, hr, rfl⟩ := mem_appliedHolidays.1 hh
  exact holidayInside_of_badHoliday_none (hgood r hr)

/-- A canonical table lists exactly the indices that it reads as present. -/
theorem length_eq_of_canonical {t : Table (List RouteStep)} (h : Table.canonical t [] = true)
    (hindex : ∀ e ∈ t, e.1 ≤ 2047) :
    t.length = ((List.range 2048).filter (fun i => decide (Table.read t [] i ≠ []))).length := by
  obtain ⟨hrising, hpresent⟩ := Table.canonical_iff.1 h
  have hnodup : (t.map Prod.fst).Nodup := by
    clear hpresent hindex h
    induction t with
    | nil => exact List.nodup_nil
    | cons e t ih =>
      obtain ⟨k, v⟩ := e
      obtain ⟨habove, hrising⟩ := (Table.rising_cons _ _ _).1 hrising
      rw [List.map_cons, List.nodup_cons]
      refine ⟨fun hk => ?_, ih hrising⟩
      obtain ⟨x, hx, hxk⟩ := List.mem_map.1 hk
      exact absurd (habove x hx) (by simp [hxk])
  rw [← List.length_map (f := Prod.fst)]
  refine ((List.perm_ext_iff_of_nodup hnodup (List.nodup_range.filter _)).2 fun i => ?_).length_eq
  rw [List.mem_map, List.mem_filter, List.mem_range, decide_eq_true_eq]
  constructor
  · rintro ⟨⟨k, v⟩, he, rfl⟩
    refine ⟨by have := hindex _ he; simp only at this ⊢; omega, ?_⟩
    rw [Table.read, Table.find_of_mem hrising he]
    exact hpresent _ he
  · rintro ⟨-, hne⟩
    exact ⟨_, Table.mem_of_read_ne hne, rfl⟩

end Sys2Proof.Machine
end

section
/-! PROOFS. The candidate list: the steps of a route list as candidates, the pool ordered, and the part of it that a CRANKBACK
walks (R6, R65 to R67, R74). -/

namespace Sys2Proof.Machine

/-! ### Steps as candidates (R6, R65) -/

theorem candidatesOf_length (steps : List RouteStep) : (candidatesOf steps).length = steps.length := by
  simp [candidatesOf]

theorem candidatesOf_getElem? {steps : List RouteStep} {n : Nat} {x : RouteStep} (h : steps[n]? = some x) :
    (candidatesOf steps)[n]? = some { group := x.group, step := n + 1, kind := x.kind } := by
  rw [candidatesOf, List.getElem?_map, List.getElem?_zipIdx, h]
  simp [Nat.add_comm]

theorem mem_candidatesOf {steps : List RouteStep} {c : Candidate} (h : c ∈ candidatesOf steps) :
    ∃ n x, steps[n]? = some x ∧ c = { group := x.group, step := n + 1, kind := x.kind } := by
  obtain ⟨n, hn⟩ := List.mem_iff_getElem?.1 h
  obtain ⟨x, hx⟩ : ∃ x, steps[n]? = some x := by
    have hlt := (List.getElem?_eq_some_iff.1 hn).1
    rw [candidatesOf_length] at hlt
    exact ⟨steps[n], List.getElem?_eq_getElem hlt⟩
  exact ⟨n, x, hx, by rw [candidatesOf_getElem? hx] at hn; exact (Option.some.inj hn).symm⟩

/-- Candidates stand in the order of their step numbers. -/
def StepsAscend (cs : List Candidate) : Prop := cs.Pairwise (fun c d => c.step < d.step)

theorem stepsAscend_candidatesOf (steps : List RouteStep) : StepsAscend (candidatesOf steps) := by
  have hnumbered : ∀ (n : Nat) (steps : List RouteStep), StepsAscend
      ((steps.zipIdx n).map (fun p => ({ group := p.1.group, step := p.2, kind := p.1.kind } : Candidate))) := by
    intro n steps
    induction steps generalizing n with
    | nil => exact .nil
    | cons x steps ih =>
      rw [List.zipIdx_cons, List.map_cons]
      refine List.pairwise_cons.2 ⟨fun c hc => ?_, ih (n + 1)⟩
      obtain ⟨p, hp, rfl⟩ := List.mem_map.1 hc
      have := List.le_snd_of_mem_zipIdx hp
      simp only
      omega
  exact hnumbered 1 steps

/-! ### The pool by rate (R66) -/

/-- `c` comes before `d` in the pool: its rate is lower, or the rates are equal and its step number is. -/
def RankedBefore (rate : Nat → Nat) (c d : Candidate) : Prop :=
  rate c.group < rate d.group ∨ (rate c.group = rate d.group ∧ c.step < d.step)

theorem perm_rankInsert (rate : Nat → Nat) (c : Candidate) (ds : List Candidate) : (rankInsert rate c ds).Perm (c :: ds) := by
  induction ds with
  | nil => exact .refl _
  | cons d ds ih =>
    rw [rankInsert]
    split
    · exact .refl _
    · exact (ih.cons d).trans (.swap c d ds)

theorem perm_rankSort (rate : Nat → Nat) (cs : List Candidate) : (rankSort rate cs).Perm cs := by
  induction cs with
  | nil => exact .refl _
  | cons c cs ih => exact (perm_rankInsert rate c _).trans (ih.cons c)

theorem pairwise_rankInsert {rate : Nat → Nat} {c : Candidate} {ds : List Candidate} (hstep : ∀ d ∈ ds, c.step < d.step)
    (hds : ds.Pairwise (RankedBefore rate)) : (rankInsert rate c ds).Pairwise (RankedBefore rate) := by
  induction ds with
  | nil => exact List.pairwise_singleton _ _
  | cons d ds ih =>
    obtain ⟨hd, htail⟩ := List.pairwise_cons.1 hds
    have hcd : c.step < d.step := hstep d (by simp)
    rw [rankInsert]
    split
    next hle =>
      refine List.pairwise_cons.2 ⟨fun x hx => ?_, hds⟩
      rcases List.mem_cons.1 hx with rfl | hx
      · unfold RankedBefore; omega
      · have hdx := hd x hx
        have hcx := hstep x (by simp [hx])
        unfold RankedBefore at *
        omega
    next hgt =>
      refine List.pairwise_cons.2 ⟨fun x hx => ?_, ih (fun x hx => hstep x (by simp [hx])) htail⟩
      rcases List.mem_cons.1 ((perm_rankInsert rate c ds).mem_iff.1 hx) with rfl | hx
      · exact .inl (not_le.1 hgt)
      · exact hd x hx

theorem pairwise_rankSort {rate : Nat → Nat} {cs : List Candidate} (h : StepsAscend cs) :
    (rankSort rate cs).Pairwise (RankedBefore rate) := by
  induction cs with
  | nil => exact .nil
  | cons c cs ih =>
    obtain ⟨hc, hcs⟩ := List.pairwise_cons.1 h
    exact pairwise_rankInsert (fun d hd => hc d ((perm_rankSort rate cs).mem_iff.1 hd)) (ih hcs)

/-- The pool's candidates with the retained alternate first and the others by rate, equal rates by step number (R66). -/
def PoolOrdered (rate : Nat → Nat) (retained : Option Nat) (pool list : List Candidate) : Prop :=
  ∃ first others, list = first ++ others ∧ (first ++ others).Perm pool ∧ (∀ c ∈ first, retained = some c.group) ∧
    (∀ c ∈ others, retained ≠ some c.group) ∧ others.Pairwise (RankedBefore rate)

theorem poolOrdered_orderPool (rate : Nat → Nat) (retained : Option Nat) {pool : List Candidate} (h : StepsAscend pool) :
    PoolOrdered rate retained pool (orderPool rate retained pool) := by
  have hothers := perm_rankSort rate (pool.filter (fun c => decide (retained ≠ some c.group)))
  refine ⟨_, _, rfl, ?_, fun c hc => by simpa using (List.mem_filter.1 hc).2, fun c hc => ?_,
    pairwise_rankSort (List.Pairwise.filter _ h)⟩
  · refine (hothers.append_left _).trans ?_
    simpa using List.filter_append_perm (fun c : Candidate => decide (retained = some c.group)) pool
  · simpa using (List.mem_filter.1 (hothers.mem_iff.1 hc)).2

/-! ### The whole list (R65, R74) -/

theorem arrange_of_run {rate : Nat → Nat} {retained : Option Nat} {pre pool post : List Candidate}
    (hpre : ∀ c ∈ pre, c.kind ≠ .pool) (hpool : ∀ c ∈ pool, c.kind = .pool) (hpost : ∀ c ∈ post, c.kind ≠ .pool) :
    arrange rate retained (pre ++ pool ++ post) = pre ++ orderPool rate retained pool ++ post := by
  rw [List.append_assoc pre pool post]
  unfold arrange
  dsimp only
  rw [List.takeWhile_append_of_pos (by simpa using hpre), List.dropWhile_append_of_pos (by simpa using hpre)]
  cases pool with
  | nil =>
    have htake : post.takeWhile (fun c => !decide (c.kind = .pool)) = post := List.takeWhile_eq_self_iff.2 (by simpa using hpost)
    have hdrop : post.dropWhile (fun c => !decide (c.kind = .pool)) = [] := List.dropWhile_eq_nil_iff.2 (by simpa using hpost)
    simp [htake, hdrop, orderPool, rankSort]
  | cons c pool =>
    have hc : c.kind = .pool := hpool c (by simp)
    have htake : post.takeWhile (fun c => decide (c.kind = .pool)) = [] := List.takeWhile_eq_nil_iff.2 fun h => by
      simpa using hpost _ (List.getElem_mem h)
    have hdrop : post.dropWhile (fun c => decide (c.kind = .pool)) = post := List.dropWhile_eq_self_iff.2 fun h => by
      simpa using hpost _ (List.getElem_mem h)
    rw [List.cons_append, List.takeWhile_cons_of_neg (by simp [hc]), List.dropWhile_cons_of_neg (by simp [hc]),
      ← List.cons_append, List.takeWhile_append_of_pos (by simpa using hpool),
      List.dropWhile_append_of_pos (by simpa using hpool), htake, hdrop]
    simp

theorem mem_arrange {rate : Nat → Nat} {retained : Option Nat} {cs : List Candidate} {c : Candidate}
    (h : c ∈ arrange rate retained cs) : c ∈ cs := by
  have hordered : ∀ pool : List Candidate, c ∈ orderPool rate retained pool → c ∈ pool := by
    intro pool hc
    rcases List.mem_append.1 hc with hc | hc
    · exact (List.mem_filter.1 hc).1
    · exact (List.mem_filter.1 ((perm_rankSort rate _).mem_iff.1 hc)).1
  unfold arrange at h
  simp only [List.mem_append] at h
  rcases h with (h | h) | h
  · exact (List.takeWhile_sublist _).subset h
  · exact (List.dropWhile_sublist _).subset ((List.takeWhile_sublist _).subset (hordered _ h))
  · exact (List.dropWhile_sublist _).subset ((List.dropWhile_sublist _).subset h)

theorem rankingRate_of_owner_zero {s : State} {g : Nat} (h : (s.group g).owner = 0) : rankingRate s g = 0 := if_pos h

theorem rankingRate_of_no_set {s : State} {g : Nat} (h : (s.group g).owner ≠ 0)
    (hset : (s.carrier (s.group g).owner).outbound.active = none) : rankingRate s g = 1000000 := by
  rw [rankingRate, if_neg h, State.bandRecord, Carrier.tariffs, hset]

theorem rankingRate_of_record {s : State} {g : Nat} {set : List BandRecord} {r : BandRecord} (h : (s.group g).owner ≠ 0)
    (hset : (s.carrier (s.group g).owner).outbound.active = some set) (hr : set[s.clock.band]? = some r) :
    rankingRate s g = r.rate := by
  rw [rankingRate, if_neg h, State.bandRecord, Carrier.tariffs, hset]
  dsimp only
  rw [hr]

/-- Settles O15: a list cut into the steps before the pool, the pool and those after it is arranged part by part, also once
the steps that a CRANKBACK has passed are taken out. -/
theorem candidatesAreOrdered : Obligations.CandidatesAreOrdered := by
  refine ⟨fun steps => ⟨candidatesOf_length steps, fun n x => candidatesOf_getElem?⟩,
    fun s g => ⟨rankingRate_of_owner_zero, rankingRate_of_no_set, fun set r => rankingRate_of_record⟩,
    fun rate retained steps pre pool post hsteps hpre hpool hpost => ?_, fun s call e pre pool post => ?_⟩
  · have hascend : StepsAscend pool := by
      have hall := stepsAscend_candidatesOf steps
      rw [hsteps] at hall
      exact (List.pairwise_append.1 (List.pairwise_append.1 hall).1).2.1
    exact ⟨_, poolOrdered_orderPool rate retained hascend, by rw [hsteps, arrange_of_run hpre hpool hpost]⟩
  · intro later hdest hsteps hpre hpool hpost
    have hascend : StepsAscend (pool.filter later) := by
      have hall := stepsAscend_candidatesOf ((s.bank call.bank).routeList e.routeList)
      rw [hsteps] at hall
      exact (List.pairwise_append.1 (List.pairwise_append.1 hall).1).2.1.filter _
    refine ⟨_, poolOrdered_orderPool (rankingRate s) _ hascend, ?_⟩
    have hdest' : s.dest call.bank call.dest = some e := hdest
    rw [resumedCandidates, hdest']
    dsimp only
    rw [hsteps, List.filter_append, List.filter_append]
    exact arrange_of_run (fun c hc => hpre c (List.mem_filter.1 hc).1) (fun c hc => hpool c (List.mem_filter.1 hc).1)
      fun c hc => hpost c (List.mem_filter.1 hc).1

end Sys2Proof.Machine
end

section
/-! PROOFS. Every step keeps the invariants (R3, R4, R6, R8, R24, R29, R30, R80, R81, R91, R94 to R96, R118, R173): each shared
operation upholds them, and so does every command, which is made of these. -/

namespace Sys2Proof.Machine

/-! ### Writes of the tables -/

theorem upholds_setMem (s : State) (a : Word) (bs : List Byte) : Upholds s (s.setMem (Memory.store s.mem a bs)) where
  canonical h := h.setMem (Memory.store_wf _ _ _ h.1)
  conserved := id
  callsLegal := id

/-- A group's record keeps its busy count and its owner, but that a group nothing is seized on may be given another. -/
theorem upholds_putGroup {g : Nat} {r : Group} {s : State} (hbusy : r.busy = (s.group g).busy)
    (howner : r.owner = (s.group g).owner ∨ (s.group g).busy = 0) : Upholds s (putGroup g r s) where
  canonical h := h.putGroup g r
  conserved := SameBooks.conserved
    { main := rfl, seats := seats_of_contexts rfl, expired := rfl, rising := id, handovers := fun _ => by simp,
      provisional := fun _ => rfl,
      groups := fun h => by
        rw [group_putGroup]
        split
        next hg => subst hg; exact ⟨hbusy, howner⟩
        next => exact ⟨rfl, .inl rfl⟩ }
  callsLegal := id

theorem upholds_setCarriers {x : Table Carrier} {s : State}
    (hx : s.Canonical → Table.canonical x Carrier.reset = true) : Upholds s (s.setCarriers x) where
  canonical h := h.setCarriers (hx h)
  conserved := id
  callsLegal := id

theorem upholds_putCarrier (c : Nat) (r : Carrier) (s : State) : Upholds s (putCarrier c r s) :=
  upholds_setCarriers fun h => (h.putCarrier c r).2.2.2.1

theorem upholds_putTariffs (c : Nat) (d : Direction) (t : Tariffs) (s : State) : Upholds s (putTariffs c d t s) :=
  upholds_putCarrier c _ s

theorem handOver_eq_none {cal : Calendar} {t : Tariffs} (h : handOver cal t = Tariffs.none) : t = Tariffs.none := by
  obtain ⟨active, pending⟩ := t
  cases pending with
  | none => exact h
  | some p =>
    simp only [handOver] at h
    split at h <;> simp [Tariffs.none] at h

theorem upholds_compareTariffs (s : State) : Upholds s (compareTariffs s) :=
  upholds_setCarriers fun h => Table.canonical_mapValues h.2.2.2.1 fun r hr he => hr (by
    simp only [Carrier.reset, Carrier.mk.injEq] at he
    obtain ⟨hceiling, hrefusals, hin, hout⟩ := he
    rw [Carrier.reset, ← hceiling, ← hrefusals, ← handOver_eq_none hin]
    exact congrArg (Carrier.mk _ _ _) ((handOver_eq_none hout).trans (handOver_eq_none hin).symm))

/-- Carriers' sums change, no open-handover count does. -/
theorem upholds_setBackup {x : Backup} {s : State}
    (hcanonical : s.Canonical → Table.canonical x.settlements Settlement.zero = true)
    (hrising : Table.rising s.backup.settlements = true → Table.rising x.settlements = true)
    (hopen : Table.rising s.backup.settlements = true → ∀ k, (s.setBackup x).openHandovers k = s.openHandovers k) :
    Upholds s (s.setBackup x) where
  canonical h := h.setBackup (hcanonical h)
  conserved h :=
    have hbooks : SameBooks s (s.setBackup x) :=
      { main := rfl, seats := seats_of_contexts rfl, expired := rfl, groups := fun _ => ⟨rfl, .inl rfl⟩,
        rising := hrising, handovers := hopen h.2.2.1, provisional := fun _ => rfl }
    hbooks.conserved h
  callsLegal := id

theorem upholds_putSettlement {c : Nat} {r : Settlement} {s : State} (hr : r.openHandovers = s.openHandovers c) :
    Upholds s (putSettlement c r s) :=
  upholds_setBackup (fun h => (h.putSettlement c r).settlements) (Table.rising_write _ c r) fun _ k => by
    change ((putSettlement c r s).settlement k).openHandovers = _
    rw [settlement_putSettlement]
    split
    next hk => subst hk; exact hr
    next => rfl

theorem upholds_of_same_settlements {x : Backup} {s : State} (h : x.settlements = s.backup.settlements) :
    Upholds s (s.setBackup x) :=
  upholds_setBackup (fun hc => h ▸ hc.settlements) (fun hr => h ▸ hr) fun _ k => by
    simp [State.openHandovers, State.settlement, h]

theorem upholds_putBank {k : Bank} {d : BankData} {s : State} (hprovisional : d.provisional = (s.bank k).provisional)
    (hlists : s.Canonical → Table.canonical d.lists [] = true) (hmap : s.Canonical → Table.canonical d.bandMap 0 = true)
    (hlegal : s.CallsLegal → d.Legal) : Upholds s (putBank k d s) where
  canonical h := h.putBank (hlists h) (hmap h)
  conserved := SameBooks.conserved
    { main := rfl, seats := seats_of_contexts rfl, expired := rfl, rising := id, handovers := fun _ => rfl,
      groups := fun _ => ⟨rfl, .inl rfl⟩,
      provisional := fun j => by
        rw [bank_putBank]
        split
        next hj => subst hj; exact hprovisional
        next => rfl }
  callsLegal h := by
    obtain ⟨⟨hbanks, hqueue⟩, hcontexts, hcodes⟩ := callsLegal_iff.1 h
    refine callsLegal_iff.2 ⟨⟨fun j => ?_, by simpa [putBank, PlanStore.setBank] using by cases k <;> exact hqueue⟩, hcontexts, hcodes⟩
    rw [bank_putBank]
    split
    · exact hlegal h
    · exact hbanks j

theorem upholds_setQueue {q : List Load} {s : State}
    (hq : ∀ l ∈ q, l ∈ s.plan.queue ∨ (l.kind = .holidays → l.count ≤ 32)) :
    Upholds s (s.setPlan { s.plan with queue := q }) where
  canonical h := h.of_tables rfl rfl rfl rfl rfl (fun k => by cases k <;> exact ⟨rfl, rfl⟩)
  conserved := SameBooks.conserved
    { main := rfl, seats := seats_of_contexts rfl, expired := rfl, rising := id, handovers := fun _ => rfl,
      groups := fun _ => ⟨rfl, .inl rfl⟩, provisional := fun k => by cases k <;> rfl }
  callsLegal h := by
    obtain ⟨⟨hbanks, hqueue⟩, hcontexts, hcodes⟩ := callsLegal_iff.1 h
    refine callsLegal_iff.2 ⟨⟨fun k => ?_, fun l hl => ?_⟩, hcontexts, hcodes⟩
    · cases k
      · exact hbanks .a
      · exact hbanks .b
    · exact (hq l hl).elim (hqueue l) id

theorem upholds_putGaps {gaps : List GapEntry} {s : State} (h : s.CodesLegal → ∀ e ∈ gaps, CodeLegal e.code) :
    Upholds s (putGaps gaps s) where
  canonical := id
  conserved := id
  callsLegal hl := by
    obtain ⟨hplans, hcontexts, hcodes⟩ := callsLegal_iff.1 hl
    exact callsLegal_iff.2 ⟨hplans, hcontexts, h hcodes, hcodes.2⟩

theorem Upholds.setRouteJob {r s : State} (began : Upholds r s) {job : Option RouteJob}
    (h : r.CallsLegal → InstallLegal job) : Upholds r (s.setRouteJob job) where
  canonical := began.canonical
  conserved := began.conserved
  callsLegal hl := by
    obtain ⟨hplans, hcontexts, hcodes⟩ := callsLegal_iff.1 (began.callsLegal hl)
    exact callsLegal_iff.2 ⟨hplans, hcontexts, hcodes.1, h hl⟩

theorem upholds_setRouteJob {job : Option RouteJob} {s : State} (h : s.CallsLegal → InstallLegal job) :
    Upholds s (s.setRouteJob job) := (Upholds.refl s).setRouteJob h

/-- Every listed context changes, and none its seat. -/
theorem upholds_mapContexts {f : Context → Context} {s : State} (hreset : f Context.reset = Context.reset)
    (hseat : ∀ c, (f c).state.seat = c.state.seat) (hne : ∀ c, c ≠ Context.reset → f c ≠ Context.reset)
    (hlegal : ∀ c : Context, c.LegalAt s.now → (f c).LegalAt s.now) :
    Upholds s (s.setContexts { s.contexts with table := Table.mapValues f s.contexts.table }) where
  canonical h := h.setContexts (Table.canonical_mapValues h.contexts hne)
  conserved := SameBooks.conserved
    { main := rfl, seats := ⟨f, hreset, hseat, rfl⟩, expired := rfl, rising := id, handovers := fun _ => rfl,
      groups := fun _ => ⟨rfl, .inl rfl⟩, provisional := fun _ => rfl }
  callsLegal h := by
    obtain ⟨hplans, hcontexts, hcodes⟩ := callsLegal_iff.1 h
    exact callsLegal_iff.2 ⟨hplans, hcontexts.mapValues rfl rfl hreset rfl hlegal, hcodes⟩

/-- One context changes its state within an event that began in `r`, and the counts follow. -/
theorem Reseats.upholds_from {r s t : State} {i : Nat} {c : Context} (hr : Reseats r s t i c) (began : Upholds r s)
    (hcanonical : s.Canonical → t.Canonical) (hpower : t.power = s.power) (htick : t.clock.tick = s.clock.tick)
    (hgaps : t.supervision.gaps = s.supervision.gaps) (hjob : t.routeJob = s.routeJob)
    (hplans : s.CallsLegal → t.PlansLegal) (hup : s.CallsLegal → s.up = true)
    (hc : r.CallsLegal → s.CallsLegal → c.LegalAt s.now) : Upholds r t where
  canonical := hcanonical ∘ began.canonical
  conserved h := hr.conserved h (began.conserved h)
  callsLegal h := by
    have hs := began.callsLegal h
    obtain ⟨-, hcontexts, hcodes⟩ := callsLegal_iff.1 hs
    exact callsLegal_iff.2 ⟨hplans hs, hcontexts.write hpower htick (hup hs) hr.table (hc h hs), hcodes.congr hgaps hjob⟩

/-- One context changes its state, and the counts follow. -/
theorem Reseats.upholds {s t : State} {i : Nat} {c : Context} (hr : Reseats s s t i c) (hcanonical : s.Canonical → t.Canonical)
    (hpower : t.power = s.power) (htick : t.clock.tick = s.clock.tick) (hgaps : t.supervision.gaps = s.supervision.gaps)
    (hjob : t.routeJob = s.routeJob) (hplans : s.CallsLegal → t.PlansLegal) (hup : s.CallsLegal → s.up = true)
    (hc : s.CallsLegal → c.LegalAt s.now) : Upholds s t :=
  hr.upholds_from (.refl s) hcanonical hpower htick hgaps hjob hplans hup fun _ => hc

/-! ### Operations that touch no record, and retained alternates (R21) -/

theorem upholds_statusEvent (s : State) : Upholds s (statusEvent s) :=
  SameRecords.upholds (by constructor <;> simp)

theorem upholds_statusEvents (n : Nat) (s : State) : Upholds s (statusEvents n s) :=
  SameRecords.upholds (by constructor <;> simp)

theorem upholds_formAnswer (slot : Nat) (req answer : List Byte) (s : State) : Upholds s (formAnswer slot req answer s) :=
  SameRecords.upholds (by constructor <;> simp)

theorem upholds_reply (slot : Nat) (req : List Byte) (code : Code) (detail : Nat) (fields : List Field) (s : State) :
    Upholds s (reply slot req code detail fields s) :=
  upholds_formAnswer slot req _ s

theorem upholds_markBegun (slot : Nat) (req : List Byte) (s : State) : Upholds s (markBegun slot req s) :=
  SameRecords.upholds (by constructor <;> simp)

theorem upholds_ask (r : Requester) (t : Transfer) (s : State) : Upholds s (ask r t s) :=
  SameRecords.upholds (by constructor <;> simp)

theorem BankData.Legal.withDests {b : BankData} {ds : List Dest} (h : b.Legal) (hcodes : ds.map Dest.code = b.dests.map Dest.code)
    (hds : ∀ e ∈ ds, e.Legal) : BankData.Legal { b with dests := ds } := by
  obtain ⟨hlength, hnodup, -, hrest⟩ := h
  have hlen : ds.length = b.dests.length := by simpa using congrArg List.length hcodes
  exact ⟨hlen ▸ hlength, hcodes ▸ hnodup, hds, hrest⟩

theorem BankData.Legal.withProvisional {b : BankData} (h : b.Legal) (n : Nat) :
    BankData.Legal { b with provisional := n } := h

theorem BankData.Legal.clearRetained {b : BankData} (h : b.Legal) (p : Option Nat → Bool) : (b.clearRetained p).Legal := by
  obtain ⟨-, -, hdests, -⟩ := id h
  refine h.withDests ?_ fun e he => ?_
  · rw [List.map_map]
    refine List.map_congr_left fun e _ => ?_
    simp only [Function.comp_apply]
    split <;> rfl
  · obtain ⟨d, hd, rfl⟩ := List.mem_map.1 he
    obtain ⟨hcode, hlist, hexhaust, hretained⟩ := hdests d hd
    split
    · exact ⟨hcode, hlist, hexhaust, by simp⟩
    · exact ⟨hcode, hlist, hexhaust, hretained⟩

theorem BankData.Legal.modifyDest {b : BankData} (h : b.Legal) (n : Nat) {f : Dest → Dest} (hcode : ∀ d, (f d).code = d.code)
    (hf : ∀ d : Dest, d.Legal → (f d).Legal) : BankData.Legal { b with dests := b.dests.modify n f } := by
  obtain ⟨-, -, hdests, -⟩ := id h
  refine h.withDests ?_ fun e he => ?_
  · refine List.ext_getElem? fun j => ?_
    rw [List.getElem?_map, List.getElem?_map, List.getElem?_modify]
    cases b.dests[j]? with
    | none => rfl
    | some d => by_cases hj : n = j <;> simp [hj, hcode]
  · rw [List.mem_iff_getElem?] at he
    obtain ⟨j, hj⟩ := he
    rw [List.getElem?_modify] at hj
    obtain ⟨d, hd, rfl⟩ := Option.map_eq_some_iff.1 hj
    have hlegal := hdests d (List.mem_of_getElem? hd)
    split
    · exact hf d hlegal
    · exact hlegal

theorem upholds_changeDest {k : Bank} {n : Nat} {f : Dest → Dest} {s : State} (hcode : ∀ d, (f d).code = d.code)
    (hf : s.CallsLegal → ∀ d : Dest, d.Legal → (f d).Legal) : Upholds s (changeDest k n f s) :=
  upholds_putBank rfl (fun h => (h.bank k).1) (fun h => (h.bank k).2) fun h => (h.bank k).modifyDest n hcode (hf h)

theorem upholds_clearRetained (k : Bank) (p : Option Nat → Bool) (s : State) :
    Upholds s (putBank k ((s.bank k).clearRetained p) s) :=
  upholds_putBank rfl (fun h => (h.bank k).1) (fun h => (h.bank k).2) fun h => (h.bank k).clearRetained p

theorem upholds_clearRetainedGroup (g : Nat) (s : State) : Upholds s (clearRetainedGroup g s) :=
  have hboth := (upholds_clearRetained .a (fun r => decide (r = some g)) s).trans
    (upholds_clearRetained .b (fun r => decide (r = some g)) _)
  hboth

/-! ### Groups and supervision (R28, R42 to R48, R52) -/

theorem upholds_congestionChanged (g : Nat) (next : Congestion) (s : State) : Upholds s (congestionChanged g next s) := by
  have hmirror : ∀ (u v : State) (m : Mirror), Upholds u v → Upholds u (v.setMirror m) := fun u v m h =>
    h.trans (SameRecords.upholds (by constructor <;> rfl))
  have hcleared : Upholds s
      (if next = .congested ∨ next = .blocked then clearRetainedGroup g (statusEvent s) else statusEvent s) := by
    split
    · exact (upholds_statusEvent s).trans (upholds_clearRetainedGroup g _)
    · exact upholds_statusEvent s
  unfold congestionChanged
  dsimp only
  split
  · exact hmirror _ _ _ hcleared
  · exact hcleared

theorem upholds_evaluateOne (g : Nat) (s : State) : Upholds s (evaluateOne g s) := by
  have hput : Upholds s (putGroup g (evaluateGroup (s.group g)) s) := upholds_putGroup rfl (.inl rfl)
  unfold evaluateOne
  dsimp only
  split
  · exact hput
  · exact hput.trans (upholds_congestionChanged g _ _)

theorem upholds_evaluateGroups (s : State) : Upholds s (evaluateGroups s) := by
  have hlist : ∀ (l : List Nat) (s : State), Upholds s (l.foldl (fun t g => evaluateOne g t) s) := by
    intro l
    induction l with
    | nil => exact Upholds.refl
    | cons g l ih => exact fun s => (upholds_evaluateOne g s).trans (ih _)
  exact hlist _ s

theorem upholds_clearMarks (gs : List Nat) (s : State) : Upholds s (clearMarks gs s) := by
  induction gs generalizing s with
  | nil => exact .refl s
  | cons g gs ih => exact (upholds_putGroup (g := g) (r := { s.group g with changed := false }) rfl (.inl rfl)).trans (ih _)

theorem upholds_mirrorClosed (s : State) : Upholds s (mirrorClosed s) := by
  unfold mirrorClosed
  split
  next gs _ => exact (upholds_clearMarks gs s).trans (SameRecords.upholds (by constructor <;> simp))
  next => exact .refl s

/-- Every code of the new gap table is one of the old. -/
theorem upholds_putGaps_of_codes {gaps : List GapEntry} {s : State}
    (h : ∀ e ∈ gaps, ∃ x ∈ s.supervision.gaps, e.code = x.code) : Upholds s (putGaps gaps s) :=
  upholds_putGaps fun hcodes e he => by
    obtain ⟨x, hx, hcode⟩ := h e he
    exact hcode ▸ hcodes.1 x hx

theorem upholds_mapGaps {f : GapEntry → GapEntry} (hf : ∀ e, (f e).code = e.code) (s : State) :
    Upholds s (putGaps (s.supervision.gaps.map f) s) :=
  upholds_putGaps_of_codes fun e he => by
    obtain ⟨x, hx, rfl⟩ := List.mem_map.1 he
    exact ⟨x, hx, hf x⟩

theorem upholds_filterGaps (p : GapEntry → Bool) (s : State) : Upholds s (putGaps (s.supervision.gaps.filter p) s) :=
  upholds_putGaps_of_codes fun e he => ⟨e, (List.mem_filter.1 he).1, rfl⟩

theorem upholds_changeGap {code : List Nat} {f : GapEntry → GapEntry} (hf : ∀ e, (f e).code = e.code) (s : State) :
    Upholds s (changeGap code f s) :=
  upholds_mapGaps (fun e => by split <;> simp [hf]) s

theorem upholds_addGap {e : GapEntry} {s : State} (h : s.CodesLegal → CodeLegal e.code) : Upholds s (addGap e s) :=
  upholds_putGaps fun hcodes x hx => by
    rcases List.mem_append.1 hx with hx | hx
    · exact hcodes.1 x hx
    · rw [List.mem_singleton.1 hx]; exact h hcodes

theorem upholds_removeGap (code : List Nat) (s : State) : Upholds s (removeGap code s) := upholds_filterGaps _ s

theorem upholds_removeLapsed (s : State) : Upholds s (removeLapsed s) := upholds_filterGaps _ s

theorem upholds_countDownGaps (s : State) : Upholds s (countDownGaps s) :=
  upholds_mapGaps (fun e => by unfold GapEntry.countDown; split <;> rfl) s

theorem upholds_gapUpkeep (tick : Tick) (s : State) : Upholds s (gapUpkeep tick s) :=
  upholds_mapGaps (fun e => by split <;> rfl) s

theorem upholds_renewGap (code : List Nat) (s : State) : Upholds s (renewGap code s) :=
  upholds_changeGap (fun e => by split <;> rfl) s

theorem upholds_installGap {code : List Nat} {s : State} (h : s.CodesLegal → CodeLegal code) : Upholds s (installGap code s) := by
  unfold installGap
  split
  · exact (upholds_addGap h).trans (upholds_statusEvent _)
  · exact .refl s

theorem upholds_startPeriod (pe : Tick) (s : State) : Upholds s (startPeriod pe s) :=
  SameRecords.upholds (by constructor <;> simp [startPeriod])

theorem upholds_endPeriod (s : State) : Upholds s (endPeriod s) :=
  ((upholds_evaluateGroups s).trans (upholds_gapUpkeep _ _)).trans (upholds_startPeriod _ _)

/-! ### Boundary events and tariff sets (R93 to R96, R107, R112, R125) -/

/-- A segment that starts now is put behind segments that all start before it. -/
theorem Answered.Legal.withSegment {now : Tick} {g : Segment} {a : Answered} {kept : List Segment} (h : a.Legal now)
    (hstart : g.start = now) (hlong : a.long = false) (hshort : (now - a.tick).toNat < longCall)
    (hroom : kept.length < 6) (hhead : (kept ++ [g]).head?.map Segment.start = some a.tick)
    (hpair : kept.Pairwise (fun x y => (x.start - a.tick).toNat < (y.start - a.tick).toNat))
    (hearlier : ∀ x ∈ kept, (x.start - a.tick).toNat < (now - a.tick).toNat) :
    Answered.Legal now { a with segments := kept ++ [g] } := by
  obtain ⟨-, -, -, -, -, hnow⟩ := h
  have hwithin : ∀ x ∈ kept ++ [g], (x.start - a.tick).toNat ≤ (now - a.tick).toNat := by
    intro x hx
    rcases List.mem_append.1 hx with hx | hx
    · exact (hearlier x hx).le
    · rw [List.mem_singleton.1 hx, hstart]
  refine ⟨by simp, by simpa using hroom, hhead, ?_, fun x hx => (hwithin x hx).trans_lt hshort,
    fun _ => ⟨(hnow hlong).1, hwithin⟩⟩
  refine List.pairwise_append.2 ⟨hpair, List.pairwise_singleton _ _, fun x hx y hy => ?_⟩
  rw [List.mem_singleton.1 hy, hstart]
  exact hearlier x hx

theorem addSegment_legal {now : Tick} {g : Segment} {a : Answered} (h : a.Legal now) (hstart : g.start = now)
    (hlong : a.long = false) (hshort : (now - a.tick).toNat < longCall) : (addSegment g a).Legal now := by
  obtain ⟨hne, hlength, hhead, hpair, -, hnow⟩ := id h
  obtain ⟨init, last, hsegments⟩ : ∃ init last, a.segments = init ++ [last] := by
    rcases List.eq_nil_or_concat' a.segments with hnil | hcons
    · simp [hnil] at hne
    · exact hcons
  obtain ⟨hinit, -, hbefore⟩ := List.pairwise_append.1 (hsegments ▸ hpair)
  have hlast : (last.start - a.tick).toNat ≤ (now - a.tick).toNat := (hnow hlong).2 last (by simp [hsegments])
  have hearlier : ∀ x ∈ init, (x.start - a.tick).toNat < (now - a.tick).toNat := fun x hx =>
    (hbefore x hx last (by simp)).trans_le hlast
  unfold addSegment
  rw [hsegments, List.getLast?_concat]
  dsimp only
  split
  next hsame =>
    rw [List.dropLast_concat]
    refine h.withSegment hstart hlong hshort ?_ ?_ hinit hearlier
    · rw [hsegments, List.length_append, List.length_singleton] at hlength; omega
    · rw [hsegments] at hhead
      cases init with
      | nil => simpa [hsame] using hhead
      | cons x xs => simpa using hhead
  next hdiffer =>
    rw [← hsegments]
    split
    next hroom =>
      refine h.withSegment hstart hlong hshort hroom ?_ hpair fun x hx => ?_
      · rw [hsegments] at hhead ⊢
        cases init <;> simpa using hhead
      · rw [hsegments] at hx
        rcases List.mem_append.1 hx with hx | hx
        · exact hearlier x hx
        · rw [List.mem_singleton.1 hx]
          refine lt_of_le_of_ne hlast fun he => hdiffer ?_
          rw [hstart]
          exact sub_left_injective (BitVec.eq_of_toNat_eq he)
    next => exact h

theorem boundaryOn_seat (s : State) (reaches : Call → Bool) (c : Context) : (boundaryOn s reaches c).state.seat = c.state.seat := by
  unfold boundaryOn
  split
  next hc =>
    split
    · rw [hc]; rfl
    · rfl
  next => rfl

theorem boundaryOn_ne_reset (s : State) (reaches : Call → Bool) (c : Context) (h : c ≠ Context.reset) :
    boundaryOn s reaches c ≠ Context.reset := by
  unfold boundaryOn
  split
  · split
    · simp [Context.reset]
    · exact h
  · exact h

theorem boundaryOn_legal (s : State) (reaches : Call → Bool) {c : Context} (h : c.LegalAt s.now) :
    (boundaryOn s reaches c).LegalAt s.now := by
  unfold boundaryOn
  split
  next call a hc =>
    split
    next hreached =>
      obtain ⟨-, hlong, hshort⟩ := hreached
      refine ⟨h.1, fun call' hcall => h.2.1 call' ?_, fun call' a' ha => ?_⟩
      · rw [hc]; exact hcall
      · simp only [CallState.answered.injEq] at ha
        rw [← ha.2]
        exact addSegment_legal (h.2.2 call a hc) rfl hlong hshort
    next => exact h
  next => exact h

theorem upholds_boundaryEvent (reaches : Call → Bool) (s : State) : Upholds s (boundaryEvent reaches s) :=
  upholds_mapContexts rfl (boundaryOn_seat s reaches) (boundaryOn_ne_reset s reaches) fun _ => boundaryOn_legal s reaches

theorem upholds_evaluateBand (s : State) : Upholds s (evaluateBand s) := by
  have hband : Upholds s (s.setClock { s.clock with band := bandFound s }) :=
    SameRecords.upholds (by constructor <;> rfl)
  unfold evaluateBand
  dsimp only
  split
  · exact hband
  · exact hband.trans (upholds_boundaryEvent _ _)

theorem upholds_activate (c : Nat) (d : Direction) (t : Tariffs) (s : State) : Upholds s (activate c d t s) :=
  ((upholds_putTariffs c d t s).trans (upholds_statusEvent _)).trans (upholds_boundaryEvent _ _)

theorem upholds_takeHanded (c : Nat) (d : Direction) (s : State) : Upholds s (takeHanded c d s) := by
  unfold takeHanded
  split
  · split
    · exact upholds_activate c d _ s
    · exact .refl s
  · exact .refl s

theorem upholds_takeAllHanded (cs : List Nat) (s : State) : Upholds s (takeAllHanded cs s) := by
  induction cs generalizing s with
  | nil => exact .refl s
  | cons c cs ih => exact ((upholds_takeHanded c _ s).trans (upholds_takeHanded c _ _)).trans (ih _)

theorem upholds_moveCalendar (cal : Calendar) (s : State) : Upholds s (moveCalendar cal s) := by
  have hcalendar : Upholds s (s.setBackup { s.backup with calendar := cal, clockSet := true }) :=
    SameRecords.upholds (by constructor <;> rfl)
  have hdivider : ∀ v : State, Upholds v (v.setClock { v.clock with calDivider := 0 }) := fun v =>
    SameRecords.upholds (by constructor <;> rfl)
  exact ((hcalendar.trans (hdivider _)).trans (upholds_evaluateBand _)).trans (upholds_compareTariffs _)

/-! ### Calls (R30, R84, R85, R87, R89 to R91, R96, R110) -/

theorem upholds_markFreeRunning (s : State) :
    Upholds s (s.setContexts { s.contexts with table := Table.mapValues markFreeRunning s.contexts.table }) := by
  refine upholds_mapContexts rfl (fun c => ?_) (fun c hc => ?_) (fun c h => ?_) <;> unfold markFreeRunning <;> split
  next hc => rw [hc]; rfl
  next => rfl
  next => simp [Context.reset]
  next => exact hc
  next call a hc =>
    refine ⟨h.1, fun call' hcall => h.2.1 call' (by rw [hc]; exact hcall), fun call' a' ha => ?_⟩
    simp only [CallState.answered.injEq] at ha
    rw [← ha.2]
    exact h.2.2 call a hc
  next => exact h

theorem upholds_loseReference (s : State) : Upholds s (loseReference s) := by
  have hchange : Upholds s (changeReference .freeRunning s) := SameRecords.upholds (by constructor <;> simp [changeReference])
  exact hchange.trans (upholds_markFreeRunning _)

/-- A context that is not FREE is one of the indices 0..16,383. -/
theorem State.Conserved.index_of_ne_free {s : State} (h : s.Conserved) {i : Nat} (hi : (s.context i).state ≠ .free) :
    i < 16384 :=
  h.2.1 _ (Table.mem_of_read_ne (t := s.contexts.table) (d := Context.reset) fun he => hi (by
    rw [State.context, he]; rfl))

theorem State.CallsLegal.plans {s : State} (h : s.CallsLegal) : s.PlansLegal := (callsLegal_iff.1 h).1

theorem State.PlansLegal.putBank {s : State} (h : s.PlansLegal) {k : Bank} {d : BankData} (hd : d.Legal) :
    (putBank k d s).PlansLegal := by
  refine ⟨fun j => ?_, ?_⟩
  · rw [bank_putBank]
    split
    · exact hd
    · exact h.1 j
  · cases k <;> exact h.2

theorem State.PlansLegal.changeProvisional {s : State} (h : s.PlansLegal) (k : Bank) (f : Nat → Nat) :
    (changeProvisional k f s).PlansLegal := h.putBank (h.1 k)

theorem provisional_left (j k : Bank) (s : State) :
    ((changeProvisional j (fun n => n - 1) s).bank k).provisional = (s.bank k).provisional - bit (decide (j = k)) := by
  rw [changeProvisional, bank_putBank]
  split
  next h => simp [h, bit]
  next h => simp [Ne.symm h, bit]

theorem provisional_joined (j k : Bank) (s : State) :
    ((changeProvisional j (fun n => n + 1) s).bank k).provisional = (s.bank k).provisional + bit (decide (j = k)) := by
  rw [changeProvisional, bank_putBank]
  split
  next h => simp [h, bit]
  next h => simp [Ne.symm h, bit]

/-- A context that stays FREE or takes up nothing is legal under a legal generation. -/
theorem Context.legalAt_free {now : Tick} {n : Nat} (h : 1 ≤ n ∧ n ≤ 255) :
    Context.LegalAt now { generation := n, state := .free } :=
  ⟨h, by simp [CallState.call?], by simp⟩

theorem rising_changeOpen {c : Nat} {f : Nat → Nat} {s : State} (h : Table.rising s.backup.settlements = true) :
    Table.rising (changeOpen c f s).backup.settlements = true := by
  unfold changeOpen
  split
  · exact h
  · exact Table.rising_write _ _ _ h

theorem rising_returnSeizure {g : Nat} {s : State} (h : Table.rising s.backup.settlements = true) :
    Table.rising (returnSeizure g s).backup.settlements = true :=
  rising_changeOpen (by simpa using h)

theorem owner_returnSeizure (g h : Nat) (s : State) : ((returnSeizure g s).group h).owner = (s.group h).owner := by
  obtain ⟨⟨hsame, hother, -⟩, -⟩ := returnSeizure_spec g s
  by_cases he : h = g
  · rw [he, hsame]
  · rw [hother h he]

theorem busy_returnSeizure (g h : Nat) (s : State) :
    ((returnSeizure g s).group h).busy = (s.group h).busy - bit (decide (g = h)) := by
  obtain ⟨⟨hsame, hother, -⟩, -⟩ := returnSeizure_spec g s
  by_cases he : g = h
  · subst he; simp [hsame, bit]
  · simp [hother h (Ne.symm he), he, bit]

theorem openHandovers_returnSeizure (call : Call) (k : Nat) (s : State) (hk : k ≠ 0) :
    (returnSeizure call.group s).openHandovers k = s.openHandovers k - bit (decide (callOwner s call = k)) := by
  obtain ⟨⟨-, -, hopen⟩, -⟩ := returnSeizure_spec call.group s
  rw [hopen, callOwner]
  by_cases he : (s.group call.group).owner = k
  · simp [he, hk, bit]
  · simp [he, Ne.symm he, bit]

theorem rising_grantSeizure {g : Nat} {s : State} (h : Table.rising s.backup.settlements = true) :
    Table.rising (grantSeizure g s).backup.settlements = true :=
  rising_changeOpen (by simpa using h)

theorem owner_grantSeizure (g h : Nat) (s : State) : ((grantSeizure g s).group h).owner = (s.group h).owner := by
  rw [grantSeizure_group]
  split
  next he => rw [he]
  next => rfl

theorem busy_grantSeizure (g h : Nat) (s : State) :
    ((grantSeizure g s).group h).busy = (s.group h).busy + bit (decide (g = h)) := by
  rw [grantSeizure_group]
  split
  next he => simp [he, bit]
  next hne => simp [Ne.symm hne, bit]

theorem openHandovers_grantSeizure (call : Call) (k : Nat) (s : State) (hk : k ≠ 0) :
    (grantSeizure call.group s).openHandovers k = s.openHandovers k + bit (decide (callOwner s call = k)) := by
  rw [grantSeizure_open, callOwner]
  by_cases he : (s.group call.group).owner = k
  · simp [he, hk, bit]
  · simp [he, Ne.symm he, bit]

theorem Context.legalAt_call {now : Tick} {n : Nat} {x : CallState} {call : Call} (hn : 1 ≤ n ∧ n ≤ 255)
    (hcall : x.call? = some call) (hlegal : call.Legal) (hx : ∀ c a, x ≠ .answered c a) :
    Context.LegalAt now { generation := n, state := x } :=
  ⟨hn, fun c hc => by rw [← Option.some.inj (hcall.symm.trans hc)]; exact hlegal, fun c a h => absurd h (hx c a)⟩

/-- CONFIRM keeps the seizure and takes the call out of its bank's provisional count (R8, R84). -/
theorem upholds_confirmed {s : State} {i : Nat} {call : Call} {deadline : Tick}
    (hi : (s.context i).state = .provisional call deadline) :
    Upholds s (changeProvisional call.bank (fun n => n - 1)
      (putContext i { s.context i with state := .confirmed call } s)) :=
  Reseats.upholds (i := i) (c := { s.context i with state := .confirmed call })
    { main := rfl, index := fun h => h.index_of_ne_free (by simp [hi]), table := rfl,
      expired := by rw [hi]; exact .kept rfl, owner := fun _ => rfl, busy := fun g => by rw [hi]; exact .same _ _,
      rising := id, handovers := fun k _ => by rw [hi]; exact .same _ _,
      provisional := fun k => by rw [hi, provisional_left]; exact .left _ _ }
    (fun h => (h.putContext i _).changeProvisional _ _) rfl rfl rfl rfl
    (fun h => (h.plans.congr (t := putContext i _ s) (fun _ => rfl) rfl).changeProvisional _ _)
    (fun h => h.up_of_ne_free (i := i) (by simp [hi]))
    (fun h => Context.legalAt_call (h.context i).1 rfl (h.call (by rw [hi]; rfl)) (by simp))

theorem answeredNow_legal (s : State) (call : Call) : (answeredNow s call).Legal s.now := by
  simp [Answered.Legal, answeredNow, segmentNow, -BitVec.toNat_sub]

/-- ANSWER keeps the seizure (R85). -/
theorem upholds_answered {s : State} {i : Nat} {call : Call} (hi : (s.context i).state = .confirmed call) :
    Upholds s (putContext i { s.context i with state := .answered call (answeredNow s call) } s) :=
  Reseats.upholds (i := i) (c := { s.context i with state := .answered call (answeredNow s call) })
    { main := rfl, index := fun h => h.index_of_ne_free (by simp [hi]), table := rfl,
      expired := by rw [hi]; exact .kept rfl, owner := fun _ => rfl, busy := fun g => by rw [hi]; exact .same _ _,
      rising := id, handovers := fun k _ => by rw [hi]; exact .same _ _,
      provisional := fun k => by rw [hi]; exact .same _ _ }
    (fun h => h.putContext i _) rfl rfl rfl rfl (fun h => h.plans.congr (fun _ => rfl) rfl)
    (fun h => h.up_of_ne_free (i := i) (by simp [hi]))
    (fun h => ⟨(h.context i).1, fun c hc => h.call (i := i) (by rw [hi]; exact hc), fun c a ha => by
      simp only [CallState.answered.injEq] at ha
      rw [← ha.2]
      exact answeredNow_legal s call⟩)

theorem upholds_markLong (i : Nat) (s : State) : Upholds s (markLong i s) := by
  unfold markLong
  split
  next call a hi =>
    split
    · exact Reseats.upholds (i := i) (c := { s.context i with state := .answered call { a with long := true } })
        { main := rfl, index := fun h => h.index_of_ne_free (by simp [hi]), table := rfl,
          expired := by rw [hi]; exact .kept rfl, owner := fun _ => rfl, busy := fun g => by rw [hi]; exact .same _ _,
          rising := id, handovers := fun k _ => by rw [hi]; exact .same _ _,
          provisional := fun k => by rw [hi]; exact .same _ _ }
        (fun h => h.putContext i _) rfl rfl rfl rfl (fun h => h.plans.congr (fun _ => rfl) rfl)
        (fun h => h.up_of_ne_free (i := i) (by simp [hi]))
        (fun h => ⟨(h.context i).1, fun c hc => h.call (i := i) (by rw [hi]; exact hc), fun c b hb => by
          obtain ⟨hne, hlength, hhead, hpair, hwithin, -⟩ := (h.context i).2.2 call a hi
          simp only [CallState.answered.injEq] at hb
          rw [← hb.2]
          exact ⟨hne, hlength, hhead, hpair, hwithin, by simp⟩⟩)
    · exact .refl s
  next => exact .refl s

theorem upholds_markAllLong (is : List Nat) (s : State) : Upholds s (markAllLong is s) := by
  induction is generalizing s with
  | nil => exact .refl s
  | cons i is ih => exact (upholds_markLong i s).trans (ih _)

/-- An EXPIRED context is freed and leaves the expired list (R90, R91). -/
theorem upholds_expiredFreed {s : State} {i : Nat} {call : Call} {deadline : Tick}
    (hi : (s.context i).state = .expired call deadline) : Upholds s (freeContext i (dropExpired i s)) :=
  Reseats.upholds (i := i) (c := { s.context i with state := .free })
    { main := rfl, index := fun h => h.index_of_ne_free (by simp [hi]), table := rfl,
      expired := .left rfl, owner := fun _ => rfl, busy := fun g => by rw [hi]; exact .same _ _,
      rising := id, handovers := fun k _ => by rw [hi]; exact .same _ _,
      provisional := fun k => by rw [hi]; exact .same _ _ }
    (fun h => (h.setContexts (x := (dropExpired i s).contexts) h.contexts).freeContext i) rfl rfl rfl rfl
    (fun h => h.plans.congr (fun _ => rfl) rfl)
    (fun h => h.up_of_ne_free (i := i) (by simp [hi])) (fun h => Context.legalAt_free (h.context i).1)

theorem upholds_tooLate {s : State} {i : Nat} {call : Call} {deadline : Tick}
    (hi : (s.context i).state = .expired call deadline) (slot : Nat) (req : List Byte) :
    Upholds s (tooLate slot req i call deadline s) :=
  (upholds_expiredFreed hi).trans (upholds_reply _ _ _ _ _ _)

/-! ### Calls that give up or take up a seizure (R29, R30, R68, R73 to R76, R87, R89) -/

/-- `t` differs from `s` in nothing that a call or a code is read from and in no count of seizures, and its banks are as legal. -/
structure SameSeizures (s t : State) : Prop where
  power : t.power = s.power
  contexts : t.contexts = s.contexts
  tick : t.clock.tick = s.clock.tick
  gaps : t.supervision.gaps = s.supervision.gaps
  routeJob : t.routeJob = s.routeJob
  groups : ∀ g, (t.group g).busy = (s.group g).busy ∧ (t.group g).owner = (s.group g).owner
  rising : Table.rising s.backup.settlements = true → Table.rising t.backup.settlements = true
  handovers : ∀ k, t.openHandovers k = s.openHandovers k
  provisional : ∀ k, (t.bank k).provisional = (s.bank k).provisional
  plans : s.PlansLegal → t.PlansLegal
  canonical : s.Canonical → t.Canonical

theorem SameSeizures.refl (s : State) : SameSeizures s s :=
  ⟨rfl, rfl, rfl, rfl, rfl, fun _ => ⟨rfl, rfl⟩, id, fun _ => rfl, fun _ => rfl, id, id⟩

theorem SameSeizures.trans {s t u : State} (h : SameSeizures s t) (k : SameSeizures t u) : SameSeizures s u where
  power := k.power.trans h.power
  contexts := k.contexts.trans h.contexts
  tick := k.tick.trans h.tick
  gaps := k.gaps.trans h.gaps
  routeJob := k.routeJob.trans h.routeJob
  groups g := ⟨(k.groups g).1.trans (h.groups g).1, (k.groups g).2.trans (h.groups g).2⟩
  rising := k.rising ∘ h.rising
  handovers n := (k.handovers n).trans (h.handovers n)
  provisional n := (k.provisional n).trans (h.provisional n)
  plans := k.plans ∘ h.plans
  canonical := k.canonical ∘ h.canonical

theorem SameSeizures.upholds {s t : State} (h : SameSeizures s t) : Upholds s t where
  canonical := h.canonical
  conserved := SameBooks.conserved
    { main := by rw [h.power], seats := seats_of_contexts (by rw [h.contexts]), expired := by rw [h.contexts],
      groups := fun g => ⟨(h.groups g).1, .inl (h.groups g).2⟩, rising := h.rising, handovers := h.handovers,
      provisional := h.provisional }
  callsLegal hl := by
    obtain ⟨hplans, hcontexts, hcodes⟩ := callsLegal_iff.1 hl
    exact callsLegal_iff.2 ⟨h.plans hplans, hcontexts.congr h.power (by rw [h.contexts]) h.tick, hcodes.congr h.gaps h.routeJob⟩

theorem sameSeizures_countVerdict (g : Nat) (v : Verdict) (s : State) : SameSeizures s (countVerdict g v s) where
  power := by simp
  contexts := by simp
  tick := by simp
  gaps := by simp
  routeJob := by simp
  groups h := by
    obtain ⟨hsame, hbusy⟩ := countVerdict_same g h v s
    simp only [Group.SameButCounts, Group.mk.injEq] at hsame
    obtain ⟨-, -, -, -, howner, -⟩ := hsame
    exact ⟨hbusy, howner⟩
  rising := by simp
  handovers k := by simp
  provisional k := by simp
  plans h := h.congr (by simp) (by simp)
  canonical h := h.countVerdict g v

theorem Dest.Legal.clearOwn {d : Dest} (h : d.Legal) (g : Nat) :
    Dest.Legal (if d.retained = some g then { d with retained := none } else d) := by
  split
  · exact ⟨h.1, h.2.1, h.2.2.1, by simp⟩
  · exact h

theorem State.PlansLegal.changeDest {s : State} (h : s.PlansLegal) (k : Bank) (n : Nat) {f : Dest → Dest}
    (hcode : ∀ d, (f d).code = d.code) (hf : ∀ d : Dest, d.Legal → (f d).Legal) : (changeDest k n f s).PlansLegal :=
  h.putBank ((h.1 k).modifyDest n hcode hf)

theorem sameSeizures_clearOwnRetained (call : Call) (s : State) : SameSeizures s (clearOwnRetained call s) where
  power := rfl
  contexts := rfl
  tick := rfl
  gaps := rfl
  routeJob := rfl
  groups _ := ⟨rfl, rfl⟩
  rising := id
  handovers _ := rfl
  provisional k := by
    rw [clearOwnRetained, changeDest, bank_putBank]
    split
    next h => rw [h]
    next => rfl
  plans h := h.changeDest _ _ (fun d => by split <;> rfl) fun d hd => hd.clearOwn call.group
  canonical h := h.changeDest _ _ _

theorem sameSeizures_putSums (c : Nat) (v : Sums) (s : State) : SameSeizures s (putSums c v s) where
  power := by simp
  contexts := by simp
  tick := by simp
  gaps := by simp
  routeJob := by simp
  groups g := by simp [State.group]
  rising h := by
    simp only [putSums, statusEvents_keeps, putSettlement, State.setBackup_backup]
    exact Table.rising_write _ _ _ h
  handovers k := by
    have hkeep : ∀ (n : Nat) (u : State), (statusEvents n u).openHandovers k = u.openHandovers k := by
      simp [State.openHandovers, State.settlement]
    rw [putSums, hkeep]
    simp only [State.openHandovers, settlement_putSettlement]
    split
    next h => rw [h]
    next => rfl
  provisional k := by simp [State.bank]
  plans h := h.congr (by simp [State.bank]) (by simp)
  canonical h := h.putSums c v

theorem sameSeizures_handTotal (c : Nat) (d : Direction) (p : Option Price) (s : State) :
    SameSeizures s (handTotal c d p s) := by
  cases p with
  | none => exact .refl s
  | some x => exact sameSeizures_putSums c _ s

/-- A seizure request either takes nothing, or grants a candidate not in the call's history once the others are counted. -/
theorem seize_cases (history : List Nat) (cs : List Candidate) (s : State) :
    ((seize history cs s).1 = none ∧ SameSeizures s (seize history cs s).2) ∨
    ∃ c ∈ cs, ∃ u, (seize history cs s).1 = some c ∧ c.group ∉ history ∧ SameSeizures s u ∧
      (seize history cs s).2 = grantSeizure c.group u := by
  induction cs generalizing s with
  | nil => exact .inl ⟨rfl, .refl s⟩
  | cons c cs ih =>
    have hcounted := sameSeizures_countVerdict c.group (examine s history c) s
    rw [seize]
    split
    next hv =>
      refine .inr ⟨c, by simp, _, rfl, fun hmem => ?_, hcounted, rfl⟩
      unfold examine at hv
      dsimp only at hv
      rw [if_pos hmem] at hv
      split at hv <;> simp at hv
    next =>
      rcases ih (countVerdict c.group (examine s history c) s) with ⟨hnone, hsame⟩ | ⟨d, hd, u, hsome, hnew, hsame, hgrant⟩
      · exact .inl ⟨hnone, hcounted.trans hsame⟩
      · exact .inr ⟨d, by simp [hd], u, hsome, hnew, hcounted.trans hsame, hgrant⟩

theorem holds_of_live {x : CallState} {call : Call} (hcall : x.call? = some call) (hlive : x.live = true) (p : Call → Bool) :
    x.holds p = p call := by
  simp [CallState.holds, hcall, hlive]

/-- A PROVISIONAL call leaves its bank's provisional count (R8). -/
def leaveBank (x : CallState) (s : State) : State :=
  match x with
  | .provisional call _ => changeProvisional call.bank (fun n => n - 1) s
  | _ => s

theorem leaveBank_eq (x : CallState) (s : State) : leaveBank x s = s.setPlan (leaveBank x s).plan := by
  cases x <;> rfl

theorem leaveBank_provisional (x : CallState) (k : Bank) (s : State) :
    ((leaveBank x s).bank k).provisional = (s.bank k).provisional - bit (x.provisionalIn k) := by
  cases x with
  | provisional call deadline => exact provisional_left call.bank k s
  | _ => rfl

theorem State.Canonical.leaveBank {s : State} (h : s.Canonical) (x : CallState) : (leaveBank x s).Canonical := by
  cases x with
  | provisional call deadline => exact h.changeProvisional _ _
  | _ => exact h

theorem State.PlansLegal.leaveBank {s : State} (h : s.PlansLegal) (x : CallState) : (leaveBank x s).PlansLegal := by
  cases x with
  | provisional call deadline => exact h.changeProvisional _ _
  | _ => exact h

theorem State.Canonical.returned {s t : State} {g : Nat} (h : s.Canonical)
    (hs : SameSeizures (Machine.returnSeizure g s) t) : t.Canonical := hs.canonical (h.returnSeizure g)

theorem State.CallsLegal.returned {s t : State} {g : Nat} (h : s.CallsLegal) (hs : SameSeizures (returnSeizure g s) t) :
    t.PlansLegal := hs.plans (h.plans.congr (by simp) (by simp))

/-- A live call gives up its seizure and leaves its bank's provisional count, and its context comes to hold `c`, which holds
no seizure (R30). -/
theorem reseats_left {s t u : State} {i : Nat} {call : Call} {c : Context} (hcall : (s.context i).state.call? = some call)
    (hlive : (s.context i).state.live = true) (ht : SameSeizures (returnSeizure call.group s) t)
    (hc : c.state.live = false)
    (hu : u = (leaveBank (s.context i).state t).setContexts u.contexts)
    (htable : u.contexts.table = Table.write s.contexts.table Context.reset i c)
    (hlist : Relisted i (s.context i).state c.state s.contexts.expired u.contexts.expired) : Reseats s s u i c where
  main := by rw [hu, leaveBank_eq]; simp [ht.power]
  index h := h.index_of_ne_free fun he => by rw [he] at hcall; simp [CallState.call?] at hcall
  table := htable
  expired := hlist
  owner g := by rw [hu, leaveBank_eq]; simp [(ht.groups g).2, owner_returnSeizure]
  busy g := by
    rw [hu, leaveBank_eq, holds_of_live hcall hlive]
    simp only [group_setContexts, group_setPlan, (ht.groups g).1, busy_returnSeizure]
    simpa [CallState.holds, hc] using Follows.left _ _
  rising h := by rw [hu, leaveBank_eq]; simpa using ht.rising (rising_returnSeizure h)
  handovers k hk := by
    rw [hu, leaveBank_eq, holds_of_live hcall hlive]
    simp only [openHandovers_setContexts, openHandovers_setPlan, ht.handovers, openHandovers_returnSeizure _ _ _ hk]
    simpa [CallState.holds, hc] using Follows.left _ _
  provisional k := by
    have hnot : c.state.provisionalIn k = false := by
      revert hc
      cases c.state <;> simp [CallState.live, CallState.provisionalIn]
    rw [hu, bank_setContexts, leaveBank_provisional, ht.provisional, hnot]
    simpa using Follows.left _ _

/-- A live call ends: its seizure is returned, it leaves its bank's provisional count, and its context is freed (R73, R87). -/
theorem upholds_callEnded {s t : State} {i : Nat} {call : Call} (hcall : (s.context i).state.call? = some call)
    (hlive : (s.context i).state.live = true) (ht : SameSeizures (returnSeizure call.group s) t) :
    Upholds s (freeContext i (leaveBank (s.context i).state t)) := by
  have hne : (s.context i).state ≠ .free := fun he => by simp [he, CallState.live] at hlive
  have hsame : (leaveBank (s.context i).state t).contexts = s.contexts := by
    rw [leaveBank_eq, State.setPlan_contexts, ht.contexts]; simp
  have hcontext : (leaveBank (s.context i).state t).context i = s.context i := context_congr (by rw [hsame]) i
  have hexpired : (s.context i).state.isExpired = CallState.isExpired .free := by
    revert hlive
    cases (s.context i).state <;> simp [CallState.live, CallState.isExpired]
  refine Reseats.upholds (c := { s.context i with state := .free })
    (reseats_left hcall hlive ht rfl rfl (by simp [freeContext, putContext, hsame, hcontext]) ?_)
    (fun h => ((h.returned ht).leaveBank _).freeContext i) ?_ ?_ ?_ ?_
    (fun h => ((h.returned ht).leaveBank (s.context i).state).congr (by simp) (by simp)) (fun h => h.up_of_ne_free hne)
    (fun h => Context.legalAt_free (h.context i).1)
  · simpa [freeContext, putContext, hsame] using Relisted.kept hexpired
  all_goals rw [freeContext, leaveBank_eq]; simp [ht.power, ht.tick, ht.gaps, ht.routeJob]

/-- A call is seated: a FREE context becomes PROVISIONAL, with the seizure granted and its bank's count raised (R29, R68). -/
theorem upholds_seated {r s : State} {i : Nat} {call : Call} (deadline : Tick) (began : Upholds r s)
    (hi : (s.context i).state = .free) (hindex : r.Conserved → i < 16384) (hup : s.up = true)
    (hlegal : r.CallsLegal → call.Legal) :
    Upholds r (changeProvisional call.bank (fun n => n + 1)
      (putContext i { s.context i with state := .provisional call deadline } (grantSeizure call.group s))) :=
  Reseats.upholds_from (i := i) (c := { s.context i with state := .provisional call deadline })
    { main := by simp, index := hindex, table := by simp [putContext],
      expired := by rw [hi]; simpa [putContext] using .kept rfl,
      owner := fun g => by simpa using owner_grantSeizure _ _ _,
      busy := fun g => by
        rw [hi, group_changeProvisional, group_putContext, busy_grantSeizure]
        exact .joined _ _,
      rising := fun h => by simpa using rising_grantSeizure h,
      handovers := fun k hk => by
        rw [hi, openHandovers_changeProvisional, openHandovers_putContext, openHandovers_grantSeizure _ _ _ hk]
        exact .joined _ _,
      provisional := fun k => by
        rw [hi, provisional_joined, bank_putContext, bank_grantSeizure]
        exact .joined _ _ }
    began (fun h => ((h.grantSeizure _).putContext i _).changeProvisional _ _) (by simp) (by simp) (by simp) (by simp)
    (fun h => (h.plans.congr (t := putContext i _ (grantSeizure call.group s)) (by simp) (by simp)).changeProvisional _ _)
    (fun _ => hup) (fun hr h => Context.legalAt_call (h.context i).1 rfl (hlegal hr) (by simp))

/-- A PROVISIONAL call moves: its seizure is returned, another granted, and it stands PROVISIONAL under the same bank (R75). -/
theorem upholds_callMoved {s t : State} {i : Nat} {call moved : Call} {deadline later : Tick}
    (hi : (s.context i).state = .provisional call deadline) (ht : SameSeizures (returnSeizure call.group s) t)
    (hbank : moved.bank = call.bank) (hlegal : s.CallsLegal → moved.Legal) :
    Upholds s (putContext i { s.context i with state := .provisional moved later } (grantSeizure moved.group t)) := by
  have hne : (s.context i).state ≠ .free := by simp [hi]
  have howner : callOwner t moved = callOwner s moved := by
    rw [callOwner, (ht.groups _).2, owner_returnSeizure]; rfl
  refine Reseats.upholds (c := { s.context i with state := .provisional moved later })
    { main := by simp [ht.power], index := fun h => h.index_of_ne_free hne,
      table := by simp [putContext, ht.contexts],
      expired := by rw [hi]; simpa [putContext, ht.contexts] using .kept rfl,
      owner := fun g => by rw [group_putContext, owner_grantSeizure, (ht.groups g).2, owner_returnSeizure],
      busy := fun g => by
        rw [hi, group_putContext, busy_grantSeizure, (ht.groups g).1, busy_returnSeizure]
        exact .moved _ _ _,
      rising := fun h => by simpa using rising_grantSeizure (ht.rising (rising_returnSeizure h)),
      handovers := fun k hk => by
        rw [hi, openHandovers_putContext, openHandovers_grantSeizure _ _ _ hk, howner, ht.handovers,
          openHandovers_returnSeizure _ _ _ hk]
        exact .moved _ _ _,
      provisional := fun k => by
        rw [hi, bank_putContext, bank_grantSeizure, ht.provisional, bank_returnSeizure]
        simpa [CallState.provisionalIn, hbank] using .same _ _ }
    (fun h => ((h.returned ht).grantSeizure _).putContext i _) (by simp [ht.power]) (by simp [ht.tick])
    (by simp [ht.gaps]) (by simp [ht.routeJob])
    (fun h => (h.returned ht).congr (by simp) (by simp)) (fun h => h.up_of_ne_free hne)
    (fun h => Context.legalAt_call (h.context i).1 rfl (hlegal h) (by simp))

/-! ### The expired list (R89, R91, R92) -/

theorem State.CallsLegal.freeContext {s : State} (h : s.CallsLegal) (i : Nat) : (freeContext i s).CallsLegal := by
  obtain ⟨hplans, hcontexts, hcodes⟩ := callsLegal_iff.1 h
  refine callsLegal_iff.2 ⟨hplans.congr (by simp) (by simp), ?_, hcodes.congr (by simp) (by simp)⟩
  by_cases hup : s.up = true
  · exact hcontexts.write (by simp) (by simp) hup rfl (Context.legalAt_free (hcontexts.2 i).1)
  · have hnil : s.contexts.table = [] := hcontexts.1 (by simpa using hup)
    refine hcontexts.congr (by simp) ?_ (by simp)
    simp [Machine.freeContext, Machine.putContext, State.context, hnil, Table.read, Table.write, Context.reset, Table.remove]

theorem State.Canonical.freeAll {s : State} (h : s.Canonical) (is : List Nat) : (freeAll is s).Canonical := by
  induction is generalizing s with
  | nil => exact h
  | cons i is ih => exact ih (h.freeContext i)

theorem State.CallsLegal.freeAll {s : State} (h : s.CallsLegal) (is : List Nat) : (freeAll is s).CallsLegal := by
  induction is generalizing s with
  | nil => exact h
  | cons i is ih => exact ih (h.freeContext i)

theorem State.Canonical.setExpired {s : State} (h : s.Canonical) (l : List Nat) :
    (s.setContexts { s.contexts with expired := l }).Canonical := h.setContexts h.contexts

theorem State.CallsLegal.setExpired {s : State} (h : s.CallsLegal) (l : List Nat) :
    (s.setContexts { s.contexts with expired := l }).CallsLegal := h

/-- The first `n` contexts of the expired list are freed. -/
def freeHeads (n : Nat) (s : State) : State :=
  freeAll (s.contexts.expired.take n) (s.setContexts { s.contexts with expired := s.contexts.expired.drop n })

theorem trimExpired_eq_freeHeads (s : State) :
    trimExpired s = freeHeads (s.contexts.expired.length - s.contexts.limit) s := rfl

theorem exists_expired {x : CallState} (h : x.isExpired = true) : ∃ call deadline, x = .expired call deadline := by
  cases x <;> simp [CallState.isExpired] at h ⊢

theorem freeHeads_of_nil {n : Nat} {s : State} (h : s.contexts.expired = []) : freeHeads n s = s := by
  have hsame : { s.contexts with expired := [] } = s.contexts := by rw [← h]
  rw [freeHeads, h, List.drop_nil, List.take_nil, hsame]
  rfl

theorem freeHeads_succ {n i : Nat} {rest : List Nat} {s : State} (h : s.contexts.expired = i :: rest) (hi : i ∉ rest) :
    freeHeads (n + 1) s = freeHeads n (freeContext i (dropExpired i s)) := by
  have hrest : rest.filter (fun j => decide (j ≠ i)) = rest :=
    List.filter_eq_self.2 fun j hj => by simpa using ne_of_mem_of_not_mem hj hi
  have hdrop : (freeContext i (dropExpired i s)).contexts.expired = rest := by
    simpa [freeContext, putContext, dropExpired, h] using hrest
  rw [freeHeads, freeHeads, hdrop, h]
  simp only [List.take_succ_cons, List.drop_succ_cons, freeAll]
  rfl

theorem State.Conserved.freeHeads {s : State} (h : s.Conserved) (n : Nat) : (freeHeads n s).Conserved := by
  induction n generalizing s with
  | zero => exact h
  | succ n ih =>
    obtain ⟨-, -, -, -, -, -, hnodup, hlisted⟩ := id h
    cases hl : s.contexts.expired with
    | nil => rw [freeHeads_of_nil hl]; exact h
    | cons i rest =>
      obtain ⟨call, deadline, hi⟩ := exists_expired ((hlisted i).1 (by simp [hl]))
      rw [hl, List.nodup_cons] at hnodup
      rw [freeHeads_succ hl hnodup.1]
      exact ih ((upholds_expiredFreed hi).conserved h)

theorem upholds_trimExpired (s : State) : Upholds s (trimExpired s) where
  canonical h := (h.setExpired _).freeAll _
  conserved h := h.freeHeads _
  callsLegal h := (h.setExpired _).freeAll _

theorem freeAll_setPlan (is : List Nat) (p : PlanStore) (s : State) : freeAll is (s.setPlan p) = (freeAll is s).setPlan p := by
  induction is generalizing s with
  | nil => rfl
  | cons i is ih => exact ih (freeContext i s)

theorem trimExpired_changeProvisional (k : Bank) (f : Nat → Nat) (s : State) :
    changeProvisional k f (trimExpired s) = trimExpired (changeProvisional k f s) := by
  have hplan : (trimExpired s).plan = s.plan := by simp
  have hleft : changeProvisional k f (trimExpired s) = (trimExpired s).setPlan (changeProvisional k f s).plan := by
    simp only [changeProvisional, putBank, State.bank, hplan, State.setPlan_plan]
  rw [hleft]
  exact (freeAll_setPlan _ _ _).symm

theorem upholds_expire (i : Nat) (s : State) : Upholds s (expire i s) := by
  unfold expire
  split
  next call deadline hi =>
    split
    next =>
      dsimp only
      rw [trimExpired_changeProvisional]
      refine Upholds.trans ?_ (upholds_trimExpired _)
      have hne : (s.context i).state ≠ .free := by simp [hi]
      refine Reseats.upholds (i := i) (c := { s.context i with state := .expired call deadline })
        (reseats_left (call := call) (by rw [hi]; rfl) (by rw [hi]; rfl) (.refl _) rfl (by rw [hi]; rfl) (by simp [putContext])
          (by rw [hi]; simpa [putContext] using Relisted.joined rfl rfl))
        (fun h => (((h.returnSeizure call.group).putContext i _).setExpired _).changeProvisional _ _) (by simp) (by simp) (by simp) (by simp)
        (fun h => (h.plans.congr (t := (putContext i _ (returnSeizure call.group s)).setContexts _)
          (by simp) (by simp)).changeProvisional _ _)
        (fun h => h.up_of_ne_free hne)
        (fun h => Context.legalAt_call (h.context i).1 rfl (h.call (by rw [hi]; rfl)) (by simp))
    next => exact .refl s
  next => exact .refl s

theorem upholds_expireAll (is : List Nat) (s : State) : Upholds s (expireAll is s) := by
  induction is generalizing s with
  | nil => exact .refl s
  | cons i is ih => exact (upholds_expire i s).trans (ih _)

/-! ### Settlement (R148, R150, R151, R153) -/

theorem rising_takenSettlements {t : Table Settlement} (h : Table.rising t = true) :
    Table.rising (takenSettlements t) = true :=
  Table.rising_filter _ (Table.rising_mapValues h)

theorem read_takenSettlements {t : Table Settlement} (h : Table.rising t = true) (k : Nat) :
    Table.read (takenSettlements t) Settlement.zero k = (Table.read t Settlement.zero k).taken := by
  rw [takenSettlements, Table.read_filter_ne _ (Table.rising_mapValues h), Table.read_mapValues _ _ _ _ rfl]

theorem upholds_putSums (c : Nat) (v : Sums) (s : State) : Upholds s (putSums c v s) := (sameSeizures_putSums c v s).upholds

theorem upholds_restoreSums (taken : Table Sums) (s : State) : Upholds s (restoreSums taken s) := by
  induction taken generalizing s with
  | nil => exact .refl s
  | cons e taken ih => exact (upholds_putSums e.1 _ s).trans (ih _)

theorem upholds_setCloseRecord (r : Option CloseRecord) (s : State) :
    Upholds s (s.setBackup { s.backup with closeRecord := r }) := upholds_of_same_settlements rfl

theorem upholds_restoreClose (s : State) : Upholds s (restoreClose s) := by
  unfold restoreClose
  split
  · exact (upholds_setCloseRecord none s).trans (upholds_restoreSums _ _)
  · exact .refl s

theorem upholds_setCarrierJob (job : Option CarrierJob) (s : State) : Upholds s (s.setCarrierJob job) :=
  SameRecords.upholds (by constructor <;> rfl)

theorem upholds_closeOne (slot : Nat) (req : List Byte) (c : Nat) (s : State) : Upholds s (closeOne slot req c s) :=
  (((upholds_putSettlement (r := (s.settlement c).taken) rfl).trans (upholds_setCloseRecord _ _)).trans
    (upholds_setCarrierJob _ _)).trans (upholds_reply _ _ _ _ _ _)

theorem upholds_closeAll (slot : Nat) (req : List Byte) (addr : Word) (s : State) : Upholds s (closeAll slot req addr s) := by
  have htaken : ∀ r : Option CloseRecord, Upholds s (s.setBackup { s.backup with
      settlements := takenSettlements s.backup.settlements, closeRecord := r }) := fun r =>
    upholds_setBackup
      (fun h => Table.canonical_iff.2 ⟨rising_takenSettlements (Table.canonical_iff.1 h.settlements).1,
        fun e he => by simpa using (List.mem_filter.1 he).2⟩)
      rising_takenSettlements (fun h k => by
        simp only [State.openHandovers, State.settlement, State.setBackup_backup, read_takenSettlements h]
        rfl)
  exact (((htaken _).trans (upholds_setCarrierJob _ _)).trans (upholds_markBegun _ _ _)).trans (upholds_ask _ _ _)

theorem upholds_resultFailed (s : State) : Upholds s (resultFailed s) := by
  unfold resultFailed
  split
  · exact ((upholds_restoreClose s).trans (upholds_setCarrierJob _ _)).trans (upholds_reply _ _ _ _ _ _)
  · exact .refl s

/-! ### Time (R96, R100, R101) -/

/-- The long-call mark of context `i` is due and not made. -/
def LongDue (s : State) (i : Nat) : Prop :=
  ∃ call a, (s.context i).state = .answered call a ∧ a.long = false ∧
    reached s.now (a.tick + BitVec.ofNat 32 longCall) = true

theorem longDue_congr {s t : State} {i : Nat} (hcontext : t.context i = s.context i) (hnow : t.now = s.now) :
    LongDue t i ↔ LongDue s i := by
  rw [LongDue, LongDue, hcontext, hnow]

theorem not_longDue_markLong (i : Nat) (s : State) : ¬ LongDue (markLong i s) i := by
  rintro ⟨call, a, hstate, hlong, hreached⟩
  unfold markLong at hstate hreached
  split at hstate
  next call' a' hi =>
    split at hstate
    next =>
      simp only [context_putContext, if_true, CallState.answered.injEq] at hstate
      simp [← hstate.2] at hlong
    next hnot =>
      rw [hi, CallState.answered.injEq] at hstate
      simp only [hi, if_neg hnot] at hreached
      exact hnot (hstate.2 ▸ hreached)
  next hne => exact hne call a hstate

theorem context_markLong_of_ne {i j : Nat} (h : j ≠ i) (s : State) : (markLong i s).context j = s.context j := by
  unfold markLong
  split
  · split
    · rw [context_putContext, if_neg h]
    · rfl
  · rfl

theorem not_longDue_markAllLong {is : List Nat} {s : State} (h : ∀ i, i ∉ is → ¬ LongDue s i) (i : Nat) :
    ¬ LongDue (markAllLong is s) i := by
  induction is generalizing s with
  | nil => exact h i (by simp)
  | cons j is ih =>
    refine ih fun k hk => ?_
    by_cases hkj : k = j
    · rw [hkj]; exact not_longDue_markLong j s
    · rw [longDue_congr (context_markLong_of_ne hkj s) (by simp [State.now])]
      exact h k (by simp [hkj, hk])

theorem longDue_endPeriod (s : State) (i : Nat) : LongDue (endPeriod s) i ↔ LongDue s i := by
  have hclock : (endPeriod s).clock = s.clock := by simp
  have hcontexts : (endPeriod s).contexts = s.contexts := by simp
  exact longDue_congr (context_congr (by rw [hcontexts]) i) (by rw [State.now, State.now, hclock])

theorem not_longDue_settleTick (s : State) (i : Nat) : ¬ LongDue (settleTick s) i := by
  have hmarked : ∀ u : State, ¬ LongDue (markAllLong (u.contexts.table.map (fun e => e.1)) u) i := fun u =>
    not_longDue_markAllLong (fun j hj hdue => by
      obtain ⟨call, a, hstate, -⟩ := hdue
      refine hj (List.mem_map.2 ⟨(j, u.context j), Table.mem_of_read_ne (t := u.contexts.table) (d := Context.reset) ?_, rfl⟩)
      intro he
      rw [State.context, he] at hstate
      simp [Context.reset] at hstate) i
  unfold settleTick
  dsimp only
  split
  · rw [longDue_endPeriod]
    exact hmarked _
  · exact hmarked _

theorem upholds_settleTick (s : State) : Upholds s (settleTick s) := by
  have hmarked : ∀ cs is js : List Nat, ∀ u : State, Upholds u (markAllLong js (expireAll is (takeAllHanded cs u))) :=
    fun cs is js u => ((upholds_takeAllHanded cs u).trans (upholds_expireAll is _)).trans (upholds_markAllLong js _)
  exact ((upholds_removeLapsed s).trans (hmarked _ _ _ _)).trans (.ite (upholds_endPeriod _) (.refl _))

/-- A tick before the long-call mark is due, the ticks since the answer rise by 1 and stay within 864,000. -/
theorem ticks_rise {now t : Tick} (hle : (now - t).toNat ≤ 864000)
    (hdue : ¬ reached now (t + BitVec.ofNat 32 longCall) = true) :
    (now + 1#32 - t).toNat = (now - t).toNat + 1 ∧ (now - t).toNat < 864000 := by
  have hmark : BitVec.ofNat 32 longCall = 864000#32 := rfl
  rw [reached, decide_eq_true_eq, hmark] at hdue
  constructor <;> bv_omega

theorem Answered.Legal.later {now : Tick} {a : Answered} (h : a.Legal now)
    (hdue : a.long = false → ¬ reached now (a.tick + BitVec.ofNat 32 longCall) = true) : a.Legal (now + 1#32) := by
  obtain ⟨hne, hlength, hhead, hpair, hwithin, hnow⟩ := h
  refine ⟨hne, hlength, hhead, hpair, hwithin, fun hlong => ?_⟩
  obtain ⟨hticks, hpast⟩ := hnow hlong
  obtain ⟨hstep, hlt⟩ := ticks_rise hticks (hdue hlong)
  exact ⟨by omega, fun g hg => by have := hpast g hg; omega⟩

/-- The tick counter rises once no long-call mark is due any more. -/
theorem upholds_tickRise {s : State} (h : ∀ i, ¬ LongDue s i) : Upholds s (tickRise s) := by
  refine Upholds.trans (t := s.setClock { s.clock with tick := s.clock.tick + 1#32, tickDivider := 0 })
    ⟨id, id, fun hl => ?_⟩ (upholds_countDownGaps _)
  obtain ⟨hplans, ⟨hdown, hcontexts⟩, hcodes⟩ := callsLegal_iff.1 hl
  refine callsLegal_iff.2 ⟨hplans, ⟨hdown, fun i => ?_⟩, hcodes⟩
  obtain ⟨hgeneration, hcall, hanswered⟩ := hcontexts i
  exact ⟨hgeneration, hcall, fun call a ha => (hanswered call a ha).later fun hlong hdue => h i ⟨call, a, ha, hlong, hdue⟩⟩

theorem upholds_advanceTick (s : State) : Upholds s (advanceTick s) :=
  (upholds_settleTick s).trans (upholds_tickRise (not_longDue_settleTick s))

theorem upholds_advanceTenth (s : State) : Upholds s (advanceTenth s) := by
  have hclock : Upholds s (s.setClock { s.clock with calDivider := 0 }) := SameRecords.upholds (by constructor <;> rfl)
  have hcalendar := hclock.trans (upholds_of_same_settlements
    (x := { s.backup with calendar := addTenth s.backup.calendar }) rfl)
  have hband := hcalendar.trans (.ite (c := isHalfHourCarry s.backup.calendar = true) (upholds_evaluateBand _) (.refl _))
  exact .ite (.ite (.ite (hband.trans (upholds_compareTariffs _)) hband) hcalendar) hclock

theorem upholds_changeReference (r : Reference) (s : State) : Upholds s (changeReference r s) :=
  SameRecords.upholds (by constructor <;> simp [changeReference])

theorem upholds_settleSlot (s : State) : Upholds s (settleSlot s) := by
  have hreference : Upholds s
      (if lossDue s then loseReference s else if lockDue s then changeReference .locked s else s) :=
    .ite (upholds_loseReference s) (.ite (upholds_changeReference _ s) (.refl s))
  have htick : ∀ u : State, Upholds u (if tickDue u then advanceTick u else u) := fun u =>
    .ite (upholds_advanceTick u) (.refl u)
  have htenth : ∀ u : State, Upholds u (if tenthDue u then advanceTenth u else u) := fun u =>
    .ite (upholds_advanceTenth u) (.refl u)
  exact (hreference.trans (htick _)).trans (htenth _)

theorem upholds_countSlot (present : Bool) (s : State) : Upholds s (countSlot present s) := by
  have htick : (judgeSlot present s.clock).tick = s.clock.tick := by
    unfold judgeSlot
    split <;> rfl
  exact SameRecords.upholds ⟨rfl, rfl, rfl, rfl, rfl, rfl, rfl, rfl, rfl, htick, rfl, rfl⟩

theorem upholds_slotInReset (s : State) : Upholds s (slotInReset s) :=
  (Upholds.ite (c := tenthDue s = true) (upholds_advanceTenth s) (.refl s)).trans
    (SameRecords.upholds (by constructor <;> rfl))

/-! ### Starts and supplies (R115, R145, R148, R153, R174, R175) -/

/-- Every record outside the Backup Domain and host memory stands at its reset value. -/
structure Fresh (s : State) : Prop where
  plan : s.plan = PlanStore.reset
  groups : s.groups = []
  contexts : s.contexts = ContextTable.reset
  carriers : s.carriers = []
  gaps : s.supervision.gaps = []
  routeJob : s.routeJob = none

theorem fresh_volatileReset (kind : StartKind) (s : State) : Fresh (volatileReset kind s) := ⟨rfl, rfl, rfl, rfl, rfl, rfl⟩

theorem BankData.empty_legal : BankData.empty.Legal := by
  simp [BankData.Legal, BankData.empty]

theorem Fresh.bank {s : State} (h : Fresh s) (k : Bank) : s.bank k = BankData.empty := by
  rw [State.bank, h.plan]
  cases k <;> rfl

theorem Fresh.context {s : State} (h : Fresh s) (i : Nat) : s.context i = Context.reset := by
  rw [State.context, h.contexts]; rfl

theorem Fresh.canonical {s : State} (h : Fresh s) (hmem : Memory.wf s.mem = true)
    (hsettlements : Table.canonical s.backup.settlements Settlement.zero = true) : s.Canonical := by
  refine ⟨hmem, ?_, ?_, ?_, hsettlements, fun k => ?_⟩
  · rw [h.groups]; rfl
  · rw [h.contexts]; rfl
  · rw [h.carriers]; rfl
  · rw [h.bank]; exact ⟨rfl, rfl⟩

theorem Fresh.conserved {s : State} (h : Fresh s) (hrising : Table.rising s.backup.settlements = true)
    (hopen : s.power.main = true → ∀ k, s.openHandovers k = 0) : s.Conserved := by
  have hcount : ∀ p, contextsIn s p = 0 := fun p => by rw [contextsIn, h.contexts]; rfl
  refine ⟨?_, ?_, hrising, fun g => ?_, fun hmain c _ => ?_, fun k => ?_, ?_, fun i => ?_⟩
  · rw [h.contexts]; rfl
  · rw [h.contexts]; simp [ContextTable.reset]
  · rw [seizuresOn, hcount, State.group, h.groups]; rfl
  · rw [seizuresOf, hcount, hopen hmain]
  · rw [hcount, h.bank]; rfl
  · rw [h.contexts]; exact List.nodup_nil
  · rw [h.contexts, h.context]; simp [ContextTable.reset, Context.reset, CallState.isExpired]

theorem Fresh.callsLegal {s : State} (h : Fresh s) : s.CallsLegal := by
  refine callsLegal_iff.2 ⟨⟨fun k => ?_, ?_⟩, ⟨fun _ => ?_, fun i => ?_⟩, ?_, ?_⟩
  · rw [h.bank]; exact BankData.empty_legal
  · rw [h.plan]; simp [PlanStore.reset]
  · rw [h.contexts]; rfl
  · rw [h.context]; exact Context.legalAt_free (by decide)
  · simp [h.gaps]
  · simp [InstallLegal, h.routeJob]

theorem Fresh.of_records {s t : State} (h : Fresh s) (hplan : t.plan = s.plan) (hgroups : t.groups = s.groups)
    (hcontexts : t.contexts = s.contexts) (hcarriers : t.carriers = s.carriers) (hgaps : t.supervision = s.supervision)
    (hjob : t.routeJob = s.routeJob) : Fresh t :=
  ⟨hplan.trans h.plan, hgroups.trans h.groups, hcontexts.trans h.contexts, hcarriers.trans h.carriers,
    by rw [hgaps, h.gaps], hjob.trans h.routeJob⟩

theorem rising_restoreSums {taken : Table Sums} {s : State} (h : Table.rising s.backup.settlements = true) :
    Table.rising (restoreSums taken s).backup.settlements = true := by
  induction taken generalizing s with
  | nil => exact h
  | cons e taken ih => exact ih ((sameSeizures_putSums e.1 _ s).rising h)

theorem rising_restoreClose {s : State} (h : Table.rising s.backup.settlements = true) :
    Table.rising (restoreClose s).backup.settlements = true := by
  unfold restoreClose
  split
  · exact rising_restoreSums h
  · exact h

theorem Settlement.carry_ne_zero {r : Settlement} (h : r ≠ Settlement.zero) : r.carry ≠ Settlement.zero := by
  obtain ⟨⟨receivable, payable, inCount, outCount, mr, mp, mi, mo, unsettled⟩, openHandovers⟩ := r
  intro he
  simp only [Settlement.carry, Settlement.zero, Sums.zero, addSat, Settlement.mk.injEq, Sums.mk.injEq, and_true] at he
  obtain ⟨hr, hp, hi, ho, hmr, hmp, hmi, hmo, hcarried⟩ := he
  have hnone : unsettled = 0 ∧ openHandovers = 0 := by omega
  exact h (by rw [Settlement.zero, Sums.zero, hr, hp, hi, ho, hmr, hmp, hmi, hmo, hnone.1, hnone.2])

theorem canonical_volatileReset {s : State} (kind : StartKind) (h : s.Canonical) : (volatileReset kind s).Canonical :=
  (fresh_volatileReset kind s).canonical h.1 h.settlements

/-- A warm reset keeps the invariants, whatever it finds the supplies and the RESET line to be. -/
theorem upholds_startWarm (kind : StartKind) (cause : ResetCause) (p : Power) (s : State) :
    Upholds s (startWarm kind cause (s.setPower p)) := by
  have hfresh : Fresh (startWarm kind cause (s.setPower p)) :=
    (fresh_volatileReset kind (s.setPower p)).of_records (by simp [startWarm]) (by simp [startWarm]) (by simp [startWarm])
      (by simp [startWarm]) (by simp [startWarm]) (by simp [startWarm])
  have hmem : (startWarm kind cause (s.setPower p)).mem = s.mem := by simp [startWarm, volatileReset]
  refine ⟨fun h => hfresh.canonical (hmem ▸ h.1) ?_, fun h => hfresh.conserved ?_ fun _ k => ?_, fun _ => hfresh.callsLegal⟩
  · exact Table.canonical_mapValues
      ((upholds_restoreClose _).canonical (canonical_volatileReset (s := s.setPower p) kind h)).settlements
      fun _ => Settlement.carry_ne_zero
  · exact Table.rising_mapValues (rising_restoreClose (s := volatileReset kind (s.setPower p)) h.2.2.1)
  · change (Table.read (Table.mapValues Settlement.carry _) Settlement.zero k).openHandovers = 0
    rw [Table.read_mapValues _ _ _ _ rfl]
    rfl

theorem upholds_startCold (p : Power) (s : State) : Upholds s (startCold (s.setPower p)) := by
  have hfresh : Fresh (startCold (s.setPower p)) :=
    (fresh_volatileReset .cold (s.setPower p)).of_records rfl rfl rfl rfl rfl rfl
  exact ⟨fun h => hfresh.canonical h.1 rfl, fun _ => hfresh.conserved rfl fun _ _ => rfl, fun _ => hfresh.callsLegal⟩

/-- A part that is not up holds no call, so a new value of the tick counter is of no account. -/
theorem upholds_endReset {s : State} (hup : s.up = false) : Upholds s (endReset s) := by
  have hclock : Upholds s ((s.setPower { s.power with reset := none }).setClock ClockUnit.reset) := by
    refine ⟨id, id, fun h => ?_⟩
    obtain ⟨hplans, ⟨hdown, -⟩, hcodes⟩ := callsLegal_iff.1 h
    have hnil := hdown hup
    refine callsLegal_iff.2 ⟨hplans, ⟨fun _ => hnil, fun i => ?_⟩, hcodes⟩
    have hreset : ((s.setPower { s.power with reset := none }).setClock ClockUnit.reset).context i = Context.reset := by
      simp [State.context, hnil, Table.read]
    rw [hreset]
    exact Context.legalAt_free (by decide)
  have hepoch : ∀ (n : Nat) (u : State), Upholds u (u.setBackup { u.backup with epoch := n }) := fun n u =>
    upholds_of_same_settlements rfl
  exact (hclock.trans (.ite (hepoch _ _) (.refl _))).trans (upholds_evaluateBand _)

theorem upholds_setLine (line : Bool) (s : State) : Upholds s (s.setPower { s.power with line := line }) :=
  ⟨id, id, id⟩

theorem upholds_mainSupplyLoss (s : State) :
    Upholds s ((volatileReset s.regs.startKind s).setPower
      { (volatileReset s.regs.startKind s).power with main := false, reset := none }) := by
  have hfresh := (fresh_volatileReset s.regs.startKind s).of_records
    (t := (volatileReset s.regs.startKind s).setPower
      { (volatileReset s.regs.startKind s).power with main := false, reset := none }) rfl rfl rfl rfl rfl rfl
  exact ⟨fun h => hfresh.canonical h.1 h.settlements, fun h => hfresh.conserved h.2.2.1 fun hmain => by simp at hmain,
    fun _ => hfresh.callsLegal⟩

/-- The Backup Domain is lost while the main supply is absent, when open handovers count for nothing. -/
theorem upholds_backupSupplyFailure {s : State} (hmain : s.power.main = false) :
    Upholds s (s.setBackup { Backup.cold with marker := false }) where
  canonical h := h.setBackup rfl
  conserved h := by
    obtain ⟨hrising, hindices, -, hbusy, -, hrest⟩ := h
    exact ⟨hrising, hindices, rfl, hbusy, fun hm => absurd (hmain.symm.trans hm) (by simp), hrest⟩
  callsLegal := id

end Sys2Proof.Machine
end

section
/-! PROOFS. Every command keeps the invariants (R3, R4, R6, R8, R24, R29, R30, R80, R81, R91, R94 to R96, R118, R173), and with it
every step. -/

namespace Sys2Proof.Machine

/-- An answer keeps what is kept without it. -/
theorem Upholds.reply {s t : State} (h : Upholds s t) {slot : Nat} {req : List Byte} {code : Code} {detail : Nat}
    {fields : List Field} : Upholds s (reply slot req code detail fields t) :=
  h.trans (upholds_reply slot req code detail fields t)

/-- A refusal changes nothing but the answer. -/
theorem upholds_refused {s : State} {slot : Nat} {req : List Byte} {code : Code} {detail : Nat} {fields : List Field} :
    Upholds s (reply slot req code detail fields s) := (Upholds.refl s).reply

/-! ### Plans (R9 to R19) -/

theorem upholds_finishLoad (l : Load) (code : Code) (record : Nat) (fields : List Field) (s : State) :
    Upholds s (finishLoad l code record fields s) := by
  have hqueue : Upholds s (s.setPlan { s.plan with queue := s.plan.queue.tail }) :=
    upholds_setQueue fun l hl => .inl (List.mem_of_mem_tail hl)
  exact (hqueue.trans (SameRecords.upholds (by constructor <;> rfl))).reply

theorem upholds_loadApplied {l : Load} {d : BankData} {s : State} {code : Code} {record : Nat} {fields : List Field}
    (hprovisional : d.provisional = (s.bank l.bank).provisional)
    (hlists : s.Canonical → Table.canonical d.lists [] = true) (hmap : s.Canonical → Table.canonical d.bandMap 0 = true)
    (hlegal : s.CallsLegal → d.Legal) : Upholds s (finishLoad l code record fields (applyLoad l d s)) :=
  (upholds_putBank (d := d.clearRetained (fun _ => true)) hprovisional hlists hmap
    fun h => (hlegal h).clearRetained _).trans (upholds_finishLoad _ _ _ _ _)

theorem upholds_loadRead {l : Load} {s : State} (hcount : s.CallsLegal → l.kind = .holidays → l.count ≤ 32)
    (bytes : List Byte) : Upholds s (loadRead l bytes s) := by
  have hlists : s.Canonical → Table.canonical (s.bank l.bank).lists [] = true := fun h => (h.bank _).1
  have hmap : s.Canonical → Table.canonical (s.bank l.bank).bandMap 0 = true := fun h => (h.bank _).2
  unfold loadRead
  dsimp only
  split <;> split
  next => exact upholds_finishLoad _ _ _ _ _
  next hgood =>
    split
    next => exact upholds_finishLoad _ _ _ _ _
    next hroom =>
      exact upholds_loadApplied rfl hlists hmap fun h =>
        appliedDests_legal (h.bank _) ((firstBad_eq_none_iff 1).1 hgood) (not_lt.1 hroom)
  next => exact upholds_finishLoad _ _ _ _ _
  next hgood =>
    exact upholds_loadApplied rfl (fun h => canonical_appliedLists (hlists h) _) hmap fun h =>
      appliedLists_legal (h.bank _) ((firstBad_eq_none_iff 1).1 hgood)
  next => exact upholds_finishLoad _ _ _ _ _
  next hgood =>
    exact upholds_loadApplied rfl hlists (fun _ => canonical_appliedMap _) fun h =>
      appliedMap_legal (h.bank _) (recordsOf_length _ _ _) ((firstBad_eq_none_iff 1).1 hgood)
  next => exact upholds_finishLoad _ _ _ _ _
  next hkind _ hgood =>
    exact upholds_loadApplied rfl hlists hmap fun h =>
      appliedHolidays_legal (h.bank _) (by rw [recordsOf_length]; exact hcount h hkind) ((firstBad_eq_none_iff 1).1 hgood)

/-- A waiting SET HOLIDAYS names at most 32 entries. -/
theorem State.CallsLegal.waiting {s : State} (h : s.CallsLegal) {l : Load} (hl : l ∈ s.plan.queue)
    (hkind : l.kind = .holidays) : l.count ≤ 32 := h.plans.2 l hl hkind

theorem upholds_startHead {l : Load} {s : State} (hl : l ∈ s.plan.queue) : Upholds s (startHead l s) :=
  .ite (upholds_finishLoad _ _ _ _ _) (.ite (upholds_finishLoad _ _ _ _ _)
    (.ite (upholds_loadRead (fun h => h.waiting hl) _)
      ((SameRecords.upholds (by constructor <;> rfl)).trans (upholds_ask _ _ _))))

theorem upholds_loadBlockRead (bytes : List Byte) (s : State) : Upholds s (loadBlockRead bytes s) := by
  unfold loadBlockRead
  split
  next => exact .refl s
  next l rest hq => exact upholds_loadRead (fun h => h.waiting (by simp [hq])) _

theorem upholds_loadBlockFailed (s : State) : Upholds s (loadBlockFailed s) := by
  unfold loadBlockFailed
  split
  · exact .refl s
  · exact upholds_finishLoad _ _ _ _ _

theorem bankOfCode_eq (n : Nat) : bankOfCode n = if n ≤ 1 then some (if n = 0 then .a else .b) else none := by
  match n with
  | 0 => rfl
  | 1 => rfl
  | n + 2 => simp [bankOfCode]

theorem modeOfCode_eq (n : Nat) :
    modeOfCode n = if n ≤ 1 then some (if n = 0 then .replaceAll else .merge) else none := by
  match n with
  | 0 => rfl
  | 1 => rfl
  | n + 2 => simp [modeOfCode]

theorem destinationsFields_eq (req : List Byte) : destinationsFields req =
    if byteAt req 8 ≤ 1 ∧ byteAt req 9 ≤ 1 ∧ 1 ≤ readLE req 10 2 ∧ readLE req 10 2 ≤ 256 then
      some { kind := .destinations (if byteAt req 9 = 0 then .replaceAll else .merge),
             bank := if byteAt req 8 = 0 then .a else .b, count := readLE req 10 2 }
    else none := by
  rw [destinationsFields, bankOfCode_eq, modeOfCode_eq]
  by_cases h8 : byteAt req 8 ≤ 1 <;> by_cases h9 : byteAt req 9 ≤ 1 <;> simp [h8, h9]

theorem routeListsFields_eq (req : List Byte) : routeListsFields req =
    if byteAt req 8 ≤ 1 ∧ 1 ≤ readLE req 10 2 ∧ readLE req 10 2 ≤ 256 then
      some { kind := .routeLists, bank := if byteAt req 8 = 0 then .a else .b, count := readLE req 10 2 }
    else none := by
  rw [routeListsFields, bankOfCode_eq]
  by_cases h8 : byteAt req 8 ≤ 1 <;> simp [h8]

theorem bandMapFields_eq (req : List Byte) : bandMapFields req =
    if byteAt req 8 ≤ 1 then some { kind := .bandMap, bank := if byteAt req 8 = 0 then .a else .b, count := 144 } else none := by
  rw [bandMapFields, bankOfCode_eq]
  by_cases h8 : byteAt req 8 ≤ 1 <;> simp [h8]

theorem holidaysFields_eq (req : List Byte) : holidaysFields req =
    if byteAt req 8 ≤ 1 ∧ readLE req 10 2 ≤ 32 then
      some { kind := .holidays, bank := if byteAt req 8 = 0 then .a else .b, count := readLE req 10 2 }
    else none := by
  rw [holidaysFields, bankOfCode_eq]
  by_cases h8 : byteAt req 8 ≤ 1 <;> simp [h8]

theorem holidaysFields_count {req : List Byte} {f : LoadFields} (h : holidaysFields req = some f) : f.count ≤ 32 := by
  rw [holidaysFields_eq] at h
  obtain ⟨⟨-, hcount⟩, hf⟩ := Option.ite_none_right_eq_some.1 h
  exact Option.some.inj hf ▸ hcount

theorem destinationsFields_not_holidays (req : List Byte) (f : LoadFields) (h : destinationsFields req = some f)
    (hkind : f.kind = .holidays) : f.count ≤ 32 := by
  rw [destinationsFields_eq] at h
  obtain ⟨-, hf⟩ := Option.ite_none_right_eq_some.1 h
  rw [← Option.some.inj hf] at hkind
  cases hkind

theorem routeListsFields_not_holidays (req : List Byte) (f : LoadFields) (h : routeListsFields req = some f)
    (hkind : f.kind = .holidays) : f.count ≤ 32 := by
  rw [routeListsFields_eq] at h
  obtain ⟨-, hf⟩ := Option.ite_none_right_eq_some.1 h
  rw [← Option.some.inj hf] at hkind
  cases hkind

theorem bandMapFields_not_holidays (req : List Byte) (f : LoadFields) (h : bandMapFields req = some f)
    (hkind : f.kind = .holidays) : f.count ≤ 32 := by
  rw [bandMapFields_eq] at h
  obtain ⟨-, hf⟩ := Option.ite_none_right_eq_some.1 h
  rw [← Option.some.inj hf] at hkind
  cases hkind

theorem upholds_serveLoad {k : Kind} {fields : List Byte → Option LoadFields}
    (hfields : ∀ req f, fields req = some f → f.kind = .holidays → f.count ≤ 32) (slot : Nat) (req : List Byte) (s : State) :
    Upholds s (serveLoad k fields slot req s) := by
  unfold serveLoad
  split
  · exact upholds_refused
  split
  · exact upholds_refused
  split
  next => exact upholds_refused
  next f hf =>
    refine (upholds_setQueue fun l hl => ?_).trans (upholds_markBegun _ _ _)
    rcases List.mem_append.1 hl with hl | hl
    · exact .inl hl
    · rw [List.mem_singleton.1 hl]
      exact .inr (hfields req f hf)

theorem upholds_setActive (k : Bank) (s : State) : Upholds s (s.setPlan { s.plan with active := k }) :=
  SameRecords.upholds (by constructor <;> rfl)

theorem upholds_serveSwitchPlan (slot : Nat) (req : List Byte) (s : State) : Upholds s (serveSwitchPlan slot req s) :=
  .ite upholds_refused (.ite upholds_refused ((upholds_setActive _ s).trans (upholds_evaluateBand _)).reply)

/-! ### Groups, supervision and carriers (R31 to R41, R53 to R55, R119 to R126, R149) -/

theorem upholds_serveSetGroup (slot : Nat) (req : List Byte) (s : State) : Upholds s (serveSetGroup slot req s) := by
  unfold serveSetGroup
  dsimp only
  split
  · exact upholds_refused
  split
  · exact upholds_refused
  split
  · exact upholds_refused
  next hfree =>
    refine Upholds.reply (upholds_putGroup ?_ ?_)
    · rfl
    · exact (not_and_or.1 hfree).imp not_not.1 Nat.eq_zero_of_not_pos

theorem upholds_serveBlocking {k : Kind} {applied : Group → Nat → Nat} {after : Group → Nat → Group}
    (hafter : ∀ r n, (after r n).busy = r.busy ∧ (after r n).owner = r.owner) (slot : Nat) (req : List Byte) (s : State) :
    Upholds s (serveBlocking k applied after slot req s) :=
  .ite upholds_refused (.ite upholds_refused (upholds_putGroup (hafter _ _).1 (.inl (hafter _ _).2)).reply)

theorem upholds_serveSetSupervision (slot : Nat) (req : List Byte) (s : State) : Upholds s (serveSetSupervision slot req s) :=
  .ite upholds_refused (Upholds.reply (SameRecords.upholds (by constructor <;> rfl)))

theorem gapCodeOf_legal {req : List Byte} {code : List Nat} (h : gapCodeOf req = some code) : CodeLegal code := by
  unfold gapCodeOf at h
  dsimp only at h
  split at h
  next hn =>
    obtain ⟨hlow, hhigh, hdigits⟩ := hn
    exact Option.some.inj h ▸ codeLegal_byteFields ⟨hlow, hhigh⟩ hdigits
  next => simp at h

theorem upholds_serveSetGap (slot : Nat) (req : List Byte) (s : State) : Upholds s (serveSetGap slot req s) := by
  unfold serveSetGap
  split
  · exact upholds_refused
  split
  next => exact upholds_refused
  next code hcode =>
    dsimp only
    split
    next => exact Upholds.reply (upholds_changeGap (f := GapEntry.replaceBy _ _) (fun _ => rfl) s)
    next => exact .ite (upholds_addGap fun _ => gapCodeOf_legal hcode).reply upholds_refused

theorem upholds_serveClearGap (slot : Nat) (req : List Byte) (s : State) : Upholds s (serveClearGap slot req s) := by
  unfold serveClearGap
  split
  · exact upholds_refused
  split
  · exact upholds_refused
  split
  · exact (upholds_removeGap _ s).reply
  · exact upholds_refused

theorem upholds_serveSetCalendar (slot : Nat) (req : List Byte) (s : State) : Upholds s (serveSetCalendar slot req s) :=
  .ite upholds_refused (.ite upholds_refused (upholds_moveCalendar _ s).reply)

theorem upholds_serveAlignMinute (slot : Nat) (req : List Byte) (s : State) : Upholds s (serveAlignMinute slot req s) :=
  .ite upholds_refused (.ite upholds_refused (upholds_moveCalendar _ s).reply)

theorem upholds_serveSetCarrier (slot : Nat) (req : List Byte) (s : State) : Upholds s (serveSetCarrier slot req s) :=
  .ite upholds_refused (.ite upholds_refused (upholds_putCarrier _ _ s).reply)

theorem upholds_serveLoadTariff (slot : Nat) (req : List Byte) (s : State) : Upholds s (serveLoadTariff slot req s) :=
  .ite upholds_refused (.ite upholds_refused (.ite upholds_refused (.ite upholds_refused
    (((upholds_setCarrierJob _ s).trans (upholds_markBegun _ _ _)).trans (upholds_ask _ _ _)))))

theorem upholds_applyTariff (slot : Nat) (req : List Byte) (records : List BandRecord) (marks : List Bool) (s : State) :
    Upholds s (applyTariff slot req records marks s) :=
  .ite ((upholds_takeHanded _ _ s).trans (upholds_activate _ _ _ _)).reply
    ((upholds_takeHanded _ _ s).trans (upholds_putTariffs _ _ _ _)).reply

theorem upholds_tariffBlockRead (bytes : List Byte) (s : State) : Upholds s (tariffBlockRead bytes s) := by
  unfold tariffBlockRead
  split
  next =>
    dsimp only
    split
    · exact (upholds_setCarrierJob none s).reply
    · exact (upholds_setCarrierJob none s).trans (upholds_applyTariff _ _ _ _ _)
  next => exact .refl s

theorem upholds_tariffBlockFailed (s : State) : Upholds s (tariffBlockFailed s) := by
  unfold tariffBlockFailed
  split
  · exact (upholds_setCarrierJob none s).reply
  · exact .refl s

theorem upholds_serveCancelTariff (slot : Nat) (req : List Byte) (s : State) : Upholds s (serveCancelTariff slot req s) := by
  unfold serveCancelTariff
  dsimp only
  split
  · exact upholds_refused
  split
  · exact upholds_refused
  split
  · exact ((upholds_takeHanded _ _ s).trans (upholds_putTariffs _ _ _ _)).reply
  · exact (upholds_takeHanded _ _ s).reply

theorem upholds_serveClosePeriod (slot : Nat) (req : List Byte) (s : State) : Upholds s (serveClosePeriod slot req s) :=
  .ite upholds_refused (.ite upholds_refused (.ite (.ite upholds_refused (upholds_closeOne _ _ _ s))
    (.ite upholds_refused (upholds_closeAll _ _ _ s))))

theorem upholds_resultWritten (s : State) : Upholds s (resultWritten s) := by
  unfold resultWritten
  split
  · exact upholds_refused
  · exact .refl s

/-! ### Calls (R82 to R92) -/

theorem matchHandle_context {s : State} {h : Handle} {c : Context} (hm : matchHandle s h = some c) : c = s.context h.index := by
  unfold matchHandle at hm
  dsimp only at hm
  split at hm
  · exact (Option.some.inj hm).symm
  · simp at hm

theorem upholds_callRequest {k : Kind} {rule : Nat → List Byte → Nat → Context → State → State} {s : State}
    (hrule : ∀ slot req i, Upholds s (rule slot req i (s.context i) s)) (slot : Nat) (req : List Byte) :
    Upholds s (callRequest k rule slot req s) := by
  unfold callRequest
  split
  · exact upholds_refused
  split
  next => exact upholds_refused
  next c hc => rw [matchHandle_context hc]; exact hrule _ _ _

theorem upholds_retainAlternate {call : Call} {i : Nat} {s : State} (hi : (s.context i).state.call? = some call) :
    Upholds s (retainAlternate call s) :=
  upholds_changeDest (fun _ => rfl) fun h _ ⟨hcode, hlist, hexhaust, _⟩ =>
    have hgroup : call.group ≤ 1023 := (h.call hi).2.2.1
    ⟨hcode, hlist, hexhaust, fun _ hg => Option.some.inj hg ▸ hgroup⟩

theorem upholds_confirmRule (slot : Nat) (req : List Byte) (i : Nat) (s : State) :
    Upholds s (confirmRule slot req i (s.context i) s) := by
  unfold confirmRule
  split
  next call deadline hi =>
    refine Upholds.reply ?_
    have hconfirmed := upholds_confirmed hi
    split
    · exact hconfirmed.trans (upholds_retainAlternate (i := i) (by simp [CallState.call?]))
    · exact hconfirmed
  next call deadline hi => exact upholds_tooLate hi _ _
  next => exact upholds_refused

theorem upholds_answerRule (slot : Nat) (req : List Byte) (i : Nat) (s : State) :
    Upholds s (answerRule slot req i (s.context i) s) := by
  unfold answerRule
  split
  next call hi => exact (upholds_answered hi).reply
  next call deadline hi => exact upholds_tooLate hi _ _
  next => exact upholds_refused

theorem upholds_releaseRule (slot : Nat) (req : List Byte) (i : Nat) (s : State) :
    Upholds s (releaseRule slot req i (s.context i) s) := by
  have hended : ∀ (call : Call) (t u : State), (s.context i).state.call? = some call → (s.context i).state.live = true →
      SameSeizures (returnSeizure call.group s) t → freeContext i (leaveBank (s.context i).state t) = u → Upholds s u :=
    fun call t u hcall hlive ht hu => hu ▸ upholds_callEnded hcall hlive ht
  unfold releaseRule
  split
  next call deadline hi =>
    exact (hended call _ _ (by rw [hi]; rfl) (by rw [hi]; rfl) (.refl _) (by rw [hi]; rfl)).reply
  next call hi => exact (hended call _ _ (by rw [hi]; rfl) (by rw [hi]; rfl) (.refl _) (by rw [hi]; rfl)).reply
  next call a hi =>
    exact (hended call _ _ (by rw [hi]; rfl) (by rw [hi]; rfl)
      ((sameSeizures_handTotal _ _ _ _).trans (sameSeizures_handTotal _ _ _ _)) (by rw [hi]; rfl)).reply
  next call deadline hi => exact upholds_tooLate hi _ _
  next => exact upholds_refused

theorem upholds_queryRule (slot : Nat) (req : List Byte) (i : Nat) (s : State) :
    Upholds s (queryRule slot req i (s.context i) s) := by
  unfold queryRule
  split <;> exact upholds_refused

theorem upholds_serveSetCallTimers (slot : Nat) (req : List Byte) (s : State) : Upholds s (serveSetCallTimers slot req s) := by
  have htimers : ∀ w l : Nat, Upholds s (s.setContexts { s.contexts with window := w, limit := l }) := fun _ _ =>
    ⟨id, id, id⟩
  exact .ite upholds_refused ((htimers _ _).trans (upholds_trimExpired _)).reply

/-! ### Routing (R59 to R76) -/

theorem upholds_admitRoute (slot : Nat) (req : List Byte) (through : Option (List Nat × GapOrigin)) (s : State) :
    Upholds s (admitRoute slot req through s) :=
  (upholds_setRouteJob fun _ => by rintro j renew code answer ⟨⟩ ⟨⟩).trans (upholds_markBegun _ _ _)

theorem upholds_serveRoute (slot : Nat) (req : List Byte) (s : State) : Upholds s (serveRoute slot req s) := by
  unfold serveRoute
  split
  · exact upholds_refused
  split
  · exact upholds_refused
  split
  · exact upholds_refused
  split
  · exact upholds_admitRoute _ _ _ s
  split
  · exact (upholds_changeGap (f := GapEntry.admitCall s.now) (fun _ => rfl) s).trans (upholds_admitRoute _ _ _ _)
  · exact (upholds_changeGap (f := GapEntry.reject) (fun _ => rfl) s).reply

theorem upholds_finishRoute (job : RouteJob) (code : Code) (fields : List Field) (s : State) :
    Upholds s (finishRoute job code fields s) :=
  (upholds_setRouteJob fun _ => by simp [InstallLegal]).reply

theorem firstFreeFrom_spec {s : State} {fuel k i : Nat} (h : firstFreeFrom s fuel k = some i) :
    (s.context i).state = .free ∧ k ≤ i ∧ i < k + fuel := by
  induction fuel generalizing k with
  | zero => simp [firstFreeFrom] at h
  | succ fuel ih =>
    rw [firstFreeFrom] at h
    split at h
    next hfree =>
      obtain rfl := Option.some.inj h
      exact ⟨hfree, le_refl k, by omega⟩
    next =>
      obtain ⟨hfree, hlow, hhigh⟩ := ih h
      exact ⟨hfree, by omega, by omega⟩

theorem nextGeneration_legal {n : Nat} (h : 1 ≤ n ∧ n ≤ 255) : 1 ≤ nextGeneration n ∧ nextGeneration n ≤ 255 := by
  unfold nextGeneration
  split <;> omega

theorem holds_of_not_live {x : CallState} (h : x.live = false) (p : Call → Bool) : x.holds p = false := by
  cases x <;> simp_all [CallState.holds, CallState.live, CallState.call?]

theorem provisionalIn_of_not_live {x : CallState} (h : x.live = false) (k : Bank) : x.provisionalIn k = false := by
  cases x <;> simp_all [CallState.provisionalIn, CallState.live]

/-- A context that holds no seizure is taken, and the expired list is left as `l` (R63, R64). -/
theorem upholds_taken {s : State} {i : Nat} {l : List Nat} (hup : s.up = true) (hindex : s.Conserved → i < 16384)
    (hlive : s.Conserved → (s.context i).state.live = false)
    (hlist : s.Conserved → Relisted i (s.context i).state .free s.contexts.expired l) :
    Upholds s (takeContext i (s.setContexts { s.contexts with expired := l })) where
  canonical h := (h.setExpired l).putContext i _
  conserved h :=
    have hseats : Reseats s s (takeContext i (s.setContexts { s.contexts with expired := l })) i
        { generation := nextGeneration (s.context i).generation, state := .free } :=
      { main := rfl, index := hindex, table := rfl, expired := hlist h, owner := fun _ => rfl,
        busy := fun g => by rw [holds_of_not_live (hlive h)]; exact .same _ _, rising := id,
        handovers := fun k _ => by rw [holds_of_not_live (hlive h)]; exact .same _ _,
        provisional := fun k => by rw [provisionalIn_of_not_live (hlive h)]; exact .same _ _ }
    hseats.conserved h h
  callsLegal h := by
    obtain ⟨hplans, hcontexts, hcodes⟩ := callsLegal_iff.1 h
    exact callsLegal_iff.2 ⟨hplans, hcontexts.write rfl rfl hup rfl
      (Context.legalAt_free (nextGeneration_legal (h.context i).1)), hcodes⟩

/-- The context that a walk takes keeps the books, is one of the 16,384 and stands FREE. -/
theorem upholds_allocate {s t : State} {i : Nat} (hup : s.up = true) (h : allocate s = some (i, t)) :
    Upholds s t ∧ (s.Conserved → i < 16384) ∧ (t.context i).state = .free := by
  unfold allocate at h
  split at h
  next j hj =>
    obtain ⟨rfl, rfl⟩ := by simpa only [Option.some.injEq, Prod.mk.injEq] using h
    obtain ⟨hfree, -, hindex⟩ := firstFreeFrom_spec hj
    have hlow : j < 16384 := by omega
    exact ⟨upholds_taken (l := s.contexts.expired) hup (fun _ => hlow) (fun _ => by rw [hfree]; rfl)
      (fun _ => by rw [hfree]; exact .kept rfl), fun _ => hlow, by simp [takeContext]⟩
  next =>
    split at h
    next j rest hlist =>
      obtain ⟨rfl, rfl⟩ := by simpa only [Option.some.injEq, Prod.mk.injEq] using h
      have hexpired : s.Conserved → ∃ call deadline, (s.context j).state = .expired call deadline := fun hs => by
        obtain ⟨-, -, -, -, -, -, -, hlisted⟩ := hs
        exact exists_expired ((hlisted j).1 (by simp [hlist]))
      have hlow : s.Conserved → j < 16384 := fun hs => by
        obtain ⟨call, deadline, hj⟩ := hexpired hs
        exact hs.index_of_ne_free (by simp [hj])
      refine ⟨upholds_taken hup hlow (fun hs => ?_) (fun _ => .left rfl), hlow, by simp [takeContext]⟩
      obtain ⟨call, deadline, hj⟩ := hexpired hs
      rw [hj]
      rfl
    next => simp at h

theorem mem_dests_of_lookupDest {d : BankData} {digits : List Nat} {e : Dest} {n : Nat}
    (h : lookupDest d digits = some (e, n)) : d.dests[n]? = some e := by
  obtain ⟨hmem, -⟩ := isLongestMatch_of_eq h
  exact List.mem_zipIdx_iff_getElem?.1 hmem

theorem BankData.Legal.dest {d : BankData} (h : d.Legal) {n : Nat} {e : Dest} (he : d.dests[n]? = some e) :
    e.Legal ∧ n ≤ 8191 := by
  obtain ⟨hlength, -, hdests, -⟩ := h
  have hn := (List.getElem?_eq_some_iff.1 he).1
  exact ⟨hdests e (List.mem_of_getElem? he), by omega⟩

/-- A candidate names a group and a step in their ranges (R6). -/
theorem BankData.Legal.candidate {d : BankData} (h : d.Legal) {i : Nat} {c : Candidate}
    (hc : c ∈ candidatesOf (d.routeList i)) : c.group ≤ 1023 ∧ 1 ≤ c.step ∧ c.step ≤ 8 := by
  obtain ⟨n, x, hx, rfl⟩ := mem_candidatesOf hc
  have hmem := List.mem_of_getElem? hx
  obtain ⟨-, -, -, hlists, -⟩ := h
  obtain ⟨-, -, hlength, -, hgroups, -⟩ := hlists _ (Table.mem_of_read_ne (t := d.lists) (d := []) (k := i) fun he => by
    rw [BankData.routeList, he] at hmem
    simp at hmem)
  have hn : n < (d.routeList i).length := (List.getElem?_eq_some_iff.1 hx).1
  have hlength : (d.routeList i).length ≤ 8 := hlength
  exact ⟨hgroups x hmem, by simp, by simp only; omega⟩

theorem grantedCall_legal {b : BankData} (hb : b.Legal) {s : State} {dest i origin : Nat} {e : Dest} {c : Candidate}
    (he : b.dests[dest]? = some e) (hc : c ∈ candidatesOf (b.routeList i)) (ho : origin < 256) :
    (grantedCall s dest origin c).Legal := by
  obtain ⟨-, hdest⟩ := hb.dest he
  obtain ⟨hgroup, hlow, hhigh⟩ := hb.candidate hc
  exact ⟨hdest, Nat.le_of_lt_succ ho, hgroup, hlow, hhigh, rfl, by simp [grantedCall], by simp [grantedCall],
    by simp [grantedCall], by simp [grantedCall]⟩

theorem upholds_setExhaust (k : Bank) (n m : Nat) (s : State) :
    Upholds s (changeDest k n (fun e => { e with exhaust := min 15 m }) s) :=
  upholds_changeDest (fun _ => rfl) fun _ _ ⟨hcode, hlist, _, hretained⟩ => ⟨hcode, hlist, by simp, hretained⟩

/-- A granted walk seats its call on the context taken. -/
theorem upholds_walkGranted {r u : State} {i dest : Nat} {c : Candidate} (job : RouteJob) (began : Upholds r u)
    (hi : (u.context i).state = .free) (hindex : r.Conserved → i < 16384) (hup : u.up = true)
    (hlegal : r.CallsLegal → ∀ s : State, (grantedCall s dest (byteAt job.request 9) c).Legal) :
    Upholds r (walkGranted job i dest c (grantSeizure c.group u)) := by
  have hseated := upholds_seated
    (call := grantedCall (grantSeizure c.group u) dest (byteAt job.request 9) c)
    (deadlineNow (grantSeizure c.group u)) began hi hindex hup (fun h => hlegal h _)
  have hcontext : (grantSeizure c.group u).context i = u.context i := by simp
  rw [walkGranted, hcontext]
  exact (hseated.trans (upholds_setExhaust _ _ 0 _)).trans (upholds_finishRoute _ _ _ _)

/-- A refused walk leaves no code to install but that of the destination it looked up. -/
theorem upholds_walkRefused {r u : State} {dest : Nat} {e : Dest} (job : RouteJob) (through : Option (List Nat × GapOrigin))
    (began : Upholds r u) (hcode : r.CallsLegal → CodeLegal e.code) : Upholds r (walkRefused job through dest e u) := by
  have hexhaust := began.trans (upholds_setExhaust u.plan.active dest (e.exhaust + 1) u)
  refine .ite (hexhaust.trans (upholds_finishRoute _ _ _ _))
    (hexhaust.setRouteJob fun h j renew code answer hj hstage => ?_)
  obtain rfl := Option.some.inj hj
  simp only [RouteStage.walked.injEq] at hstage
  obtain ⟨-, hinstall, -⟩ := hstage
  split at hinstall
  · exact Option.some.inj hinstall ▸ hcode h
  · simp at hinstall

theorem State.up_congr {s t : State} (h : t.power = s.power) : t.up = s.up := by
  rw [State.up, State.up, h]

theorem upholds_walk (job : RouteJob) (through : Option (List Nat × GapOrigin)) {s : State} (hup : s.up = true) :
    Upholds s (walk job through s) := by
  unfold walk
  split
  next => exact upholds_finishRoute _ _ _ s
  next e dest hlookup =>
    have hdest := mem_dests_of_lookupDest hlookup
    dsimp only
    split
    · exact upholds_finishRoute _ _ _ s
    split
    · exact upholds_finishRoute _ _ _ s
    next i s1 halloc =>
      obtain ⟨hbegan, hindex, hfree⟩ := upholds_allocate hup halloc
      have hpower : s1.power = s.power := by
        obtain ⟨-, -, -, -, -, -, -, -, -, -, -, -, hpower, -⟩ := allocate_keeps halloc
        exact hpower
      have hcases := seize_cases [] (arrange (rankingRate s1) e.retained
        (candidatesOf ((s.bank s.plan.active).routeList e.routeList))) s1
      generalize seize [] (arrange (rankingRate s1) e.retained
        (candidatesOf ((s.bank s.plan.active).routeList e.routeList))) s1 = p at hcases ⊢
      obtain ⟨found, s2⟩ := p
      rcases hcases with ⟨rfl, hsame⟩ | ⟨c, hc, u, rfl, -, hsame, rfl⟩
      · exact upholds_walkRefused job through (hbegan.trans hsame.upholds) fun h => ((h.bank _).dest hdest).1.1
      · refine upholds_walkGranted job (hbegan.trans hsame.upholds) ?_ hindex ?_ fun h t =>
          grantedCall_legal (h.bank _) hdest (mem_arrange hc) (byteAt_lt _ _)
        · have hcontext : u.context i = s1.context i := context_congr (by rw [hsame.contexts]) i
          rw [hcontext, hfree]
        · rw [State.up_congr (hsame.power.trans hpower)]; exact hup

theorem upholds_execRouteWalk {s t : State} (h : execRouteWalk s = .next t) : Upholds s t := by
  unfold execRouteWalk at h
  split at h
  next =>
    obtain rfl := Host.Outcome.next.inj h
    split
    next hup => exact upholds_walk _ _ hup
    next => exact .refl s
  next => exact Host.Outcome.next.inj h ▸ .refl s

theorem makeReports_some (renew : Option (List Nat)) (code : List Nat) (s : State) :
    makeReports renew (some code) s = installGap code (makeReports renew none s) := rfl

theorem upholds_renewed (renew : Option (List Nat)) (s : State) : Upholds s (makeReports renew none s) := by
  cases renew with
  | none => exact .refl s
  | some code => exact upholds_renewGap code s

theorem upholds_makeReports {renew install : Option (List Nat)} {s : State}
    (h : ∀ code, install = some code → InstallLegal s.routeJob → CodeLegal code) :
    Upholds s (makeReports renew install s) := by
  have hrenewed := upholds_renewed renew s
  have hjob : (makeReports renew none s).routeJob = s.routeJob := by simp
  cases install with
  | none => exact hrenewed
  | some code =>
    rw [makeReports_some]
    exact hrenewed.trans (upholds_installGap fun hcodes => h code rfl (hjob ▸ hcodes.2))

theorem upholds_execRouteReports {s t : State} (h : execRouteReports s = .next t) : Upholds s t := by
  unfold execRouteReports at h
  split at h
  next slot req renew install answer hjob =>
    obtain rfl := Host.Outcome.next.inj h
    refine .ite (((upholds_makeReports fun code hcode hinstall => ?_).setRouteJob fun _ => ?_).trans (upholds_formAnswer _ _ _ _))
      (.refl s)
    · exact hinstall _ renew code answer hjob (by rw [hcode])
    · rintro j renew code answer ⟨⟩
  next => exact Host.Outcome.next.inj h ▸ .refl s

/-! ### CRANKBACK (R72 to R76) -/

theorem resumedCandidates_mem {s : State} {call : Call} {c : Candidate} (h : c ∈ resumedCandidates s call) :
    ∃ i, c ∈ candidatesOf ((s.bank call.bank).routeList i) := by
  unfold resumedCandidates at h
  split at h
  next => simp at h
  next e _ => exact ⟨e.routeList, (List.mem_filter.1 (mem_arrange h)).1⟩

/-- A call moved to a candidate outside its history has one attempt more (R75, R77). -/
theorem movedTo_legal {call : Call} (h : call.Legal) {c : Candidate} (hroom : call.history.length < 4)
    (hnew : c.group ∉ call.history) (hgroup : c.group ≤ 1023) (hstep : 1 ≤ c.step ∧ c.step ≤ 8) : (call.movedTo c).Legal := by
  obtain ⟨hdest, horigin, -, -, -, -, -, -, hnodup, -⟩ := h
  refine ⟨hdest, horigin, hgroup, hstep.1, hstep.2, rfl, by simp [Call.movedTo], by simp [Call.movedTo]; omega, ?_,
    by simp [Call.movedTo]⟩
  refine List.nodup_append.2 ⟨hnodup, List.nodup_singleton _, ?_⟩
  rintro a ha b hb rfl
  rw [List.mem_singleton.1 hb] at ha
  exact hnew ha

theorem upholds_crankContinue {s : State} {i : Nat} {call : Call} {deadline : Tick} (slot : Nat) (req : List Byte)
    (hi : (s.context i).state = .provisional call deadline) : Upholds s (crankContinue slot req i call s) := by
  have hreturned := sameSeizures_clearOwnRetained call (returnSeizure call.group s)
  have hended : ∀ t, SameSeizures (returnSeizure call.group s) t → Upholds s (endCall i call t) := by
    intro t ht
    have hcall := upholds_callEnded (call := call) (by rw [hi]; rfl) (by rw [hi]; rfl) ht
    rw [hi] at hcall
    exact hcall
  unfold crankContinue
  dsimp only
  split
  · exact (hended _ hreturned).reply
  next hroom =>
    have hcases := seize_cases call.history (resumedCandidates (clearOwnRetained call (returnSeizure call.group s)) call)
      (clearOwnRetained call (returnSeizure call.group s))
    generalize seize call.history (resumedCandidates (clearOwnRetained call (returnSeizure call.group s)) call)
      (clearOwnRetained call (returnSeizure call.group s)) = p at hcases ⊢
    obtain ⟨found, s2⟩ := p
    rcases hcases with ⟨rfl, hsame⟩ | ⟨c, hc, u, rfl, hnew, hsame, rfl⟩
    · exact (hended _ (hreturned.trans hsame)).reply
    · have ht := hreturned.trans hsame
      have hcontext : (grantSeizure c.group u).context i = s.context i := context_congr (by simp [ht.contexts]) i
      have hmoved := upholds_callMoved (moved := call.movedTo c) (later := deadlineNow (grantSeizure c.group u)) hi ht rfl
        fun h => by
          obtain ⟨k, hk⟩ := resumedCandidates_mem hc
          obtain ⟨hgroup, hstep⟩ := (hreturned.plans (h.plans.congr (by simp) (by simp))).1 call.bank |>.candidate hk
          exact movedTo_legal (h.call (i := i) (by rw [hi]; rfl)) (not_le.1 hroom) hnew hgroup hstep
      dsimp only
      rw [hcontext]
      exact hmoved.reply

theorem upholds_crankbackRule (slot : Nat) (req : List Byte) (i : Nat) (s : State) :
    Upholds s (crankbackRule slot req i (s.context i) s) := by
  unfold crankbackRule
  split
  next call deadline hi => exact upholds_crankContinue slot req hi
  next call deadline hi => exact upholds_tooLate hi _ _
  next => exact upholds_refused

/-! ### The Memory Port and the Intake Unit (R157 to R164, R170, R172, R173, R176) -/

theorem upholds_settleClose (s : State) : Upholds s (settleClose s) :=
  (upholds_setCloseRecord none s).trans (upholds_setCarrierJob none _)

theorem upholds_answeredWritten (slot : Nat) (s : State) : Upholds s (answeredWritten slot s) := by
  have hraised : Upholds s (raiseBit .answers s) := SameRecords.upholds (by constructor <;> simp)
  have hsettled := hraised.trans (.ite (c := (raiseBit .answers s).intake.isCloseOk slot = true) (upholds_settleClose _) (.refl _))
  have hdropped : ∀ (k : Intake) (u : State), Upholds u (checkHalt (proceedAnswers (u.setIntake k))) := fun k u =>
    SameRecords.upholds (by constructor <;> simp)
  exact hsettled.trans (hdropped _ _)

/-- What a completed transfer does besides what its own block does with it touches no record. -/
theorem upholds_completed (p : Purpose) (bytes : List Byte) (s : State) : Upholds s (completed p bytes s) := by
  cases p with
  | loadBlock => exact upholds_loadBlockRead bytes s
  | tariffBlock => exact upholds_tariffBlockRead bytes s
  | resultBlock => exact upholds_resultWritten s
  | answered slot => exact upholds_answeredWritten slot s
  | mirrorClose => exact upholds_mirrorClosed s
  | _ => exact SameRecords.upholds (by constructor <;> simp [completed])

theorem upholds_enterFault (kind : FaultKind) (slot : Nat) (failed : Option Nat) (s : State) :
    Upholds s (enterFault kind slot failed s) :=
  SameRecords.upholds (by constructor <;> simp)

theorem upholds_transferFailed (p : Purpose) (s : State) : Upholds s (transferFailed p s) := by
  cases p with
  | loadBlock => exact upholds_loadBlockFailed s
  | tariffBlock => exact upholds_tariffBlockFailed s
  | resultBlock => exact upholds_resultFailed s
  | _ => exact upholds_enterFault _ _ _ s

theorem upholds_setTransfers (r : Requester) (ts : List Transfer) (s : State) : Upholds s (setTransfers r ts s) :=
  SameRecords.upholds (by constructor <;> rfl)

theorem upholds_storeBytes (t : Transfer) (n : Nat) (s : State) : Upholds s (storeBytes t n s) :=
  .ite (upholds_setMem _ _ _) (.refl s)

theorem upholds_storeFailed (t : Transfer) (beat : Nat) (s : State) : Upholds s (storeFailed t beat s) :=
  .ite ((upholds_storeBytes t _ s).trans (SameRecords.upholds (by constructor <;> rfl))) (.refl s)

theorem upholds_endBurst (r : Requester) (t : Transfer) (ts : List Transfer) (reply : BurstReply) (s : State) :
    Upholds s (endBurst r t ts reply s) := by
  cases reply with
  | done data =>
    exact .ite (((upholds_storeBytes t _ s).trans (upholds_setTransfers _ _ _)).trans (upholds_completed _ _ _))
      ((upholds_storeBytes t _ s).trans (upholds_setTransfers _ _ _))
  | busError beat =>
    exact ((upholds_storeFailed t beat s).trans (upholds_setTransfers _ _ _)).trans (upholds_transferFailed _ _)

theorem upholds_execMemoryBurstDone {reply : BurstReply} {s t : State} (h : execMemoryBurstDone reply s = .next t) :
    Upholds s t := by
  unfold execMemoryBurstDone at h
  split at h
  · simp at h
  split at h
  next => exact Host.Outcome.next.inj h ▸ .refl s
  next r x ts _ =>
    split at h
    · exact Host.Outcome.next.inj h ▸
        (upholds_endBurst r x ts reply s).trans (SameRecords.upholds (by constructor <;> simp))
    · simp at h

/-! ### Commands (R160, R168 to R176) -/

theorem upholds_serve {k : Kind} {f : Nat → List Byte → State → State} {s t : State}
    (hf : ∀ slot req, Upholds s (f slot req s)) (h : serve k f s = .next t) : Upholds s t := by
  unfold serve at h
  split at h
  · exact Host.Outcome.next.inj h ▸ hf _ _
  · exact Host.Outcome.next.inj h ▸ .refl s

/-- An event that is taken only under a condition. -/
theorem upholds_event {c : Prop} [Decidable c] {s t u : State} (hu : c → Upholds s u)
    (h : (Host.Outcome.next (if c then u else s) : Result) = .next t) : Upholds s t := by
  refine Host.Outcome.next.inj h ▸ ?_
  split
  next hc => exact hu hc
  next => exact .refl s

/-- An event with an operand, none when the operand is impossible. -/
theorem next_of_guarded {c : Instr} {r : Result} {t : State}
    (h : (if c.wellFormed = false then (.fault .illFormed : Result) else r) = .next t) : r = .next t := by
  split at h
  · simp at h
  · exact h

theorem upholds_execBankLoadHead {s t : State} (h : execBankLoadHead s = .next t) : Upholds s t := by
  unfold execBankLoadHead at h
  split at h
  next => exact Host.Outcome.next.inj h ▸ .refl s
  next l rest hq => exact upholds_event (fun _ => upholds_startHead (by simp [hq])) h

theorem upholds_execGapEntryLapse {code : List Nat} {s t : State} (h : execGapEntryLapse code s = .next t) : Upholds s t := by
  have hnext := next_of_guarded h
  split at hnext
  next => exact upholds_event (fun _ => upholds_removeGap code s) hnext
  next => exact Host.Outcome.next.inj hnext ▸ .refl s

theorem upholds_registerWrite {f : State → State} {s t : State} (hf : Upholds s (f s)) (h : registerWrite f s = .next t) :
    Upholds s t :=
  upholds_event (fun _ => hf) h

theorem upholds_setRegs (r : Regs) (s : State) : Upholds s (s.setRegs r) := SameRecords.upholds (by constructor <;> rfl)

theorem upholds_runOn (s : State) : Upholds s (runOn s) := SameRecords.upholds (by constructor <;> simp)

theorem upholds_runOff (s : State) : Upholds s (runOff s) := SameRecords.upholds (by constructor <;> simp)

theorem upholds_passFallsDue (s : State) : Upholds s (passFallsDue s) := SameRecords.upholds (by constructor <;> simp)

theorem upholds_requestRescan (s : State) : Upholds s (requestRescan s) := SameRecords.upholds (by constructor <;> simp)

theorem upholds_scanTimerOut (s : State) : Upholds s (scanTimerOut s) := SameRecords.upholds (by constructor <;> simp)

theorem not_up_of_reset {s : State} (h : s.power.reset.isSome = true) : s.up = false := by
  obtain ⟨cause, hcause⟩ := Option.isSome_iff_exists.1 h
  simp [State.up, hcause]

theorem upholds_execPowerOn {s t : State} (h : execPowerOn s = .next t) : Upholds s t :=
  Host.Outcome.next.inj h ▸ .ite (upholds_startWarm _ _ _ s) (upholds_startCold _ s)

theorem upholds_execResetLineAsserted {s t : State} (h : execResetLineAsserted s = .next t) : Upholds s t :=
  Host.Outcome.next.inj h ▸ .ite (upholds_startWarm _ _ _ s) (upholds_setLine true s)

theorem upholds_execResetLineReleased {s t : State} (h : execResetLineReleased s = .next t) : Upholds s t := by
  refine Host.Outcome.next.inj h ▸ ?_
  split
  next hline => exact (upholds_setLine false s).trans (upholds_endReset (not_up_of_reset (by simp [hline.2])))
  next => exact upholds_setLine false s

/-- A reset that goes on for another cause. -/
theorem upholds_resetGoesOn {s : State} (hreset : s.power.reset.isSome = true) (cause : ResetCause) :
    Upholds s (s.setPower { s.power with reset := some cause }) := by
  refine ⟨id, id, fun h => ?_⟩
  obtain ⟨hplans, ⟨hdown, hcontexts⟩, hcodes⟩ := callsLegal_iff.1 h
  exact callsLegal_iff.2 ⟨hplans, ⟨fun _ => hdown (not_up_of_reset hreset), hcontexts⟩, hcodes⟩

theorem upholds_execResetEnd {s t : State} (h : execResetEnd s = .next t) : Upholds s t := by
  refine upholds_event (fun ⟨_, hcause⟩ => ?_) h
  have hreset : s.power.reset.isSome = true := by rcases hcause with hc | hc <;> simp [hc]
  exact .ite (upholds_resetGoesOn hreset .line) (upholds_endReset (not_up_of_reset hreset))

theorem upholds_execBackupSupplyFailure {s t : State} (h : execBackupSupplyFailure s = .next t) : Upholds s t := by
  refine Host.Outcome.next.inj h ▸ ?_
  split
  next => exact .refl s
  next hmain => exact upholds_backupSupplyFailure (by simpa using hmain)

theorem upholds_execBlockCircuits {s t : State} (h : execBlockCircuits s = .next t) : Upholds s t := by
  refine upholds_serve (fun slot req => upholds_serveBlocking ?_ slot req s) h
  exact fun _ _ => ⟨rfl, rfl⟩

theorem upholds_execUnblockCircuits {s t : State} (h : execUnblockCircuits s = .next t) : Upholds s t := by
  refine upholds_serve (fun slot req => upholds_serveBlocking ?_ slot req s) h
  exact fun _ _ => ⟨rfl, rfl⟩

/-- Every command keeps the invariants. -/
theorem upholds_exec {c : Instr} {s t : State} (h : exec c s = .next t) : Upholds s t := by
  cases c with
  | route => exact upholds_serve (fun slot req => upholds_serveRoute slot req s) h
  | routeWalk => exact upholds_execRouteWalk h
  | routeReports => exact upholds_execRouteReports h
  | confirm => exact upholds_serve (upholds_callRequest fun slot req i => upholds_confirmRule slot req i s) h
  | answer => exact upholds_serve (upholds_callRequest fun slot req i => upholds_answerRule slot req i s) h
  | release => exact upholds_serve (upholds_callRequest fun slot req i => upholds_releaseRule slot req i s) h
  | crankback => exact upholds_serve (upholds_callRequest fun slot req i => upholds_crankbackRule slot req i s) h
  | queryCall => exact upholds_serve (upholds_callRequest fun slot req i => upholds_queryRule slot req i s) h
  | setCallTimers => exact upholds_serve (fun slot req => upholds_serveSetCallTimers slot req s) h
  | loadDestinations =>
    exact upholds_serve (fun slot req => upholds_serveLoad destinationsFields_not_holidays slot req s) h
  | loadRouteLists => exact upholds_serve (fun slot req => upholds_serveLoad routeListsFields_not_holidays slot req s) h
  | setBandMap => exact upholds_serve (fun slot req => upholds_serveLoad bandMapFields_not_holidays slot req s) h
  | setHolidays =>
    exact upholds_serve (fun slot req => upholds_serveLoad (fun _ _ hf _ => holidaysFields_count hf) slot req s) h
  | bankLoadHead => exact upholds_execBankLoadHead h
  | switchPlan => exact upholds_serve (fun slot req => upholds_serveSwitchPlan slot req s) h
  | setGroup => exact upholds_serve (fun slot req => upholds_serveSetGroup slot req s) h
  | blockCircuits => exact upholds_execBlockCircuits h
  | unblockCircuits => exact upholds_execUnblockCircuits h
  | setSupervision => exact upholds_serve (fun slot req => upholds_serveSetSupervision slot req s) h
  | setGap => exact upholds_serve (fun slot req => upholds_serveSetGap slot req s) h
  | clearGap => exact upholds_serve (fun slot req => upholds_serveClearGap slot req s) h
  | setCalendar => exact upholds_serve (fun slot req => upholds_serveSetCalendar slot req s) h
  | alignMinute => exact upholds_serve (fun slot req => upholds_serveAlignMinute slot req s) h
  | setCarrier => exact upholds_serve (fun slot req => upholds_serveSetCarrier slot req s) h
  | loadTariff => exact upholds_serve (fun slot req => upholds_serveLoadTariff slot req s) h
  | tariffActivation k d => exact upholds_event (fun _ => upholds_takeHanded k d s) (next_of_guarded h)
  | cancelTariff => exact upholds_serve (fun slot req => upholds_serveCancelTariff slot req s) h
  | closePeriod => exact upholds_serve (fun slot req => upholds_serveClosePeriod slot req s) h
  | frameSlot present =>
    exact Host.Outcome.next.inj h ▸ .ite ((upholds_settleSlot s).trans (upholds_countSlot present _))
      (.ite (upholds_slotInReset s) (.refl s))
  | referenceLoss => exact upholds_event (fun _ => upholds_loseReference s) h
  | referenceLock => exact upholds_event (fun _ => upholds_changeReference .locked s) h
  | tickAdvance => exact upholds_event (fun _ => upholds_advanceTick s) h
  | tenthAdvance => exact upholds_event (fun _ => upholds_advanceTenth s) h
  | periodEnd => exact upholds_event (fun _ => upholds_endPeriod s) h
  | gapEntryLapse => exact upholds_execGapEntryLapse h
  | confirmationExpiry i => exact upholds_event (fun _ => upholds_expire i s) (next_of_guarded h)
  | longCallMark i => exact upholds_event (fun _ => upholds_markLong i s) (next_of_guarded h)
  | scanTimerExpiry => exact upholds_event (fun _ => upholds_scanTimerOut s) h
  | memoryBurstDone => exact upholds_execMemoryBurstDone h
  | runOne => exact upholds_registerWrite (upholds_runOn s) h
  | runZero => exact upholds_registerWrite (upholds_runOff s) h
  | softReset => exact upholds_event (fun _ => upholds_startWarm .warm .soft s.power s) h
  | attnMode =>
    refine upholds_event (fun _ => ?_) h
    exact .ite (.refl s) (upholds_setRegs _ s)
  | scanInterval | burstSize | attention =>
    refine upholds_event (fun _ => ?_) h
    exact upholds_setRegs _ s
  | areaBase | areaSize => exact upholds_registerWrite (.ite (upholds_setRegs _ s) (.refl s)) h
  | nudge =>
    exact upholds_registerWrite (.ite (.ite (upholds_requestRescan s) (upholds_passFallsDue s)) (.refl s)) h
  | registerWriteIgnored => exact Host.Outcome.next.inj h ▸ .refl s
  | attnPulseEnd => exact upholds_event (fun _ => upholds_setRegs _ s) h
  | powerOn => exact upholds_execPowerOn h
  | resetLineAsserted => exact upholds_execResetLineAsserted h
  | resetLineReleased => exact upholds_execResetLineReleased h
  | resetEnd => exact upholds_execResetEnd h
  | backupTenthAdvance =>
    refine upholds_event (fun _ => ?_) h
    exact upholds_of_same_settlements rfl
  | mainSupplyLoss => exact upholds_event (fun _ => upholds_mainSupplyLoss s) h
  | backupSupplyFailure => exact upholds_execBackupSupplyFailure h

/-- Every step keeps the invariants: its command runs on the machine with the rest of the queue. -/
theorem upholds_step {s t : State} (h : step s = .next t) : Upholds s t := by
  cases hq : s.pending with
  | nil => exact Host.Outcome.next.inj ((step_of_pending_nil hq).symm.trans h) ▸ .refl s
  | cons c rest =>
    have hpending : Upholds s (s.setPending rest) := SameRecords.upholds (by constructor <;> rfl)
    have hexec : exec c (s.setPending rest) = .next t := by
      have hs : s.setPending (c :: rest) = s := by rw [← hq]; rfl
      rw [← step_setPending_cons c rest s, hs, h]
    exact hpending.trans (upholds_exec hexec)

/-- Settles O3. -/
theorem tablesStayCanonical : Obligations.TablesStayCanonical := fun _ _ h hstep => (upholds_step hstep).canonical h

/-- Settles O7. -/
theorem callsAndPlansStayLegal : Obligations.CallsAndPlansStayLegal := fun _ _ _ h hstep => (upholds_step hstep).callsLegal h

/-- Settles O8. -/
theorem seizuresAreConserved : Obligations.SeizuresAreConserved := fun _ _ h hstep => (upholds_step hstep).conserved h

end Sys2Proof.Machine
end

section
/-! PROOFS. The reset state meets every invariant (R3, R24, R39, R81, R103, R118, R157, R168). -/

namespace Sys2Proof.Machine

/-- No table lists anything after reset, so every record is read at its reset value. -/
theorem fresh_reset : Fresh State.reset := ⟨rfl, rfl, rfl, rfl, rfl, rfl⟩

theorem Regs.legal_reset (kind : StartKind) : (Regs.reset kind).Legal := by
  simp [Regs.Legal, Regs.reset, Regs.anyAttention]

theorem Group.legal_unconfigured : Group.unconfigured.Legal := by
  simp [Group.Legal, Group.unconfigured]

theorem Supervision.legal_reset : Supervision.reset.Legal := by
  simp [Supervision.Legal, Supervision.reset]

theorem Calendar.legal_cold : Calendar.cold.Legal := by
  simp [Calendar.Legal, Calendar.cold]

theorem Backup.legal_cold : Backup.cold.Legal := by
  refine ⟨rfl, fun _ => ?_, ?_, ?_⟩
  · simp [Backup.cold, Table.read, Settlement.zero, Sums.zero, Sums.Legal]
  · simp [Backup.cold]
  · simp [Backup.cold]

theorem tariffsLegal_reset : State.reset.TariffsLegal := by
  have hnone : ∀ k d, (State.reset.carrier k).tariffs d = Tariffs.none := fun k d => by cases d <;> rfl
  refine ⟨fun k d set h => ?_, fun k d p h => ?_, fun slot req h => ?_⟩
  · rw [hnone] at h; cases h
  · rw [hnone] at h; cases h
  · cases h

/-- Settles O2, by what each unit's reset value meets. -/
theorem resetMeetsInvariants : Obligations.ResetMeetsInvariants :=
  ⟨fresh_reset.canonical rfl rfl, Regs.legal_reset .cold, ⟨Nat.zero_le _, List.nodup_nil⟩, fun _ => Group.legal_unconfigured,
    Supervision.legal_reset, Calendar.legal_cold, Backup.legal_cold, fresh_reset.conserved rfl fun _ _ => rfl,
    fresh_reset.callsLegal, tariffsLegal_reset, ⟨rfl, rfl, rfl, rfl, rfl, rfl⟩, fun r => by cases r <;> rfl, rfl, fun _ => rfl,
    rfl, fun _ => rfl, fun _ => ⟨rfl, rfl⟩⟩

end Sys2Proof.Machine
end

section
/-! PROOFS. CONFIRM, and RELEASE of an unanswered call (R8, R20, R30, R82 to R84, R87, R143). -/

namespace Sys2Proof.Machine

/-- A handle that names a context with a call reaches the rule of its request (R82, R83). -/
theorem callRequest_of_names {k : Kind} {rule : Nat → List Byte → Nat → Context → State → State} {s : State} {slot i : Nat}
    {req : List Byte} {c : Context} (hclear : reservedClear k req = true) (hnames : Names s req i c) (hc : c.state ≠ .free) :
    callRequest k rule slot req s = rule slot req i c s := by
  obtain ⟨hepoch, rfl, hindex, hgeneration, rfl⟩ := hnames
  have hmatch : matchHandle s (handleOf req) = some (s.context (handleOf req).index) :=
    if_pos ⟨hepoch, hindex, hc, hgeneration⟩
  rw [callRequest, if_neg (by simp [hclear]), hmatch]

theorem sameOtherContexts_of_put {s u : State} {i : Nat} {c : Context}
    (h : u.contexts = { s.contexts with table := Table.write s.contexts.table Context.reset i c }) :
    u.context i = c ∧ SameOtherContexts s u i := by
  have hcontext : ∀ j, u.context j = if j = i then c else s.context j := fun j => by
    rw [State.context, h, Table.read_write]; rfl
  exact ⟨by rw [hcontext, if_pos rfl], fun j hj => by rw [hcontext, if_neg hj], by rw [h]⟩

theorem confirmRetains_iff {s : State} {call : Call} : confirmRetains s call = true ↔
    call.kind = .pool ∧ ((s.group call.group).congestion = .clear ∨ (s.group call.group).congestion = .watch) :=
  decide_eq_true_iff

/-- The plan after a CONFIRM: the two changes of the bank, the provisional count and the retained alternate, are of different
fields (R8, R20). -/
theorem plan_retainAlternate (call : Call) (s : State) (f : Nat → Nat) :
    (retainAlternate call (changeProvisional call.bank f s)).plan = s.plan.setBank call.bank { s.bank call.bank with
      provisional := f (s.bank call.bank).provisional,
      dests := (s.bank call.bank).dests.modify call.dest (fun e => { e with retained := some call.group }) } := by
  simp [retainAlternate, changeDest, changeProvisional, putBank, State.bank]

/-- Settles O20, by whether the CONFIRM retains the group. -/
theorem confirmKeepsTheSeizure : Obligations.ConfirmKeepsTheSeizure := by
  intro s slot req i generation call deadline hserved hclear hnames b g retains
  have hrule := callRequest_of_names (rule := confirmRule) (slot := slot) hclear hnames (by simp)
  have hexec : exec .confirm s = .next _ := serve_of_served hserved
  rw [hexec, hrule]
  by_cases hretains : retains
  · have hmark := confirmRetains_iff.2 hretains
    refine ⟨retainAlternate call (changeProvisional call.bank (fun n => n - 1)
      (putContext i { generation := generation, state := .confirmed call } s)), ?_, ?_⟩
    · rw [if_pos hretains]
      simp only [confirmRule, hmark, if_true]
      rfl
    · refine and_assoc.1 ⟨sameOtherContexts_of_put rfl, ?_, rfl⟩
      rw [plan_retainAlternate, if_pos hretains]
      rfl
  · have hmark : confirmRetains s call = false := by rw [← Bool.not_eq_true, confirmRetains_iff]; exact hretains
    refine ⟨changeProvisional call.bank (fun n => n - 1)
      (putContext i { generation := generation, state := .confirmed call } s), ?_, ?_⟩
    · rw [if_neg hretains]
      simp only [confirmRule, hmark]
      rfl
    · refine and_assoc.1 ⟨sameOtherContexts_of_put rfl, ?_, rfl⟩
      rw [if_neg hretains]
      rfl

theorem returnSeizure_eq (g : Nat) (s : State) : returnSeizure g s =
    (s.setGroups (returnSeizure g s).groups).setBackup (returnSeizure g s).backup := by
  unfold returnSeizure changeOpen
  dsimp only
  split <;> rfl

/-- What a release of an unanswered call leaves, besides the plan. -/
theorem unansweredReleased_spec {s u : State} {i g : Nat} {p : PlanStore}
    (hu : u = freeContext i ((returnSeizure g s).setPlan p)) :
    u.context i = { s.context i with state := .free } ∧ SameOtherContexts s u i ∧ SeizureReturned s u g ∧
      (∀ k, (u.settlement k).sums = (s.settlement k).sums) ∧ u.plan = p ∧
      u.backup = { s.backup with settlements := u.backup.settlements } ∧
      u = (((s.setContexts u.contexts).setGroups u.groups).setBackup u.backup).setPlan u.plan := by
  obtain ⟨hreturned, hsums, hbackup⟩ := returnSeizure_spec g s
  subst hu
  refine and_assoc.1 ⟨sameOtherContexts_of_put (by simp [freeContext, putContext]), ?_, ?_, rfl, ?_, ?_⟩
  · simpa [SeizureReturned] using hreturned
  · simpa using hsums
  · simpa using hbackup
  · rw [returnSeizure_eq]; rfl

/-- Settles O22, by whether the call was confirmed. -/
theorem releaseOfUnansweredCall : Obligations.ReleaseOfUnansweredCall := by
  intro s slot req i generation state call hserved hclear hnames hstate owner b
  have hcontext : s.context i = { generation := generation, state := state } := hnames.2.2.2.2
  have hreturned : (returnSeizure call.group s).plan = s.plan := by simp
  have hexec : exec .release s = .next _ := serve_of_served hserved
  rw [hexec]
  rcases hstate with rfl | ⟨deadline, rfl⟩
  · rw [callRequest_of_names hclear hnames (by simp)]
    obtain ⟨hfree, hspec⟩ := unansweredReleased_spec (s := s) (i := i) (g := call.group) (p := s.plan) rfl
    refine ⟨freeContext i ((returnSeizure call.group s).setPlan s.plan), ?_, ?_⟩
    · rw [← hreturned]; rfl
    · rw [if_pos rfl]
      rw [hcontext] at hfree
      exact ⟨hfree, hspec⟩
  · rw [callRequest_of_names hclear hnames (by simp)]
    obtain ⟨hfree, hspec⟩ := unansweredReleased_spec (s := s) (i := i) (g := call.group)
      (p := s.plan.setBank call.bank { b with provisional := b.provisional - 1 }) rfl
    refine ⟨freeContext i ((returnSeizure call.group s).setPlan
      (s.plan.setBank call.bank { b with provisional := b.provisional - 1 })), ?_, ?_⟩
    · have hbank : (returnSeizure call.group s).bank call.bank = b := bank_congr hreturned call.bank
      rw [← hreturned, ← hbank]
      rfl
    · rw [if_neg (by simp)]
      rw [hcontext] at hfree
      exact ⟨hfree, hspec⟩

end Sys2Proof.Machine
end

section
/-! PROOFS. SWITCH PLAN, and with it what a band evaluation and a boundary event do (R7, R19, R93 to R96, R107, R108). -/

namespace Sys2Proof.Machine

theorem context_boundaryEvent (reaches : Call → Bool) (s : State) (i : Nat) :
    (boundaryEvent reaches s).context i = boundaryOn s reaches (s.context i) :=
  Table.read_mapValues _ _ _ _ rfl

theorem segmentNow_eq (s : State) (call : Call) : segmentNow s call =
    { start := s.now, band := s.clock.band, inRate := rateInForce s call.origin .inbound,
      outRate := rateInForce s (s.group call.group).owner .outbound } := rfl

theorem boundaryOn_of_reached {s : State} {reaches : Call → Bool} {c : Context} {call : Call} {a : Answered}
    (hc : c.state = .answered call a) (h : reaches call = true ∧ a.long = false ∧ (s.now - a.tick).toNat < longCall) :
    boundaryOn s reaches c = { c with state := .answered call (addSegment (segmentNow s call) a) } := by
  rw [boundaryOn, hc]
  exact if_pos h

theorem boundaryOn_of_passed {s : State} {reaches : Call → Bool} {c : Context}
    (h : ∀ call a, c.state = .answered call a → ¬ (reaches call = true ∧ a.long = false ∧ (s.now - a.tick).toNat < longCall)) :
    boundaryOn s reaches c = c := by
  unfold boundaryOn
  split
  next call a hc => exact if_neg (h call a hc)
  next => rfl

theorem addSegment_of_last {g last : Segment} {a : Answered} (h : a.segments.getLast? = some last) : addSegment g a =
    if last.start = g.start then { a with segments := a.segments.dropLast ++ [g] }
    else if a.segments.length < 6 then { a with segments := a.segments ++ [g] }
    else { a with merged := true } := by
  rw [addSegment, h]

/-- What a boundary event does to every context (R93 to R96). -/
theorem takesBoundary_boundaryEvent {reaches : Call → Bool} {p : Call → Prop} (hp : ∀ call, p call ↔ reaches call = true)
    (s : State) : TakesBoundary s (boundaryEvent reaches s) p := by
  refine ⟨fun i call a last hi hlast hreaches hlong hshort => ?_, fun i h => ?_, rfl⟩
  · rw [context_boundaryEvent, boundaryOn_of_reached hi ⟨(hp call).1 hreaches, hlong, hshort⟩, segmentNow_eq, addSegment_of_last hlast]
    rfl
  · rw [context_boundaryEvent]
    refine boundaryOn_of_passed fun call a hi hreached => ?_
    obtain ⟨hreaches, hlong, hshort⟩ := hreached
    rcases h call a hi with hn | hn | hn
    · exact hn ((hp call).2 hreaches)
    · rw [hlong] at hn; cases hn
    · exact absurd hshort (not_lt.2 hn)

theorem bandFound_eq (s : State) : bandFound s =
    if s.backup.clockSet then
      Table.read (s.bank s.plan.active).bandMap 0
        (2 * s.backup.calendar.hour + (if 30 ≤ s.backup.calendar.minute then 1 else 0) +
          (if (s.backup.calendar.month, s.backup.calendar.day) ∈ (s.bank s.plan.active).holidays ∨
            s.backup.calendar.weekday = 6 then 97 else if s.backup.calendar.weekday = 5 then 49 else 1))
    else 0 := by
  rw [bandFound, Nat.add_comm]
  rfl

/-- What a band evaluation finds and changes (R107, R108). -/
theorem evaluateBand_spec (s : State) : BandEvaluated s (evaluateBand s) ∧
    evaluateBand s = (s.setClock { s.clock with band := bandFound s }).setContexts (evaluateBand s).contexts := by
  unfold evaluateBand BandEvaluated
  dsimp only
  split
  next hsame => exact ⟨⟨bandFound_eq s, fun _ => rfl, fun hne => absurd hsame hne⟩, rfl⟩
  next hdiffer =>
    refine ⟨⟨bandFound_eq s, fun he => absurd he hdiffer, fun _ => ?_⟩, rfl⟩
    exact takesBoundary_boundaryEvent (fun _ => by simp) (s.setClock { s.clock with band := bandFound s })

/-- Settles O41: the band is evaluated on the machine whose active bank is the other one. -/
theorem switchPlanExchangesTheBanks : Obligations.SwitchPlanExchangesTheBanks := by
  intro s slot req hserved hclear
  have hexec : exec .switchPlan s = .next (serveSwitchPlan slot req s) := serve_of_served hserved
  rw [hexec, serveSwitchPlan, if_neg (by simp [hclear])]
  refine ⟨fun hqueue => by rw [if_pos hqueue], fun hqueue => ?_⟩
  rw [if_neg (not_not.2 hqueue)]
  obtain ⟨hband, hsame⟩ := evaluateBand_spec (s.setPlan { s.plan with active := s.plan.active.other })
  have hother : s.plan.active.other = if s.plan.active = .a then .b else .a := by cases s.plan.active <;> rfl
  have hcode : s.plan.active.other.code = if s.plan.active = .a then 1 else 0 := by cases s.plan.active <;> rfl
  refine ⟨evaluateBand (s.setPlan { s.plan with active := s.plan.active.other }), by rw [← hcode], ?_, ?_, hband, ?_⟩
  · rw [hsame, ← hother]; rfl
  · rw [hsame]; rfl
  · rw [hsame]; rfl

end Sys2Proof.Machine
end

section
/-! PROOFS. Bank loads: how a load joins the queue, how its head begins, and how a complete block is validated and applied
(R9 to R17, R21). -/

namespace Sys2Proof.Machine

/-! ### Queueing (R9) -/

/-- The load that a request's fields ask for (R9). -/
def LoadFields.load (f : LoadFields) (slot : Nat) (req : List Byte) : Load :=
  { slot := slot, request := req, kind := f.kind, bank := f.bank, addr := BitVec.ofNat 32 (readLE req 12 4), count := f.count }

/-- A bank load's request once its reserved fields are clear: the address, then the fields, are checked (R9). -/
theorem serveLoad_spec {k : Kind} {fields : List Byte → Option LoadFields} {inRange : Prop} [Decidable inRange] {f : LoadFields}
    {req : List Byte} (hclear : reservedClear k req = true) (hfields : fields req = if inRange then some f else none)
    (slot : Nat) (s : State) :
    (readLE req 12 4 % 8 ≠ 0 → serveLoad k fields slot req s = reply slot req .format 0 [] s) ∧
    (readLE req 12 4 % 8 = 0 → ¬ inRange → serveLoad k fields slot req s = reply slot req .range 0 [] s) ∧
    (readLE req 12 4 % 8 = 0 → inRange → serveLoad k fields slot req s =
      markBegun slot req (s.setPlan { s.plan with queue := s.plan.queue ++ [f.load slot req] })) := by
  rw [serveLoad, if_neg (by simp [hclear]), hfields]
  refine ⟨fun h => if_pos h, fun h hr => ?_, fun h hr => ?_⟩
  · rw [if_neg (not_not.2 h), if_neg hr]
  · rw [if_neg (not_not.2 h), if_pos hr]
    rfl

/-! ### The head of the queue (R10, R11) -/

theorem finishLoad_of_queue {s : State} {l : Load} {rest : List Load} (hq : s.plan.queue = l :: rest) (code : Code)
    (record : Nat) (fields : List Field) : finishLoad l code record fields s =
      reply l.slot l.request code record fields (s.setPlan { s.plan with queue := rest, headBegun := false }) := by
  rw [finishLoad, hq]
  rfl

/-- The bank as an apply leaves it: every retained alternate is empty (R21). -/
theorem clearRetained_all (d : BankData) :
    d.clearRetained (fun _ => true) = { d with dests := d.dests.map (fun e => { e with retained := none }) } := by
  simp [BankData.clearRetained]

theorem finishLoad_applyLoad {s : State} {l : Load} {rest : List Load} (hq : s.plan.queue = l :: rest) (code : Code)
    (fields : List Field) (d : BankData) : finishLoad l code 0 fields (applyLoad l d s) =
      reply l.slot l.request code 0 fields (s.setPlan
        (PlanStore.setBank { s.plan with queue := rest, headBegun := false } l.bank
          { d with dests := d.dests.map (fun e : Dest => { e with retained := none }) })) := by
  have hqueue : (applyLoad l d s).plan.queue = l :: rest := by simpa [applyLoad, putBank] using by cases l.bank <;> exact hq
  rw [finishLoad_of_queue hqueue, applyLoad, clearRetained_all]
  cases l.bank <;> rfl

theorem loadRead_of_no_holidays {s : State} {l : Load} (hkind : l.kind = .holidays) (hcount : l.count = 0) :
    loadRead l [] s = finishLoad l .ok 0 [⟨72, 1, 0⟩] (applyLoad l { s.bank l.bank with holidays := [] } s) := by
  rw [loadRead, hkind, hcount]
  rfl

theorem exec_bankLoadHead {s : State} {l : Load} {rest : List Load} (hup : s.up = true) (hq : s.plan.queue = l :: rest) :
    exec .bankLoadHead s = .next (if s.plan.headBegun = false then startHead l s else s) := by
  change execBankLoadHead s = _
  rw [execBankLoadHead, hq]
  simp [hup]

/-- Settles O38: the fields of each kind of load, and the branches of the check that its head passes. -/
theorem bankLoadsQueueAndBegin : Obligations.BankLoadsQueueAndBegin := by
  refine ⟨fun k s slot req hk hserved hclear => ?_, fun s l rest hup hq => ?_⟩
  · intro count inRange load
    rw [exec_command_of_served hserved]
    have hspec : ∀ {fields : List Byte → Option LoadFields} {p : Prop} [Decidable p] {f : LoadFields},
        k.service = serveLoad k fields → fields req = (if p then some f else none) → (p ↔ inRange) → f.load slot req = load →
        (readLE req 12 4 % 8 ≠ 0 → .next (k.service slot req s) = (.next (reply slot req .format 0 [] s) : Result)) ∧
        (readLE req 12 4 % 8 = 0 → ¬ inRange →
          .next (k.service slot req s) = (.next (reply slot req .range 0 [] s) : Result)) ∧
        (readLE req 12 4 % 8 = 0 → inRange → .next (k.service slot req s) =
          (.next (markBegun slot req (s.setPlan { s.plan with queue := s.plan.queue ++ [load] })) : Result)) := by
      intro fields p _ f hservice hfields hp hload
      obtain ⟨hformat, hrange, hjoins⟩ := serveLoad_spec hclear hfields slot s
      rw [hservice, ← hp, ← hload]
      exact ⟨fun h => congrArg _ (hformat h), fun h hn => congrArg _ (hrange h hn), fun h hr => congrArg _ (hjoins h hr)⟩
    rcases hk with rfl | rfl | rfl | rfl
    · exact hspec rfl (destinationsFields_eq req) (by simp [inRange, count]) (by simp [load, count, LoadFields.load])
    · exact hspec rfl (routeListsFields_eq req) (by simp [inRange, count]) (by simp [load, count, LoadFields.load])
    · exact hspec rfl (bandMapFields_eq req) (by simp [inRange]) (by simp [load, LoadFields.load])
    · exact hspec rfl (holidaysFields_eq req) (by simp [inRange, count]) (by simp [load, count, LoadFields.load])
  · intro b shorter bytes
    rw [exec_bankLoadHead hup hq]
    refine ⟨fun hbegun => by rw [if_neg (by simp [hbegun])], fun hbegun => ?_⟩
    rw [if_pos hbegun]
    refine ⟨fun hactive => ?_, fun hother hbusy => ?_, fun hother hfree hne => ?_, fun hother hfree hkind hcount => ?_⟩
    · rw [startHead, if_pos hactive, finishLoad_of_queue hq]
    · rw [startHead, if_neg hother, if_pos hbusy, finishLoad_of_queue hq]
    · rw [startHead, if_neg hother, if_neg (Nat.le_of_eq hfree).not_gt, beginLoad, if_neg (show l.bytes ≠ 0 from hne)]
      rfl
    · have hnone : l.bytes = 0 := by rw [Load.bytes, hkind, hcount]
      rw [startHead, if_neg hother, if_neg (Nat.le_of_eq hfree).not_gt, beginLoad, if_pos hnone, loadRead_of_no_holidays hkind hcount,
        finishLoad_applyLoad hq]

/-! ### A complete block (R11 to R17) -/

/-- The last burst of a transfer: its requester goes on with the bytes read (R173). -/
theorem exec_memoryBurstDone_of_completes {s : State} {r : Requester} {t : Transfer} {ts : List Transfer} {data : List Byte}
    (h : Completes s r t ts data) : exec (.memoryBurstDone (.done data)) s =
      .next (serveNext r (completed t.purpose (t.data ++ data) (afterTransfer r t ts s))) := by
  obtain ⟨hserving, hqueue, hlast, hlength, hdata⟩ := h
  have hcarried : carried s = some (r, t, ts) := by simp [carried, hserving, hqueue]
  have hwell : (Instr.memoryBurstDone (.done data)).wellFormed = true := decide_eq_true hlength
  have hfits : replyFits t (.done data) = true := by
    rw [← hlast] at hdata
    exact decide_eq_true hdata
  rw [exec_memoryBurstDone_of_carried hwell hcarried, if_pos hfits]
  simp only [endBurst, hlast, if_true]
  rfl

theorem afterTransfer_of_read {r : Requester} {t : Transfer} {ts : List Transfer} {s : State} (h : t.write = false) :
    afterTransfer r t ts s = setTransfers r ts s := by
  simp [afterTransfer, storeBytes, h]

/-- The last burst of the head load's block: the load's validation and apply (R11). -/
theorem exec_of_loadBlock {s : State} {t : Transfer} {ts : List Transfer} {data : List Byte} {l : Load} {rest : List Load}
    (h : Completes s .plan t ts data) (hwrite : t.write = false) (hpurpose : t.purpose = .loadBlock)
    (hq : s.plan.queue = l :: rest) : exec (.memoryBurstDone (.done data)) s =
      .next (serveNext .plan (loadRead l (t.data ++ data) (setTransfers .plan ts s))) := by
  rw [exec_memoryBurstDone_of_completes h, hpurpose, afterTransfer_of_read hwrite]
  have hqueue : (setTransfers .plan ts s).plan.queue = l :: rest := hq
  rw [completed, loadBlockRead, hqueue]

/-- The size of a load's records (Table 10-15). -/
def LoadKind.recordSize : LoadKind → Nat
  | .destinations _ => 16
  | .routeLists => 32
  | .bandMap => 1
  | .holidays => 4

/-- What is wrong with a record of a load (R12 to R15). -/
def LoadKind.badRecord : LoadKind → List Byte → Option Code
  | .destinations _ => badDestination
  | .routeLists => badRouteList
  | .bandMap => badCell
  | .holidays => badHoliday

/-- The records of a load's block (Table 10-15). -/
def Load.records (l : Load) (bytes : List Byte) : List (List Byte) :=
  recordsOf l.kind.recordSize (if l.kind = .bandMap then 144 else l.count) bytes

theorem loadRead_of_bad {l : Load} {bytes : List Byte} {s : State} {c : Code} {n : Nat}
    (h : firstBad l.kind.badRecord 1 (l.records bytes) = some (c, n)) : loadRead l bytes s = finishLoad l c n [] s := by
  obtain ⟨slot, req, kind, bank, addr, count⟩ := l
  unfold loadRead
  cases kind <;> simp only [Load.records, LoadKind.recordSize, LoadKind.badRecord, reduceCtorEq, if_false, if_true] at h <;>
    simp only [h]

theorem loadRead_destinations {l : Load} {bytes : List Byte} {s : State} {mode : LoadMode} (hkind : l.kind = .destinations mode)
    (hgood : ∀ r ∈ l.records bytes, l.kind.badRecord r = none) : loadRead l bytes s =
      (let dests := appliedDests mode (s.bank l.bank).dests (l.records bytes)
       if 8192 < dests.length then finishLoad l .tableFull 0 [] s
       else finishLoad l .ok 0 [⟨72, 2, l.count⟩, ⟨74, 2, dests.length⟩] (applyLoad l { s.bank l.bank with dests := dests } s)) := by
  have hnone := (firstBad_eq_none_iff 1).2 hgood
  obtain ⟨slot, req, kind, bank, addr, count⟩ := l
  subst hkind
  simp only [Load.records, LoadKind.recordSize, LoadKind.badRecord, reduceCtorEq, if_false] at hnone ⊢
  simp only [loadRead, hnone]

theorem loadRead_routeLists {l : Load} {bytes : List Byte} {s : State} (hkind : l.kind = .routeLists)
    (hgood : ∀ r ∈ l.records bytes, l.kind.badRecord r = none) : loadRead l bytes s =
      (let lists := appliedLists (s.bank l.bank).lists (l.records bytes)
       finishLoad l .ok 0 [⟨72, 2, l.count⟩, ⟨74, 2, lists.length⟩] (applyLoad l { s.bank l.bank with lists := lists } s)) := by
  have hnone := (firstBad_eq_none_iff 1).2 hgood
  obtain ⟨slot, req, kind, bank, addr, count⟩ := l
  subst hkind
  simp only [Load.records, LoadKind.recordSize, LoadKind.badRecord, reduceCtorEq, if_false] at hnone ⊢
  simp only [loadRead, hnone]

theorem loadRead_bandMap {l : Load} {bytes : List Byte} {s : State} (hkind : l.kind = .bandMap)
    (hgood : ∀ r ∈ l.records bytes, l.kind.badRecord r = none) : loadRead l bytes s =
      finishLoad l .ok 0 [] (applyLoad l { s.bank l.bank with bandMap := appliedMap (l.records bytes) } s) := by
  have hnone := (firstBad_eq_none_iff 1).2 hgood
  obtain ⟨slot, req, kind, bank, addr, count⟩ := l
  subst hkind
  simp only [Load.records, LoadKind.recordSize, LoadKind.badRecord, if_true] at hnone ⊢
  simp only [loadRead, hnone]

theorem loadRead_holidays {l : Load} {bytes : List Byte} {s : State} (hkind : l.kind = .holidays)
    (hgood : ∀ r ∈ l.records bytes, l.kind.badRecord r = none) : loadRead l bytes s =
      (let days := appliedHolidays (l.records bytes)
       finishLoad l .ok 0 [⟨72, 1, days.length⟩] (applyLoad l { s.bank l.bank with holidays := days } s)) := by
  have hnone := (firstBad_eq_none_iff 1).2 hgood
  obtain ⟨slot, req, kind, bank, addr, count⟩ := l
  subst hkind
  simp only [Load.records, LoadKind.recordSize, LoadKind.badRecord, reduceCtorEq, if_false] at hnone ⊢
  simp only [loadRead, hnone]

/-- The destination table as a load leaves it: a table that is too long is refused, and the retained alternates of a table
that is applied are empty (R12, R16, R21). -/
def loadedDests (mode : LoadMode) (old : List Dest) (records : List (List Byte)) : List Dest :=
  let dests := appliedDests mode old records
  if 8192 < dests.length then dests else dests.map (fun e => { e with retained := none })

theorem loadedDests_length (mode : LoadMode) (old : List Dest) (records : List (List Byte)) :
    (loadedDests mode old records).length = (appliedDests mode old records).length := by
  unfold loadedDests
  dsimp only
  split
  · rfl
  · rw [List.length_map]

theorem loadedDests_nodup (mode : LoadMode) {old : List Dest} (h : (old.map Dest.code).Nodup) (records : List (List Byte)) :
    ((loadedDests mode old records).map Dest.code).Nodup := by
  have happlied := appliedDests_nodup mode h records
  unfold loadedDests
  dsimp only
  split
  · exact happlied
  · rw [List.map_map]
    exact happlied

theorem mem_loadedDests (mode : LoadMode) {old : List Dest} (h : (old.map Dest.code).Nodup) (records : List (List Byte))
    (e : Dest) : e ∈ loadedDests mode old records ↔
      (∃ (n : Nat) (r : List Byte), records[n]? = some r ∧ e = destinationOf r ∧
        ∀ (m : Nat) (q : List Byte), n < m → records[m]? = some q → (destinationOf q).code ≠ e.code) ∨
      (mode = .merge ∧ ∃ d ∈ old, (∀ r ∈ records, (destinationOf r).code ≠ d.code) ∧ e.code = d.code ∧
        e.routeList = d.routeList ∧ e.exhaust = d.exhaust ∧
        e.retained = if (loadedDests mode old records).length ≤ 8192 then none else d.retained) := by
  rw [loadedDests_length]
  unfold loadedDests
  dsimp only
  split
  next hlong =>
    simp only [mem_appliedDests mode h, if_neg (not_le.2 hlong)]
    refine or_congr_right (and_congr_right fun _ => ⟨fun ⟨hold, hnone⟩ => ⟨e, hold, hnone, rfl, rfl, rfl, rfl⟩, ?_⟩)
    rintro ⟨d, hd, hnone, hcode, hlist, hexhaust, hretained⟩
    obtain rfl : e = d := by
      cases e; cases d
      simp_all
    exact ⟨hd, hnone⟩
  next hroom =>
    simp only [List.mem_map, if_pos (not_lt.1 hroom)]
    constructor
    · rintro ⟨d, hd, rfl⟩
      rcases (mem_appliedDests mode h records d).1 hd with ⟨n, r, hr, rfl, hlast⟩ | ⟨hmode, hold, hnone⟩
      · exact .inl ⟨n, r, hr, rfl, hlast⟩
      · exact .inr ⟨hmode, d, hold, hnone, rfl, rfl, rfl, rfl⟩
    · rintro (⟨n, r, hr, rfl, hlast⟩ | ⟨hmode, d, hd, hnone, hcode, hlist, hexhaust, hretained⟩)
      · exact ⟨destinationOf r, (mem_appliedDests mode h records _).2 (.inl ⟨n, r, hr, rfl, hlast⟩), rfl⟩
      · refine ⟨d, (mem_appliedDests mode h records d).2 (.inr ⟨hmode, hd, hnone⟩), ?_⟩
        cases e; cases d
        simp_all

theorem appliedLists_index {old : Table (List RouteStep)} (hold : ∀ e ∈ old, e.1 ≤ 2047) {records : List (List Byte)}
    (hgood : ∀ r ∈ records, badRouteList r = none) : ∀ e ∈ appliedLists old records, e.1 ≤ 2047 := by
  intro e he
  rcases mem_appliedLists he with h | ⟨r, hr, -, rfl⟩
  · exact hold e h
  · obtain ⟨-, hindex, -⟩ := good_of_badRouteList_none (hgood r hr)
    rw [readLE_two]
    exact hindex

/-- Settles O39, by the kind of the load. -/
theorem loadBlockIsValidatedAndApplied : Obligations.LoadBlockIsValidatedAndApplied := by
  intro s t ts data l rest hcompletes hwrite hpurpose hq shorter b size count records bad answered
  rw [exec_of_loadBlock hcompletes hwrite hpurpose hq]
  have hqueue : (setTransfers .plan ts s).plan.queue = l :: rest := hq
  have hrecords : l.records (t.data ++ data) = records := by
    cases hkind : l.kind <;> simp [records, size, count, Load.records, LoadKind.recordSize, hkind]
  have hbad : l.kind.badRecord = bad := by
    cases hkind : l.kind <;> simp [bad, LoadKind.badRecord, hkind]
  have happlied : ∀ (fields : List Field) (d : BankData),
      (.next (serveNext .plan (finishLoad l .ok 0 fields (applyLoad l d (setTransfers .plan ts s)))) : Result) =
        answered .ok 0 fields (shorter.setBank l.bank
          { d with dests := d.dests.map (fun e : Dest => { e with retained := none }) }) := fun fields d => by
    rw [finishLoad_applyLoad hqueue]
    rfl
  refine ⟨fun n r c hr hc hfirst => ?_, fun hgood => ?_⟩
  · rw [← hbad] at hc hfirst
    rw [← hrecords] at hr hfirst
    rw [loadRead_of_bad (firstBad_of_first 1 hr hc hfirst), finishLoad_of_queue hqueue, Nat.add_comm 1 n]
    rfl
  · have hall : ∀ r ∈ l.records (t.data ++ data), l.kind.badRecord r = none := by rwa [hrecords, hbad]
    refine ⟨fun mode hkind hnodup => ?_, fun hkind => ?_, fun hkind => ?_, fun hkind => ?_⟩
    · refine ⟨loadedDests mode b.dests records, loadedDests_nodup mode hnodup records, fun e => mem_loadedDests mode hnodup records e, ?_⟩
      rw [loadRead_destinations hkind hall, hrecords, loadedDests_length]
      change Host.Outcome.next (serveNext _ (if 8192 < (appliedDests mode b.dests records).length then _ else _)) = _
      split
      next => rw [finishLoad_of_queue hqueue]; rfl
      next hroom =>
        have hdests : loadedDests mode b.dests records =
            (appliedDests mode b.dests records).map (fun e => { e with retained := none }) := if_neg hroom
        rw [hdests]
        exact happlied _ _
    · refine ⟨appliedLists b.lists records, read_appliedLists b.lists records, fun hcanonical hindex => ?_, ?_⟩
      · refine length_eq_of_canonical (canonical_appliedLists hcanonical records) (appliedLists_index hindex fun r hr => ?_)
        have hr' := hgood r hr
        rwa [← hbad, hkind] at hr'
      · rw [loadRead_routeLists hkind hall, hrecords]
        exact happlied _ _
    · refine ⟨appliedMap records, fun n r hr => read_appliedMap hr, ?_⟩
      rw [loadRead_bandMap hkind hall, hrecords]
      exact happlied _ _
    · refine ⟨appliedHolidays records, fun h => mem_appliedHolidays, appliedHolidays_nodup records, ?_⟩
      rw [loadRead_holidays hkind hall, hrecords]
      exact happlied _ _

end Sys2Proof.Machine
end

section
/-! PROOFS. The events that time makes due: the confirmation expiry, the long-call mark and the lapse of a gap entry (R8, R30, R52,
R89, R91, R96). -/

namespace Sys2Proof.Machine

theorem freeAll_contexts (is : List Nat) (s : State) :
    (freeAll is s).contexts = { s.contexts with table := (freeAll is s).contexts.table } := by
  induction is generalizing s with
  | nil => rfl
  | cons i is ih => exact ih (freeContext i s)

theorem context_freeAll (is : List Nat) (s : State) (j : Nat) : (freeAll is s).context j =
    if j ∈ is then { generation := (s.context j).generation, state := .free } else s.context j := by
  induction is generalizing s with
  | nil => simp [freeAll]
  | cons i is ih =>
    rw [freeAll, ih, context_freeContext]
    by_cases hj : j = i
    · subst hj; simp
    · simp [hj]

theorem freeAll_eq (is : List Nat) (s : State) :
    freeAll is s = s.setContexts { s.contexts with table := (freeAll is s).contexts.table } := by
  induction is generalizing s with
  | nil => rfl
  | cons i is ih => exact ih (freeContext i s)

/-- The machine before its expired list is trimmed: the seizure returned, and the context EXPIRED at the list's tail (R89). -/
def expiredNow (i generation : Nat) (call : Call) (deadline : Tick) (s : State) : State :=
  let s1 := putContext i { generation := generation, state := .expired call deadline } (returnSeizure call.group s)
  s1.setContexts { s1.contexts with expired := s1.contexts.expired ++ [i] }

theorem expire_of_due {s : State} {i generation : Nat} {call : Call} {deadline : Tick}
    (hi : s.context i = { generation := generation, state := .provisional call deadline }) (hdue : reached s.now deadline = true) :
    expire i s = changeProvisional call.bank (fun n => n - 1) (trimExpired (expiredNow i generation call deadline s)) := by
  rw [expire, hi]
  exact if_pos hdue

theorem expire_of_not_due {s : State} {i generation : Nat} {call : Call} {deadline : Tick}
    (hi : s.context i = { generation := generation, state := .provisional call deadline })
    (hdue : ¬ reached s.now deadline = true) : expire i s = s := by
  rw [expire, hi]
  exact if_neg hdue

theorem contexts_expiredNow (i generation : Nat) (call : Call) (deadline : Tick) (s : State) :
    (expiredNow i generation call deadline s).contexts = { s.contexts with
      table := Table.write s.contexts.table Context.reset i { generation := generation, state := .expired call deadline },
      expired := s.contexts.expired ++ [i] } := by
  simp [expiredNow, putContext]

theorem context_expiredNow (i generation : Nat) (call : Call) (deadline : Tick) (s : State) (j : Nat) :
    (expiredNow i generation call deadline s).context j =
      if j = i then { generation := generation, state := .expired call deadline } else s.context j := by
  rw [State.context, contexts_expiredNow, Table.read_write]
  rfl

theorem expiredNow_eq (i generation : Nat) (call : Call) (deadline : Tick) (s : State) :
    expiredNow i generation call deadline s =
      (returnSeizure call.group s).setContexts (expiredNow i generation call deadline s).contexts := rfl

/-- Trimming frees the heads of the list and drops them from it (R91). -/
theorem trimExpired_spec (s : State) :
    (trimExpired s).contexts.expired = s.contexts.expired.drop (s.contexts.expired.length - s.contexts.limit) ∧
    (∀ j, (trimExpired s).context j =
      if j ∈ s.contexts.expired.take (s.contexts.expired.length - s.contexts.limit) then
        { generation := (s.context j).generation, state := .free } else s.context j) ∧
    trimExpired s = s.setContexts { s.contexts with
      table := (trimExpired s).contexts.table, expired := (trimExpired s).contexts.expired } := by
  refine ⟨?_, fun j => context_freeAll _ _ j, ?_⟩
  · rw [trimExpired, freeAll_contexts]
    rfl
  · have hfreed := freeAll_eq (s.contexts.expired.take (s.contexts.expired.length - s.contexts.limit))
      (s.setContexts { s.contexts with expired := s.contexts.expired.drop (s.contexts.expired.length - s.contexts.limit) })
    rw [trimExpired, hfreed]
    rfl

theorem reached_iff {now t : Tick} : reached now t = true ↔ (now - t).toNat < 2 ^ 31 := decide_eq_true_iff

/-- A machine that has nothing but its contexts and its plan to differ from one whose seizure was returned (R30). -/
theorem seizureReturned_frame {s u : State} {g : Nat} (hu : u = ((returnSeizure g s).setContexts u.contexts).setPlan u.plan) :
    SeizureReturned s u g ∧ (∀ k, (u.settlement k).sums = (s.settlement k).sums) ∧
      u = (((s.setContexts u.contexts).setGroups u.groups).setBackup
        { s.backup with settlements := u.backup.settlements }).setPlan u.plan := by
  obtain ⟨hreturned, hsums, hbackup⟩ := returnSeizure_spec g s
  refine ⟨?_, fun k => ?_, ?_⟩
  · rw [hu]
    simpa [SeizureReturned] using hreturned
  · rw [hu]
    simpa using hsums k
  · have hsettlements : u.backup.settlements = (returnSeizure g s).backup.settlements := by rw [hu]; rfl
    have hgroups : u.groups = (returnSeizure g s).groups := by rw [hu]; rfl
    rw [hsettlements, hgroups, ← hbackup]
    rw [returnSeizure_eq] at hu
    exact hu

theorem exec_confirmationExpiry {s : State} {i : Nat} (hup : s.up = true) (hindex : i < 16384) :
    exec (.confirmationExpiry i) s = .next (expire i s) := by
  have hwell : (Instr.confirmationExpiry i).wellFormed = true := decide_eq_true hindex
  change execConfirmationExpiry i s = _
  rw [execConfirmationExpiry, if_neg (by simp [hwell]), if_pos hup]

/-- What an expiry that is due leaves: the heads of the list with the expired context at its tail are freed (R89, R91). -/
theorem expire_spec {s : State} {i generation : Nat} {call : Call} {deadline : Tick}
    (hi : s.context i = { generation := generation, state := .provisional call deadline }) (hdue : reached s.now deadline = true) :
    (expire i s).contexts = { s.contexts with
      table := (expire i s).contexts.table,
      expired := (s.contexts.expired ++ [i]).drop ((s.contexts.expired ++ [i]).length - s.contexts.limit) } ∧
    (∀ j, (expire i s).context j =
      if j ∈ (s.contexts.expired ++ [i]).take ((s.contexts.expired ++ [i]).length - s.contexts.limit) then
        { generation := (s.context j).generation, state := .free }
      else if j = i then { generation := generation, state := .expired call deadline } else s.context j) ∧
    (expire i s).plan = s.plan.setBank call.bank
      { s.bank call.bank with provisional := (s.bank call.bank).provisional - 1 } ∧
    expire i s = ((returnSeizure call.group s).setContexts (expire i s).contexts).setPlan (expire i s).plan := by
  rw [expire_of_due hi hdue]
  obtain ⟨hexpired, hcontext, htrimmed⟩ := trimExpired_spec (expiredNow i generation call deadline s)
  have hcontexts := contexts_expiredNow i generation call deadline s
  have hplan : (trimExpired (expiredNow i generation call deadline s)).plan = s.plan := by simp [expiredNow]
  refine ⟨?_, fun j => ?_, ?_, ?_⟩
  · change (trimExpired (expiredNow i generation call deadline s)).contexts = _
    rw [htrimmed, hexpired, hcontexts]
    rfl
  · change (trimExpired (expiredNow i generation call deadline s)).context j = _
    rw [hcontext, context_expiredNow, hcontexts]
    by_cases hj : j = i
    · rw [if_pos hj, hj, hi]
    · rw [if_neg hj]
  · change (trimExpired (expiredNow i generation call deadline s)).plan.setBank _ _ = _
    rw [bank_congr hplan, hplan]
  · rw [htrimmed, expiredNow_eq]
    rfl

theorem exec_longCallMark {s : State} {i : Nat} (hup : s.up = true) (hindex : i < 16384) :
    exec (.longCallMark i) s = .next (markLong i s) := by
  have hwell : (Instr.longCallMark i).wellFormed = true := decide_eq_true hindex
  change execLongCallMark i s = _
  rw [execLongCallMark, if_neg (by simp [hwell]), if_pos hup]

theorem markLong_of_answered {s : State} {i generation : Nat} {call : Call} {a : Answered}
    (hi : s.context i = { generation := generation, state := .answered call a }) : markLong i s =
      if (s.now - (a.tick + 864000#32)).toNat < 2 ^ 31 then
        putContext i { generation := generation, state := .answered call { a with long := true } } s
      else s := by
  rw [markLong, hi]
  exact if_congr reached_iff rfl rfl

theorem gapWithCode_of_only {s : State} {pre post : List GapEntry} {e : GapEntry} (hgaps : s.supervision.gaps = pre ++ e :: post)
    (hother : ∀ x ∈ pre ++ post, x.code ≠ e.code) : gapWithCode s e.code = some e := by
  rw [gapWithCode, hgaps, List.find?_append, List.find?_eq_none.2 fun x hx => by simpa using hother x (by simp [hx])]
  simp

theorem removeGap_of_only {s : State} {pre post : List GapEntry} {e : GapEntry} (hgaps : s.supervision.gaps = pre ++ e :: post)
    (hother : ∀ x ∈ pre ++ post, x.code ≠ e.code) :
    removeGap e.code s = s.setSupervision { s.supervision with gaps := pre ++ post } := by
  have hkept : ∀ l : List GapEntry, (∀ x ∈ l, x.code ≠ e.code) → l.filter (fun x => decide (x.code ≠ e.code)) = l :=
    fun l hl => List.filter_eq_self.2 fun x hx => by simpa using hl x hx
  rw [removeGap, putGaps, hgaps, List.filter_append, List.filter_cons_of_neg (by simp),
    hkept pre fun x hx => hother x (by simp [hx]), hkept post fun x hx => hother x (by simp [hx])]

/-- Settles O30, by the specs of the three events. -/
theorem dueEventsAreTaken : Obligations.DueEventsAreTaken := by
  refine ⟨⟨fun s i generation call deadline hup hindex hi => ?_, fun s i generation call a hup hindex hi => ?_⟩,
    fun s pre post e hup hwell hgaps hother => ?_⟩
  · intro list n
    rw [exec_confirmationExpiry hup hindex]
    refine ⟨fun hdue _ => ⟨_, rfl, ?_⟩, fun hnot => ?_⟩
    · obtain ⟨hcontexts, hcontext, hplan, hframe⟩ := expire_spec hi (reached_iff.2 hdue)
      obtain ⟨hreturned, hsums, hsame⟩ := seizureReturned_frame hframe
      have hexpired : (expire i s).contexts.expired = list.drop n := by rw [hcontexts]
      refine ⟨hexpired, hcontext, hreturned, hsums, hplan, ?_⟩
      rw [hexpired, ← hcontexts]
      exact hsame
    · rw [expire_of_not_due hi (by rw [reached_iff]; omega)]
  · rw [exec_longCallMark hup hindex, markLong_of_answered hi]
  · change execGapEntryLapse e.code s = _
    rw [execGapEntryLapse, if_neg (by simp [hwell]), gapWithCode_of_only hgaps hother, removeGap_of_only hgaps hother]
    simp [hup]

end Sys2Proof.Machine
end

section
/-! PROOFS. The period end: what the evaluation of every group, the gap upkeep and the start of the next period leave (R21, R40,
R43 to R48, R52). -/

namespace Sys2Proof.Machine

/-- Two machines with the same blocks are the same machine. -/
theorem State.eq_of_blocks {s t : State} (hplan : s.plan = t.plan) (hgroups : s.groups = t.groups)
    (hsupervision : s.supervision = t.supervision) (hrouteJob : s.routeJob = t.routeJob) (hcontexts : s.contexts = t.contexts)
    (hclock : s.clock = t.clock) (hcarriers : s.carriers = t.carriers) (hcarrierJob : s.carrierJob = t.carrierJob)
    (hbackup : s.backup = t.backup) (hintake : s.intake = t.intake) (hmirror : s.mirror = t.mirror) (hport : s.port = t.port)
    (hregs : s.regs = t.regs) (hpower : s.power = t.power) (hmem : s.mem = t.mem) (hfailures : s.failures = t.failures)
    (hpending : s.pending = t.pending) : s = t := by
  cases s; cases t
  simp_all

/-- The state after a period end by the first rule of R46 that applies, whatever the state before. -/
theorem nextCongestion_eq (r : Group) (o : Nat) : nextCongestion r o =
    if r.inService = false ∨ r.available = 0 then .blocked
    else if r.congestion = .blocked then .clear
    else if (r.congestion = .clear ∨ r.congestion = .watch) ∧ r.congestOn ≤ refusalRatio r then .congested
    else if r.congestion = .clear ∧ (r.watchOn ≤ o ∨ r.free ≤ r.reservation) then .watch
    else if r.congestion = .watch ∧ o < r.clearBelow ∧ r.reservation < r.free then .clear
    else if r.congestion = .congested ∧ 2 ≤ calmAfter r then .watch
    else r.congestion := by
  rw [nextCongestion]
  split
  next => rfl
  next => cases r.congestion <;> simp

theorem endPeriod_group (s : State) (g : Nat) :
    (endPeriod s).group g = if g < 1024 then evaluateGroup (s.group g) else s.group g := by
  obtain ⟨hgroup, -⟩ := evaluateGroups_spec s
  rw [← hgroup]
  exact group_congr (by simp [endPeriod]) g

theorem endPeriod_regs (s : State) : (endPeriod s).regs = (evaluateGroups s).regs := by
  simp [endPeriod]

theorem endPeriod_plan (s : State) : (endPeriod s).plan = (evaluateGroups s).plan := by
  simp [endPeriod]

theorem startPeriod_gapUpkeep_supervision {s v : State} (hsupervision : v.supervision = s.supervision)
    (hclock : v.clock = s.clock) (pe : Tick) : (startPeriod pe (gapUpkeep pe v)).supervision = { s.supervision with
      periodEnd := pe + BitVec.ofNat 32 (10 * s.supervision.period),
      gaps := s.supervision.gaps.map (fun e => if reached s.now e.nextAdmission then { e with nextAdmission := pe } else e) } := by
  simp only [startPeriod, gapUpkeep, putGaps, State.now, startMirror_keeps,
    State.setSupervision_supervision, hsupervision, hclock]
  rfl

theorem endPeriod_supervision (s : State) : (endPeriod s).supervision = { s.supervision with
    periodEnd := s.supervision.periodEnd + BitVec.ofNat 32 (10 * s.supervision.period),
    gaps := s.supervision.gaps.map (fun e => if reached s.now e.nextAdmission then
      { e with nextAdmission := s.supervision.periodEnd } else e) } :=
  startPeriod_gapUpkeep_supervision (by simp) (by simp) _

theorem endPeriod_others (s : State) :
    (endPeriod s).routeJob = s.routeJob ∧ (endPeriod s).contexts = s.contexts ∧ (endPeriod s).clock = s.clock ∧
    (endPeriod s).carriers = s.carriers ∧ (endPeriod s).carrierJob = s.carrierJob ∧ (endPeriod s).backup = s.backup ∧
    (endPeriod s).intake = s.intake ∧ (endPeriod s).power = s.power ∧ (endPeriod s).mem = s.mem ∧
    (endPeriod s).failures = s.failures ∧ (endPeriod s).pending = s.pending := by
  simp [endPeriod]

/-- A machine that differs from another at most in the blocks a period end may change. -/
theorem eq_of_others {s u : State} (h : u.routeJob = s.routeJob ∧ u.contexts = s.contexts ∧ u.clock = s.clock ∧
    u.carriers = s.carriers ∧ u.carrierJob = s.carrierJob ∧ u.backup = s.backup ∧ u.intake = s.intake ∧ u.power = s.power ∧
    u.mem = s.mem ∧ u.failures = s.failures ∧ u.pending = s.pending) :
    u = (((((s.setGroups u.groups).setSupervision u.supervision).setPlan u.plan).setRegs u.regs).setMirror
      u.mirror).setPort u.port := by
  obtain ⟨hrouteJob, hcontexts, hclock, hcarriers, hcarrierJob, hbackup, hintake, hpower, hmem, hfailures, hpending⟩ := h
  exact State.eq_of_blocks rfl rfl rfl hrouteJob hcontexts hclock hcarriers hcarrierJob hbackup hintake rfl rfl rfl hpower hmem
    hfailures hpending

theorem PlanStore.eq_of_kept {p q : PlanStore} (hactive : p.active = q.active) (hqueue : p.queue = q.queue)
    (hbegun : p.headBegun = q.headBegun) : p = { q with bankA := p.bankA, bankB := p.bankB } := by
  cases p; cases q
  simp_all

theorem fills_iff (r : Group) : r.fills = true ↔ (evaluateGroup r).congestion ≠ r.congestion ∧
    ((evaluateGroup r).congestion = .congested ∨ (evaluateGroup r).congestion = .blocked) := decide_eq_true_iff

/-- Settles O36, by what the evaluation of every group does. -/
theorem periodEndJudgesEveryGroup : Obligations.PeriodEndJudgesEveryGroup := by
  intro s hup hdue sampled smoothed ratio calm free judged full
  have hjudged : ∀ r, (evaluateGroup r).congestion = judged r := fun r => nextCongestion_eq r _
  obtain ⟨-, hbank, hactive, hqueue, hbegun, hturned, hsame, -, -⟩ := evaluateGroups_spec s
  have hturns : ∀ g, (s.group g).turns = true ↔ judged (s.group g) ≠ (s.group g).congestion := fun g => by
    rw [Group.turns, decide_eq_true_iff, hjudged]
  have hfull : (fun g => decide (g < 1024) && (s.group g).fills) = full := funext fun g => by
    rw [Bool.eq_iff_iff, Bool.and_eq_true, fills_iff, decide_eq_true_iff, hjudged]
    exact decide_eq_true_iff.symm
  refine ⟨endPeriod s, ?_, fun g hg => ?_, fun g hg => ?_, fun hturn => ?_, fun hquiet => ?_, fun k => ?_, ?_, ?_, ?_⟩
  · have hperiod : periodDue s = true := reached_iff.2 hdue
    change execPeriodEnd s = _
    rw [execPeriodEnd, if_pos ⟨hup, hperiod⟩]
  · rw [endPeriod_group, if_pos hg, ← hjudged]
    rfl
  · rw [endPeriod_group, if_neg (by omega)]
  · obtain ⟨g, hg, hne⟩ := hturn
    rw [endPeriod_regs, hturned ⟨g, hg, (hturns g).2 hne⟩]
  · rw [endPeriod_regs, hsame fun g hg => ?_]
    rw [← Bool.not_eq_true, hturns, not_not]
    exact hquiet g hg
  · rw [bank_congr (endPeriod_plan s), hbank, hfull]
    rfl
  · rw [endPeriod_supervision]
    simp only [reached_iff]
  · rw [endPeriod_plan]
    exact PlanStore.eq_of_kept hactive hqueue hbegun
  · exact eq_of_others (endPeriod_others s)

end Sys2Proof.Machine
end

section
/-! PROOFS. ROUTE_WALK: the destination looked up, the context taken, and the walk that is granted, is refused everywhere, or
ends before its seizure request (R5, R22, R62 to R71). -/

namespace Sys2Proof.Machine

/-! ### The destination (R5, R62) -/

/-- The match of a table's entries is the match of the same entries numbered. -/
theorem isLongestMatch_zipIdx {digits : List Nat} {xs : List Dest} {e : Dest} {n : Nat} (hn : xs[n]? = some e)
    (he : IsLongestMatch Dest.code digits xs e) : IsLongestMatch (fun p : Dest × Nat => p.1.code) digits xs.zipIdx (e, n) := by
  obtain ⟨-, hprefix, hlongest⟩ := he
  refine ⟨List.mem_zipIdx_iff_getElem?.2 hn, hprefix, fun p hp => hlongest p.1 ?_⟩
  exact List.mem_of_getElem? (List.mem_zipIdx_iff_getElem?.1 hp)

theorem lookupDest_of_is {b : BankData} {digits : List Nat} {e : Dest} {n : Nat} (hcodes : (b.dests.map Dest.code).Nodup)
    (hn : b.dests[n]? = some e) (he : IsLongestMatch Dest.code (digits.take 12) b.dests e) :
    lookupDest b digits = some (e, n) := by
  refine longestMatch_of_is ?_ (isLongestMatch_zipIdx hn he)
  have hmap : b.dests.zipIdx.map (fun p => p.1.code) = b.dests.map Dest.code := by
    rw [show (fun p : Dest × Nat => p.1.code) = Dest.code ∘ Prod.fst from rfl, ← List.map_map, List.zipIdx_map_fst]
  rwa [hmap]

theorem lookupDest_of_noMatch {b : BankData} {digits : List Nat} (h : NoMatch Dest.code (digits.take 12) b.dests) :
    lookupDest b digits = none :=
  longestMatch_eq_none.2 fun _ hp => h _ (List.mem_of_getElem? (List.mem_zipIdx_iff_getElem?.1 hp))

/-! ### The context (R63, R64) -/

theorem firstFreeFrom_of_first {s : State} {i : Nat} (hi : (s.context i).state = .free)
    (hfirst : ∀ j < i, (s.context j).state ≠ .free) :
    ∀ {fuel k : Nat}, k ≤ i → i < k + fuel → firstFreeFrom s fuel k = some i
  | 0, k, hlow, hhigh => by omega
  | fuel + 1, k, hlow, hhigh => by
    rw [firstFreeFrom]
    by_cases hk : k = i
    · rw [if_pos (hk ▸ hi), hk]
    · have hbelow : k < i := by omega
      rw [if_neg (hfirst k hbelow)]
      exact firstFreeFrom_of_first hi hfirst hbelow (by omega)

theorem firstFree_of_none {s : State} (h : ∀ j < 16384, (s.context j).state ≠ .free) : firstFree s = none := by
  rw [Option.eq_none_iff_forall_ne_some]
  intro i hi
  obtain ⟨hfree, -, hindex⟩ := firstFreeFrom_spec hi
  exact h i (by omega) hfree

/-- The Context Table with context `i` taken for a new call and `left` as the expired list (R63, R64). -/
def takenContexts (s : State) (i : Nat) (left : List Nat) : ContextTable :=
  { s.contexts with
    table := Table.write s.contexts.table Context.reset i
      { generation := nextGeneration (s.context i).generation, state := .free },
    expired := left }

theorem allocate_of_allocates {s : State} {i : Nat} {left : List Nat} (h : Allocates s i left) :
    allocate s = some (i, s.setContexts (takenContexts s i left)) := by
  rcases h with ⟨hindex, hfree, hfirst, rfl⟩ | ⟨hnone, hexpired, hleft⟩
  · have hi : firstFree s = some i := firstFreeFrom_of_first hfree hfirst (Nat.zero_le i) (by omega)
    rw [allocate, hi]
    rfl
  · have hdropped : (i :: left).filter (fun j => decide (j ≠ i)) = left := by
      rw [List.filter_cons_of_neg (by simp), List.filter_eq_self]
      intro j hj
      simp only [ne_eq, decide_eq_true_eq]
      rintro rfl
      exact hleft hj
    rw [allocate, firstFree_of_none hnone]
    simp only [hexpired, dropExpired, hdropped]
    rfl

theorem allocate_of_none {s : State} (hnone : ∀ j < 16384, (s.context j).state ≠ .free) (hexpired : s.contexts.expired = []) :
    allocate s = none := by
  rw [allocate, firstFree_of_none hnone]
  simp only [hexpired]

/-! ### The seizure request does not read the contexts -/

theorem countVerdict_setContexts (g : Nat) (v : Verdict) (x : ContextTable) (s : State) :
    countVerdict g v (s.setContexts x) = (countVerdict g v s).setContexts x := by
  have hcount : ∀ a f, countExamination g a f (s.setContexts x) = (countExamination g a f s).setContexts x := fun a f => by
    simp only [countExamination, apply_ite (State.setContexts · x)]
    rfl
  cases v with
  | admissible => exact hcount 1 0
  | refused1 => rfl
  | refused5 => rfl
  | refused2 => exact hcount 1 1
  | refused3 => exact hcount 1 1
  | refused4 => simp only [countVerdict, hcount]; rfl

theorem grantSeizure_setContexts (g : Nat) (x : ContextTable) (s : State) :
    grantSeizure g (s.setContexts x) = (grantSeizure g s).setContexts x := by
  simp only [grantSeizure, changeOpen, apply_ite (State.setContexts · x)]
  rfl

theorem seize_setContexts (history : List Nat) (cs : List Candidate) (x : ContextTable) (s : State) :
    seize history cs (s.setContexts x) = ((seize history cs s).1, (seize history cs s).2.setContexts x) := by
  induction cs generalizing s with
  | nil => rfl
  | cons c cs ih =>
    have hexamine : examine (s.setContexts x) history c = examine s history c := rfl
    rw [seize, seize, hexamine, countVerdict_setContexts, grantSeizure_setContexts, ih]
    split <;> rfl

/-! ### What a walk leaves alone -/

theorem SameOutsideWalk.trans {s v u : State} (h : SameOutsideWalk s v) (k : SameOutsideWalk v u) : SameOutsideWalk s u := by
  obtain ⟨hsupervision, hclock, hjob, hintake, hmirror, hport, hregs, hpower, hmem, hfailures, hpending, hgroups, hcarriers,
    hbackup, hsums⟩ := h
  obtain ⟨ksupervision, kclock, kjob, kintake, kmirror, kport, kregs, kpower, kmem, kfailures, kpending, kgroups, kcarriers,
    kbackup, ksums⟩ := k
  refine ⟨ksupervision.trans hsupervision, kclock.trans hclock, kjob.trans hjob, kintake.trans hintake, kmirror.trans hmirror,
    kport.trans hport, kregs.trans hregs, kpower.trans hpower, kmem.trans hmem, kfailures.trans hfailures,
    kpending.trans hpending, fun g => (kgroups g).trans (hgroups g), fun k => (kcarriers k).trans (hcarriers k), ?_,
    fun k => (ksums k).trans (hsums k)⟩
  rw [kbackup, hbackup]

theorem sameOutsideWalk_seize (history : List Nat) (cs : List Candidate) (s : State) :
    SameOutsideWalk s (seize history cs s).2 := by
  obtain ⟨hgroups, hcarriers, hsums, hbackup⟩ := seize_leaves_records history cs s
  obtain ⟨-, hsupervision, -, -, hclock, hjob, hintake, hmirror, hport, hregs, hpower, hmem, hfailures, hpending⟩ :=
    seize_keeps history cs s
  exact ⟨hsupervision, hclock, hjob, hintake, hmirror, hport, hregs, hpower, hmem, hfailures, hpending, hgroups, hcarriers,
    hbackup, hsums⟩

/-- The contexts, the plan and the ROUTE may differ. -/
theorem SameOutsideWalk.of_blocks {s v u : State} (h : SameOutsideWalk s v)
    (hu : u = ((v.setContexts u.contexts).setPlan u.plan).setRouteJob u.routeJob) : SameOutsideWalk s u := by
  rw [hu]
  exact h

/-- The destination entry of the bank that a walk changes, put in its place. -/
theorem modify_eq_set {dests : List Dest} {d : Nat} {e : Dest} (h : dests[d]? = some e) (f : Dest → Dest) :
    dests.modify d f = dests.set d (f e) := by
  rw [List.modify_eq_set_getElem?, h]
  rfl

theorem exec_routeWalk_of_admitted {s : State} {slot : Nat} {req : List Byte} {through : Option (List Nat × GapOrigin)}
    (hup : s.up = true) (hjob : s.routeJob = some { slot := slot, request := req, stage := .admitted through }) :
    exec .routeWalk s = .next (walk { slot := slot, request := req, stage := .admitted through } through s) := by
  change execRouteWalk s = _
  rw [execRouteWalk, hjob]
  simp only [hup, if_true]

/-- Settles O18, by what the lookup and the allocation find. -/
theorem walkWithoutRouteOrContext : Obligations.WalkWithoutRouteOrContext := by
  intro s slot req through b hup hjob hcodes
  rw [exec_routeWalk_of_admitted hup hjob]
  refine ⟨fun hnone => ?_, fun e he => ?_⟩
  · rw [walk, lookupDest_of_noMatch hnone]
    rfl
  · obtain ⟨d, hd⟩ := List.getElem?_of_mem he.1
    have hlookup : lookupDest (s.bank s.plan.active) (dialled req) = some (e, d) := lookupDest_of_is hcodes hd he
    refine ⟨fun habsent => ?_, fun hpresent hnone hexpired => ?_⟩
    · have habsent : (s.bank s.plan.active).routeList e.routeList = [] := habsent
      simp only [walk, hlookup, if_pos habsent]
      rfl
    · have hpresent : (s.bank s.plan.active).routeList e.routeList ≠ [] := hpresent
      simp only [walk, hlookup, if_neg hpresent, allocate_of_none hnone hexpired]
      rfl

/-! ### The seizure request of a walk (R65 to R69) -/

/-- The candidates of a ROUTE that the entry `e` of the active bank matches (R65). -/
def walkCandidates (s : State) (e : Dest) : List Candidate :=
  arrange (rankingRate s) e.retained (candidatesOf ((s.bank s.plan.active).routeList e.routeList))

/-- The machine after a walk's seizure request, with the context taken before it. -/
def walked (s : State) (e : Dest) (i : Nat) (left : List Nat) : State :=
  (seize [] (walkCandidates s e) s).2.setContexts (takenContexts s i left)

/-- The ranking rates are not read from the contexts. -/
theorem arrange_taken (s : State) (e : Dest) (x : ContextTable) : arrange (rankingRate (s.setContexts x)) e.retained
    (candidatesOf ((s.bank s.plan.active).routeList e.routeList)) = walkCandidates s e := rfl

section
variable {s : State} {e : Dest} {d i : Nat} {left : List Nat} {job : RouteJob} {through : Option (List Nat × GapOrigin)}
  (hlookup : lookupDest (s.bank s.plan.active) (dialled job.request) = some (e, d))
  (hpresent : (s.bank s.plan.active).routeList e.routeList ≠ []) (htaken : Allocates s i left)

include hlookup hpresent htaken

theorem walk_of_granted {c : Candidate} (hgrant : (seize [] (walkCandidates s e) s).1 = some c) :
    walk job through s = walkGranted job i d c (walked s e i left) := by
  have hseize : seize [] (walkCandidates s e) (s.setContexts (takenContexts s i left)) = (some c, walked s e i left) := by
    rw [seize_setContexts, hgrant]
    rfl
  simp only [walk, hlookup, if_neg hpresent, allocate_of_allocates htaken]
  rw [arrange_taken, hseize]

theorem walk_of_refused (hrefused : (seize [] (walkCandidates s e) s).1 = none) :
    walk job through s = walkRefused job through d e (walked s e i left) := by
  have hseize : seize [] (walkCandidates s e) (s.setContexts (takenContexts s i left)) = (none, walked s e i left) := by
    rw [seize_setContexts, hrefused]
    rfl
  simp only [walk, hlookup, if_neg hpresent, allocate_of_allocates htaken]
  rw [arrange_taken, hseize]

end

end Sys2Proof.Machine
end

section
/-! PROOFS. ROUTE_WALK: the grant and the refusal everywhere (R22, R63, R64, R68 to R71). -/

namespace Sys2Proof.Machine

theorem bit_alternate (k : StepKind) : bit (decide (k ≠ .direct)) = if k = .direct then 0 else 1 := by
  cases k <;> rfl

/-! ### The machine after the seizure request -/

theorem walked_plan (s : State) (e : Dest) (i : Nat) (left : List Nat) : (walked s e i left).plan = s.plan := by
  simp [walked]

theorem walked_now (s : State) (e : Dest) (i : Nat) (left : List Nat) : (walked s e i left).now = s.now := by
  simp [walked, State.now]

theorem walked_epoch (s : State) (e : Dest) (i : Nat) (left : List Nat) :
    (walked s e i left).backup.epoch = s.backup.epoch := by
  obtain ⟨-, -, -, hbackup⟩ := seize_leaves_records [] (walkCandidates s e) s
  change (seize [] (walkCandidates s e) s).2.backup.epoch = _
  rw [hbackup]

/-- What holds of the contexts once a walk has taken one. -/
theorem contexts_of_taken {s u : State} {i : Nat} {left : List Nat} (h : u.contexts = takenContexts s i left) :
    u.context i = { generation := if (s.context i).generation = 255 then 1 else (s.context i).generation + 1, state := .free } ∧
      (∀ j, j ≠ i → u.context j = s.context j) ∧
      u.contexts = { s.contexts with table := u.contexts.table, expired := left } := by
  have hcontext : ∀ j, u.context j = if j = i then { generation := nextGeneration (s.context i).generation, state := .free }
      else s.context j := fun j => by
    rw [State.context, h]
    exact Table.read_write _ _ _ _ _
  refine ⟨?_, fun j hj => by rw [hcontext, if_neg hj], by rw [h]; rfl⟩
  rw [hcontext, if_pos (Eq.refl i), nextGeneration]

/-- What holds of the contexts once one has been put where a walk took it. -/
theorem contexts_of_put_taken {s u : State} {i : Nat} {left : List Nat} {c : Context}
    (h : u.contexts = { takenContexts s i left with table := Table.write (takenContexts s i left).table Context.reset i c }) :
    u.context i = c ∧ (∀ j, j ≠ i → u.context j = s.context j) ∧
      u.contexts = { s.contexts with table := u.contexts.table, expired := left } := by
  refine ⟨by rw [State.context, h, Table.read_write, if_pos rfl], fun j hj => ?_, by rw [h]; rfl⟩
  rw [State.context, h, Table.read_write, if_neg hj]
  exact (Table.read_write _ _ _ _ _).trans (if_neg hj)

/-- A machine with a walk's seizure request made, whose contexts, plan and ROUTE alone have changed besides. -/
theorem sameOutsideWalk_of_walked {s u : State} {e : Dest} {i : Nat} {left : List Nat}
    (hu : u = (((walked s e i left).setContexts u.contexts).setPlan u.plan).setRouteJob u.routeJob) : SameOutsideWalk s u :=
  (sameOutsideWalk_seize [] (walkCandidates s e) s).of_blocks hu

/-! ### The grant (R68) -/

/-- The machine with context `i` made PROVISIONAL on a granted walk's call and its bank told of it (R68). -/
def grantEnded (i dest : Nat) (call : Call) (s : State) : State :=
  (changeDest call.bank dest (fun e => { e with exhaust := 0 }) (changeProvisional call.bank (fun n => n + 1)
    (putContext i { generation := (s.context i).generation, state := .provisional call (deadlineNow s) } s))).setRouteJob none

theorem walkGranted_eq (job : RouteJob) (i dest : Nat) (c : Candidate) (s : State) : walkGranted job i dest c s =
    reply job.slot job.request .ok 0
      (grantFields s i (s.context i).generation (grantedCall s dest (byteAt job.request 9) c))
      (grantEnded i dest (grantedCall s dest (byteAt job.request 9) c) s) := rfl

theorem grantEnded_plan {s : State} {i dest : Nat} {call : Call} {e : Dest} (h : (s.bank call.bank).dests[dest]? = some e) :
    (grantEnded i dest call s).plan = s.plan.setBank call.bank { s.bank call.bank with
      provisional := (s.bank call.bank).provisional + 1, dests := (s.bank call.bank).dests.set dest { e with exhaust := 0 } } := by
  rw [← modify_eq_set (f := fun e : Dest => { e with exhaust := 0 }) h]
  simp [grantEnded, changeDest, changeProvisional, putBank, State.bank]

theorem grantEnded_records (i dest : Nat) (call : Call) (s : State) : (grantEnded i dest call s).groups = s.groups ∧
    (grantEnded i dest call s).carriers = s.carriers ∧ (grantEnded i dest call s).backup = s.backup := ⟨rfl, rfl, rfl⟩

/-- Settles O16, by the seizure request's first admissible candidate. -/
theorem walkGrantsFirstAdmissible : Obligations.WalkGrantsFirstAdmissible := by
  intro s slot req through e d i left pre post c b hup hjob hcodes hd he hpresent htaken hcandidates hpre hc generation
    alternate
  have hcandidates : walkCandidates s e = pre ++ c :: post := hcandidates
  obtain ⟨hgrant, hbusy, hopen⟩ := seize_granted (post := post) hpre hc
  rw [← hcandidates] at hgrant hbusy hopen ⊢
  have hbusy : ∀ g, ((walked s e i left).group g).busy = _ := hbusy
  have hplan := walked_plan s e i left
  have hnow := walked_now s e i left
  have hgeneration : ((walked s e i left).context i).generation = generation :=
    congrArg Context.generation (contexts_of_taken (left := left) rfl).1
  refine ⟨grantEnded i d (grantedCall (walked s e i left) d (byteAt req 9) c) (walked s e i left), ?_, rfl, ?_⟩
  · rw [exec_routeWalk_of_admitted hup hjob, walk_of_granted (lookupDest_of_is hcodes hd he) hpresent htaken hgrant,
      walkGranted_eq, grantFields, hgeneration, walked_epoch, ← bit_alternate]
    rfl
  · obtain ⟨hcontext, hothers, hcontexts⟩ := contexts_of_put_taken (s := s) (i := i) (left := left)
      (u := grantEnded i d (grantedCall (walked s e i left) d (byteAt req 9) c) (walked s e i left)) rfl
    obtain ⟨hgroups, hcarriers, hbackup⟩ :=
      grantEnded_records i d (grantedCall (walked s e i left) d (byteAt req 9) c) (walked s e i left)
    have hgroup := group_congr hgroups
    refine ⟨?_, hothers, hcontexts, ⟨hgroups, hcarriers, hbackup⟩, ?_, fun g hg => ?_, hopen, ?_,
      sameOutsideWalk_of_walked (e := e) (i := i) (left := left) rfl⟩
    · rw [hcontext, hgeneration, deadlineNow, grantedCall, hplan, hnow]
      rfl
    · rw [hgroup, hbusy, if_pos (Eq.refl c.group)]
    · rw [hgroup, hbusy, if_neg hg, Nat.add_zero]
    · have hbank : (walked s e i left).bank s.plan.active = b := bank_congr hplan _
      have hcall : (grantedCall (walked s e i left) d (byteAt req 9) c).bank = s.plan.active := congrArg PlanStore.active hplan
      rw [grantEnded_plan (by rw [hcall, hbank]; exact hd), hcall, hbank, hplan]

/-! ### The refusal everywhere (R69, R70) -/

/-- The machine with a refused walk's exhaust count noted (R69). -/
def exhaustNoted (dest m : Nat) (s : State) : State := changeDest s.plan.active dest (fun e => { e with exhaust := m }) s

theorem exhaustNoted_plan {s : State} {dest m : Nat} {e : Dest} (h : (s.bank s.plan.active).dests[dest]? = some e) :
    (exhaustNoted dest m s).plan = s.plan.setBank s.plan.active { s.bank s.plan.active with
      dests := (s.bank s.plan.active).dests.set dest { e with exhaust := m } } := by
  rw [← modify_eq_set (f := fun e : Dest => { e with exhaust := m }) h]
  rfl

/-- The code that a refused walk's renewal names. -/
theorem renewal_eq (through : Option (List Nat × GapOrigin)) :
    (match through with
      | some (code, .automatic) => some code
      | _ => none) = through.bind (fun p => if p.2 = .automatic then some p.1 else none) := by
  rcases through with _ | ⟨code, _ | _⟩ <;> rfl

theorem walkRefused_eq (job : RouteJob) (through : Option (List Nat × GapOrigin)) (dest : Nat) (e : Dest) (s : State) :
    walkRefused job through dest e s =
      (let renew := through.bind (fun p => if p.2 = .automatic then some p.1 else none)
       let install := if e.exhaust < 15 ∧ e.exhaust + 1 = s.supervision.threshold then some e.code else none
       let answer := answerHalf .allBusy job.request 0 [⟨72, 1, min 15 (e.exhaust + 1)⟩]
       let u := exhaustNoted dest (min 15 (e.exhaust + 1)) s
       if renew = none ∧ install = none then formAnswer job.slot job.request answer (u.setRouteJob none)
       else u.setRouteJob (some { job with stage := .walked renew install answer })) := by
  rw [← renewal_eq]
  rfl

/-- A rise of the exhaust count that reaches a nonzero threshold is one below 15 that makes it the threshold. -/
theorem reaches_threshold_iff {n t : Nat} : (n < 15 ∧ min 15 (n + 1) = t ∧ t ≠ 0) ↔ n < 15 ∧ n + 1 = t := by omega

theorem exhaustNoted_records (dest m : Nat) (s : State) : (exhaustNoted dest m s).groups = s.groups ∧
    (exhaustNoted dest m s).carriers = s.carriers ∧ (exhaustNoted dest m s).backup = s.backup ∧
    (exhaustNoted dest m s).contexts = s.contexts ∧ (exhaustNoted dest m s).routeJob = s.routeJob := ⟨rfl, rfl, rfl, rfl, rfl⟩

/-- Settles O17, by whether the walk has reports to make. -/
theorem refusedWalkCountsExhaustion : Obligations.RefusedWalkCountsExhaustion := by
  intro s slot req through e d i left b hup hjob hcodes hd he hpresent htaken hnone exhaust renew install answer
  obtain ⟨hrefused, hbusy, hopen⟩ := seize_refused (cs := walkCandidates s e) hnone
  have hbusy : ∀ g, ((walked s e i left).group g).busy = _ := hbusy
  have hplan := walked_plan s e i left
  have hthreshold : (walked s e i left).supervision.threshold = s.supervision.threshold := by simp [walked]
  let u := (exhaustNoted d exhaust (walked s e i left)).setRouteJob (if renew = none ∧ install = none then none else s.routeJob)
  obtain ⟨hgroups, hcarriers, hbackup, hcontexts, -⟩ := exhaustNoted_records d exhaust (walked s e i left)
  refine ⟨u, ?_, rfl, ?_⟩
  · rw [exec_routeWalk_of_admitted hup hjob, walk_of_refused (lookupDest_of_is hcodes hd he) hpresent htaken hrefused,
      walkRefused_eq, hthreshold]
    have hinstall : (if e.exhaust < 15 ∧ e.exhaust + 1 = s.supervision.threshold then some e.code else none) = install :=
      if_congr reaches_threshold_iff.symm rfl rfl
    dsimp only
    rw [hinstall]
    by_cases hreports : renew = none ∧ install = none
    · rw [if_pos hreports, if_pos hreports]
      simp only [u, if_pos hreports]
      rfl
    · rw [if_neg hreports, if_neg hreports]
      rfl
  · obtain ⟨hcontext, hothers, hcontexts⟩ := contexts_of_taken (u := u) (s := s) (i := i) (left := left) hcontexts
    refine ⟨hcontext, hothers, hcontexts, ⟨hgroups, hcarriers⟩, fun g => ?_, hopen, ?_,
      sameOutsideWalk_of_walked (e := e) (i := i) (left := left) rfl⟩
    · rw [← hbusy]
      exact congrArg Group.busy (group_congr hgroups g)
    · have hbank : (walked s e i left).bank s.plan.active = b := bank_congr hplan _
      have hactive : (walked s e i left).plan.active = s.plan.active := congrArg PlanStore.active hplan
      change (exhaustNoted d exhaust (walked s e i left)).plan = _
      rw [exhaustNoted_plan (by rw [hactive, hbank]; exact hd), hactive, hbank, hplan]

end Sys2Proof.Machine
end

section
/-! PROOFS. CRANKBACK on a PROVISIONAL call: the seizure returned, the move to a later candidate, and the end of the call (R8, R21,
R30, R72 to R76). -/

namespace Sys2Proof.Machine

/-- The machine with a call's seizure returned and its own retained alternate made empty (R73). -/
def returned (call : Call) (s : State) : State := clearOwnRetained call (returnSeizure call.group s)

theorem returned_eq (call : Call) (s : State) : returned call s =
    (returnSeizure call.group s).setPlan (s.plan.setBank call.bank { s.bank call.bank with
      dests := (s.bank call.bank).dests.modify call.dest
        (fun e => if e.retained = some call.group then { e with retained := none } else e) }) := by
  have hplan : (returnSeizure call.group s).plan = s.plan := by simp
  rw [returned, clearOwnRetained, changeDest, putBank, State.bank, hplan]
  rfl

theorem returned_group (call : Call) (s : State) (g : Nat) : (returned call s).group g =
    if g = call.group then { s.group g with busy := (s.group g).busy - 1 } else s.group g := by
  obtain ⟨⟨hsame, hothers, -⟩, -⟩ := returnSeizure_spec call.group s
  have hgroup : (returned call s).group g = (returnSeizure call.group s).group g := rfl
  rw [hgroup]
  split
  next h => rw [h, hsame]
  next h => exact hothers g h

theorem sameOutsideWalk_returnSeizure (g : Nat) (s : State) : SameOutsideWalk s (returnSeizure g s) := by
  obtain ⟨⟨hsame, hothers, -⟩, hsums, hbackup⟩ := returnSeizure_spec g s
  obtain ⟨-, hsupervision, -, -, hclock, hcarriers, hjob, hintake, hmirror, hport, hregs, hpower, hmem, hfailures, hpending⟩ :=
    returnSeizure_keeps g s
  refine ⟨hsupervision, hclock, hjob, hintake, hmirror, hport, hregs, hpower, hmem, hfailures, hpending, fun k => ?_, fun k => ?_,
    hbackup, hsums⟩
  · by_cases hk : k = g
    · rw [hk, hsame]
      exact .rfl
    · rw [hothers k hk]
      exact .rfl
  · rw [State.carrier, hcarriers]
    exact .rfl

theorem sameOutsideWalk_returned (call : Call) (s : State) : SameOutsideWalk s (returned call s) :=
  (sameOutsideWalk_returnSeizure call.group s).of_blocks rfl

/-- The machine after the seizure request of a resumed walk (R73, R74). -/
def resumed (call : Call) (s : State) : State :=
  (seize call.history (resumedCandidates (returned call s) call) (returned call s)).2

theorem sameOutsideWalk_resumed (call : Call) (s : State) : SameOutsideWalk s (resumed call s) :=
  (sameOutsideWalk_returned call s).trans (sameOutsideWalk_seize _ _ _)

/-- The blocks that a resumed walk's seizure request does not change besides. -/
theorem resumed_keeps (call : Call) (s : State) : (resumed call s).plan = (returned call s).plan ∧
    (resumed call s).contexts = s.contexts ∧ (resumed call s).routeJob = s.routeJob := by
  simp [resumed, returned]

/-- The machine with context `i` made PROVISIONAL on its call moved to a later candidate (R75). -/
def moved (i : Nat) (call : Call) (s : State) : State :=
  putContext i { generation := (s.context i).generation, state := .provisional call (deadlineNow s) } s

section
variable {s : State} {call : Call} (slot : Nat) (req : List Byte) (i : Nat)

theorem crankContinue_of_exhausted (htried : 4 ≤ call.history.length) :
    crankContinue slot req i call s = reply slot req .exhausted 0 [] (endCall i call (returned call s)) :=
  if_pos htried

theorem crankContinue_of_refused (hroom : call.history.length < 4)
    (hrefused : (seize call.history (resumedCandidates (returned call s) call) (returned call s)).1 = none) :
    crankContinue slot req i call s =
      reply slot req .allBusy 0 [⟨72, 1, call.history.length⟩] (endCall i call (resumed call s)) := by
  have hseize : seize call.history (resumedCandidates (returned call s) call) (returned call s) = (none, resumed call s) :=
    Prod.ext hrefused rfl
  rw [returned] at hseize
  simp only [crankContinue, if_neg (not_le.2 hroom), hseize]

theorem crankContinue_of_granted {c : Candidate} (hroom : call.history.length < 4)
    (hgrant : (seize call.history (resumedCandidates (returned call s) call) (returned call s)).1 = some c) :
    crankContinue slot req i call s =
      reply slot req .ok 0 (grantFields (resumed call s) i ((resumed call s).context i).generation (call.movedTo c))
        (moved i (call.movedTo c) (resumed call s)) := by
  have hseize : seize call.history (resumedCandidates (returned call s) call) (returned call s) = (some c, resumed call s) :=
    Prod.ext hgrant rfl
  rw [returned] at hseize
  simp only [crankContinue, if_neg (not_le.2 hroom), hseize]
  rfl

end

theorem exec_crankback_of_provisional {s : State} {slot i generation : Nat} {req : List Byte} {call : Call} {deadline : Tick}
    (hserved : served .crankback s = some (slot, req)) (hclear : reservedClear .crankback req = true)
    (hnames : Names s req i { generation := generation, state := .provisional call deadline }) :
    exec .crankback s = .next (crankContinue slot req i call s) := by
  change execCrankback s = _
  rw [execCrankback, serve_of_served hserved, callRequest_of_names hclear hnames (by simp)]
  rfl

theorem moved_records (i : Nat) (call : Call) (s : State) : (moved i call s).groups = s.groups ∧
    (moved i call s).carriers = s.carriers ∧ (moved i call s).backup = s.backup ∧ (moved i call s).plan = s.plan ∧
    (moved i call s).routeJob = s.routeJob := ⟨rfl, rfl, rfl, rfl, rfl⟩

theorem returned_owner (call : Call) (s : State) (g : Nat) : ((returned call s).group g).owner = (s.group g).owner := by
  rw [returned_group]
  split <;> rfl

/-- The busy count that a returned seizure and a later grant leave. -/
theorem returned_busy (call : Call) (s : State) (g : Nat) :
    ((returned call s).group g).busy + (if g = call.group ∧ 0 < (s.group g).busy then 1 else 0) = (s.group g).busy := by
  rw [returned_group]
  by_cases hg : g = call.group
  · rw [if_pos hg]
    dsimp only
    split <;> omega
  · rw [if_neg hg, if_neg fun h => hg h.1, Nat.add_zero]

theorem moved_contexts {s v : State} {i generation : Nat} {call later : Call} {deadline : Tick}
    (hcontexts : v.contexts = s.contexts) (hclock : v.clock = s.clock)
    (hcontext : v.context i = { generation := generation, state := .provisional call deadline }) :
    (moved i later v).contexts = { s.contexts with
      table := Table.write s.contexts.table Context.reset i
        { generation := generation, state := .provisional later (s.now + BitVec.ofNat 32 s.contexts.window) } } := by
  rw [moved, hcontext, putContext, deadlineNow, State.now, hcontexts, hclock]
  rfl

/-- Settles O25, by the resumed walk's first admissible candidate. -/
theorem crankbackMovesTheCall : Obligations.CrankbackMovesTheCall := by
  intro s slot req i generation call deadline pre post c hserved hclear hnames hroom b dests after hcandidates hpre hc
  have hafter : after = returned call s := (returned_eq call s).symm
  clear_value after
  subst hafter
  obtain ⟨hgrant, hbusy, hopen⟩ := seize_granted (post := post) hpre hc
  rw [← hcandidates] at hgrant hbusy hopen ⊢
  obtain ⟨hplan, hcontexts, hjob⟩ := resumed_keeps call s
  have hsame := sameOutsideWalk_resumed call s
  obtain ⟨-, hclock, -, -, -, -, -, -, -, -, -, -, -, hbackup, -⟩ := id hsame
  have hcontext : (resumed call s).context i = { generation := generation, state := .provisional call deadline } :=
    (context_congr (congrArg ContextTable.table hcontexts) i).trans hnames.2.2.2.2
  obtain ⟨hgroups, hcarriers, hsettlements, hbanks, hroute⟩ := moved_records i (call.movedTo c) (resumed call s)
  refine ⟨moved i (call.movedTo c) (resumed call s), ?_, ?_⟩
  · rw [exec_crankback_of_provisional hserved hclear hnames, crankContinue_of_granted slot req i hroom hgrant, hcontext,
      grantFields, hbackup, Call.movedTo, bit_alternate, List.length_append]
    rfl
  · refine and_assoc.1 ⟨sameOtherContexts_of_put (moved_contexts hcontexts hclock hcontext), hbanks.trans hplan,
      ⟨hgroups, hcarriers, hsettlements⟩, fun g => ?_, fun k => ?_, hroute.trans hjob, hsame.of_blocks rfl⟩
    · have hgroup := congrArg Group.busy (group_congr hgroups g)
      have hreturned := returned_busy call s g
      have hresumed : ((resumed call s).group g).busy = _ := hbusy g
      omega
    · rw [← returned_owner call s]
      exact hopen k

theorem endCall_plan (i : Nat) {call : Call} {s v : State} (hplan : v.plan = (returned call s).plan) :
    (endCall i call v).plan = s.plan.setBank call.bank { s.bank call.bank with
      dests := (s.bank call.bank).dests.modify call.dest
        (fun e => if e.retained = some call.group then { e with retained := none } else e),
      provisional := (s.bank call.bank).provisional - 1 } := by
  have hbank : (endCall i call v).plan = v.plan.setBank call.bank
    { v.plan.bank call.bank with provisional := (v.plan.bank call.bank).provisional - 1 } := rfl
  rw [hbank, hplan, returned_eq, State.setPlan_plan, setBank_setBank]
  simp [State.bank]

/-- A call that ends leaves its context FREE with its generation, and nothing else of the contexts changed. -/
theorem endCall_contexts {call : Call} {s v : State} {i generation : Nat} {x : CallState} (hcontexts : v.contexts = s.contexts)
    (hi : s.context i = { generation := generation, state := x }) :
    (endCall i call v).context i = { generation := generation, state := .free } ∧ SameOtherContexts s (endCall i call v) i := by
  have hcontext : v.context i = s.context i := context_congr (congrArg ContextTable.table hcontexts) i
  refine sameOtherContexts_of_put ?_
  have hput : (endCall i call v).contexts = { v.contexts with
    table := Table.write v.contexts.table Context.reset i { generation := (v.context i).generation, state := .free } } := rfl
  rw [hput, hcontext, hi, hcontexts]

theorem endCall_records (i : Nat) (call : Call) (v : State) : (endCall i call v).groups = v.groups ∧
    (endCall i call v).carriers = v.carriers ∧ (endCall i call v).routeJob = v.routeJob := ⟨rfl, rfl, rfl⟩

/-- Settles O26, by whether four groups were tried. -/
theorem crankbackEndsTheCall : Obligations.CrankbackEndsTheCall := by
  intro s slot req i generation call deadline hserved hclear hnames b dests after hend
  have hafter : after = returned call s := (returned_eq call s).symm
  clear_value after
  subst hafter
  have hi := hnames.2.2.2.2
  rw [exec_crankback_of_provisional hserved hclear hnames]
  by_cases htried : 4 ≤ call.history.length
  · obtain ⟨hgroups, hcarriers, hjob⟩ := endCall_records i call (returned call s)
    obtain ⟨hcontext, hothers⟩ := endCall_contexts (call := call) (v := returned call s) (by simp [returned]) hi
    refine ⟨endCall i call (returned call s), ?_, hcontext, hothers, endCall_plan i rfl, fun g => ?_, fun _ => rfl, fun hroom => ?_,
      fun _ => ⟨hgroups, hcarriers.trans ?_⟩, hjob.trans ?_, (sameOutsideWalk_returned call s).of_blocks rfl⟩
    · rw [if_pos htried, crankContinue_of_exhausted slot req i htried]
    · rw [group_congr hgroups]
    · omega
    · simp [returned]
    · simp [returned]
  · have hroom : call.history.length < 4 := not_le.1 htried
    have hnone := hend.resolve_left htried
    obtain ⟨hrefused, hbusy, hopen⟩ := seize_refused hnone
    obtain ⟨hgroups, hcarriers, hjob⟩ := endCall_records i call (resumed call s)
    obtain ⟨hbanks, hcontexts, hroute⟩ := resumed_keeps call s
    obtain ⟨hcontext, hothers⟩ := endCall_contexts (call := call) hcontexts hi
    refine ⟨endCall i call (resumed call s), ?_, hcontext, hothers, endCall_plan i hbanks, fun g => ?_, hopen,
      fun _ => ⟨hgroups, hcarriers⟩, fun h => absurd h htried, hjob.trans hroute, (sameOutsideWalk_resumed call s).of_blocks rfl⟩
    · rw [if_neg htried, crankContinue_of_refused slot req i hroom hrefused]
    · rw [group_congr hgroups]
      exact hbusy g

end Sys2Proof.Machine
end

section
/-! PROOFS. Bus errors: what reaches host memory of a failed burst, the fault that one in the exchange area enters, and the MEMORY
answer of a block's (R11, R123, R151, R153, R162 to R164, R172, R173). -/

namespace Sys2Proof.Machine

/-- The machine once the failed burst has ended, before its transfer's requester is told (R173). -/
def failedBurst (r : Requester) (t : Transfer) (ts : List Transfer) (beat : Nat) (s : State) : State :=
  setTransfers r ts (storeFailed t beat s)

/-- A bus error on the burst that the port carries fails its transfer (R173). -/
theorem exec_busError {s : State} {r : Requester} {t : Transfer} {ts : List Transfer} {beat : Nat}
    (hserving : s.port.serving = some r) (hqueue : s.port.queue r = t :: ts) (hbeat : beat < 16)
    (hfits : beat < beatCount t.addr.toNat t.burstLength) : exec (.memoryBurstDone (.busError beat)) s =
      .next (serveNext r (transferFailed t.purpose (failedBurst r t ts beat s))) := by
  have hcarried : carried s = some (r, t, ts) := by simp [carried, hserving, hqueue]
  have hwell : (Instr.memoryBurstDone (.busError beat)).wellFormed = true := decide_eq_true hbeat
  have hreply : replyFits t (.busError beat) = true := decide_eq_true hfits
  rw [exec_memoryBurstDone_of_carried hwell hcarried, if_pos hreply]
  rfl

/-! ### What is stored -/

theorem burstLength_le_left (t : Transfer) : t.burstLength ≤ t.left := by
  unfold Transfer.burstLength
  split
  · exact Nat.min_le_left _ _
  · exact Nat.zero_le _

theorem bytesBefore_le (a n beats : Nat) : bytesBefore a n beats ≤ n := by
  unfold bytesBefore
  split
  · exact Nat.zero_le n
  · exact Nat.min_le_left _ _

theorem byte_store_take {m : List Host.Cell} {a : Word} {bs : List Byte} {n i : Nat} (hi : i < n) (hn : n ≤ bs.length)
    (hsmall : n ≤ 128) : Memory.byte (Memory.store m a (bs.take n)) (a + BitVec.ofNat 32 i).toNat = bs[i]? := by
  have hlength : (bs.take n).length = n := List.length_take_of_le hn
  rw [Memory.byte_store_inside _ _ _ i (by omega) (by omega), List.getElem_take, List.getElem?_eq_getElem (by omega)]

theorem storeFailed_failures (t : Transfer) (beat : Nat) (s : State) :
    (storeFailed t beat s).failures = if t.write then s.failures + 1 else s.failures := by
  cases hwrite : t.write with
  | false => rw [storeFailed_read hwrite]; rfl
  | true =>
    obtain ⟨_, -, -, -, hstored⟩ := storeFailed_write (beat := beat) (s := s) hwrite
    rw [hstored]
    rfl

/-- A failed burst changes host memory and the count of failed writes alone. -/
theorem storeFailed_eq (t : Transfer) (beat : Nat) (s : State) :
    storeFailed t beat s = (s.setMem (storeFailed t beat s).mem).setFailures (storeFailed t beat s).failures := by
  cases hwrite : t.write with
  | false => rw [storeFailed_read hwrite]; rfl
  | true =>
    obtain ⟨_, -, -, -, hstored⟩ := storeFailed_write (beat := beat) (s := s) hwrite
    rw [hstored]
    rfl

/-! ### The fault (R162, R164, R170, R172) -/

/-- The kind and slot of the fault that a failed transfer of the exchange area enters, none for a
block's transfer; `swept` is the slot of the sweep. -/
def faultOf (swept : Nat) : Purpose → Option (FaultKind × Nat)
  | .strip first => some (.strip, first)
  | .taken slot => some (.strip, slot)
  | .requestHalf slot => some (.body, slot)
  | .answerHalf slot => some (.answer, slot)
  | .answered slot => some (.answer, slot)
  | .sweepStrip => some (.strip, swept)
  | .sweepHeader => some (.body, swept)
  | .sweepAnswer => some (.answer, swept)
  | .sweepAnswered => some (.answer, swept)
  | .mirrorOpen => some (.mirror, 0)
  | .mirrorBody => some (.mirror, 0)
  | .mirrorClose => some (.mirror, 0)
  | .loadBlock => none
  | .tariffBlock => none
  | .resultBlock => none

/-- The slot whose own taking a transfer belongs to (R159). -/
def takenSlot : Purpose → Option Nat
  | .taken slot => some slot
  | .requestHalf slot => some slot
  | _ => none

theorem transferFailed_of_fault {s : State} {p : Purpose} {kind : FaultKind} {slot : Nat}
    (h : faultOf s.intake.sweep.next p = some (kind, slot)) : transferFailed p s = enterFault kind slot (takenSlot p) s := by
  cases p
  case loadBlock | tariffBlock | resultBlock => simp [faultOf] at h
  all_goals
    obtain ⟨rfl, rfl⟩ := Prod.mk.inj (Option.some.inj h)
    rfl

theorem raiseBit_fault (s : State) : raiseBit .fault s =
    s.setRegs { s.regs with fault := true, attnLine := s.regs.attnLine || !s.regs.fault } := by
  have hbit : s.regs.attention .fault = s.regs.fault := rfl
  rw [raiseBit, hbit]
  cases hfault : s.regs.fault with
  | false => simp [Regs.setAttention]
  | true =>
    rw [if_pos rfl, Bool.not_true, Bool.or_false, ← hfault]
    rfl

/-- The registers, the Intake Unit, the port and the Mirror Writer as a fault leaves them; nothing else changes. -/
theorem enterFault_eq (kind : FaultKind) (slot : Nat) (failed : Option Nat) (s : State) : enterFault kind slot failed s =
    (((s.setRegs { s.regs with
      run := false, engine := .faulted, faultKind := kind, faultSlot := slot, fault := true,
      attnLine := s.regs.attnLine || !s.regs.fault }).setIntake { s.intake with
      pass := none, resume := s.intake.faultResume failed, rescan := false, passDue := false, timer := none, recovery := none,
      writing := false, sweep := { s.intake.sweep with active := false, codes := [] } }).setPort
      { s.port with intake := [], mirror := [] }).setMirror
      (if s.mirror.marks = none then s.mirror else { generation := toEven s.mirror.generation, marks := none }) := by
  rw [enterFault, raiseBit_fault]
  cases hmarks : s.mirror.marks with
  | none =>
    simp only [State.setPort_mirror, State.setIntake_mirror, State.setRegs_mirror, hmarks, if_true]
    rfl
  | some marks =>
    simp only [State.setPort_mirror, State.setIntake_mirror, State.setRegs_mirror, hmarks]
    rfl

theorem toEven_eq (g : Tick) : toEven g = if g.toNat % 2 = 1 then g + 1#32 else g := by
  have hodd : g.getLsbD 0 = decide (g.toNat % 2 = 1) := by simp [BitVec.getLsbD]
  rw [toEven, hodd]
  simp only [decide_eq_true_eq]

/-- A port that serves its next requester asks for nothing: a queue that is empty stays so. -/
theorem Port.serve_empty (b : Nat) {p : Port} {r : Requester} (h : p.queue r = []) : (p.serve b).queue r = [] := by
  unfold Port.serve
  split
  next q hnext =>
    split
    next t ts hq =>
      have hne : r ≠ q := by
        rintro rfl
        simp [h] at hq
      cases r <;> cases q <;> simp_all [Port.queue, Port.setQueue]
    next => cases r <;> exact h
  next => cases r <;> exact h

/-- What a fault and the port's next service leave: the latter asks for no transfer of the exchange area. -/
theorem serveNext_enterFault {u v : State} {r : Requester} {kind : FaultKind} {slot : Nat} {failed : Option Nat}
    (hu : u = serveNext r (enterFault kind slot failed v)) :
    u.regs = { v.regs with
      run := false, engine := .faulted, faultKind := kind, faultSlot := slot, fault := true,
      attnLine := v.regs.attnLine || !v.regs.fault } ∧
    u.intake = { v.intake with
      pass := none, resume := v.intake.faultResume failed, rescan := false, passDue := false, timer := none, recovery := none,
      writing := false, sweep := { v.intake.sweep with active := false, codes := [] } } ∧
    u.mirror = (if v.mirror.marks = none then v.mirror else { generation := toEven v.mirror.generation, marks := none }) ∧
    u.port.intake = [] ∧ u.port.mirror = [] := by
  rw [hu, enterFault_eq]
  exact ⟨rfl, rfl, rfl, Port.serve_empty (r := .intake) _ rfl, Port.serve_empty (r := .mirror) _ rfl⟩

theorem faultResume_of_strip {k : Intake} {p : Pass} (hpass : k.pass = some p) (hleft : p.left ≠ 0) :
    k.faultResume none = p.next := by
  rw [Intake.faultResume, hpass]
  have hstop : p.stopPoint = p.next := if_neg hleft
  cases htaking : p.taking <;> simp [htaking, hstop]

theorem faultResume_of_taken {k : Intake} {p : Pass} {slot : Nat} (hpass : k.pass = some p) (htaking : p.taking = some slot) :
    k.faultResume (some slot) = p.next := by
  rw [Intake.faultResume, hpass]
  simp [htaking]

section
variable {s : State} {r : Requester} {t : Transfer} {ts : List Transfer} {beat : Nat}

theorem failedBurst_keeps : (failedBurst r t ts beat s).plan = s.plan ∧ (failedBurst r t ts beat s).groups = s.groups ∧
    (failedBurst r t ts beat s).contexts = s.contexts ∧ (failedBurst r t ts beat s).carriers = s.carriers ∧
    (failedBurst r t ts beat s).backup = s.backup ∧ (failedBurst r t ts beat s).intake = s.intake ∧
    (failedBurst r t ts beat s).mirror = s.mirror ∧ (failedBurst r t ts beat s).regs = s.regs ∧
    (failedBurst r t ts beat s).carrierJob = s.carrierJob := by
  simp [failedBurst]

/-- A failed write stores whole beats of its burst, in the bytes' order from its address on. -/
theorem mem_of_failed_write (hwrite : t.write = true) (hdata : t.data.length = t.left) (hburst : t.burstLength ≤ 128) :
    ∃ beats, (beats = beat ∨ beats = beat + 1) ∧ (t.purpose = .mirrorOpen → beats = beat + 1) ∧
      (t.purpose = .mirrorClose → beats = beat) ∧
      (∀ i < bytesBefore t.addr.toNat t.burstLength beats,
        Memory.byte (storeFailed t beat s).mem (t.addr + BitVec.ofNat 32 i).toNat = t.data[i]?) ∧
      ∀ a, (∀ i < bytesBefore t.addr.toNat t.burstLength beats, (t.addr + BitVec.ofNat 32 i).toNat ≠ a) →
        Memory.byte (storeFailed t beat s).mem a = Memory.byte s.mem a := by
  obtain ⟨beats, hbeats, hopen, hclose, hstored⟩ := storeFailed_write (beat := beat) (s := s) hwrite
  have hlength := burstLength_le_left t
  have hbytes := bytesBefore_le t.addr.toNat t.burstLength beats
  refine ⟨beats, hbeats, hopen, hclose, fun i hi => ?_, fun a ha => ?_⟩
  · rw [hstored]
    exact byte_store_take hi (by omega) (by omega)
  · rw [hstored]
    refine Memory.byte_store_outside _ _ _ _ fun i hi => ha i ?_
    rw [List.length_take] at hi
    omega

end

/-! ### A block's failure (R11, R123, R151) -/

theorem transferFailed_loadBlock {s : State} {l : Load} {rest : List Load} (hq : s.plan.queue = l :: rest) :
    transferFailed .loadBlock s =
      reply l.slot l.request .memory 0 [] (s.setPlan { s.plan with queue := rest, headBegun := false }) := by
  rw [← finishLoad_of_queue hq, transferFailed, loadBlockFailed, hq]

theorem transferFailed_tariffBlock {s : State} {slot : Nat} {req : List Byte} (hj : s.carrierJob = some (.tariff slot req)) :
    transferFailed .tariffBlock s = reply slot req .memory 0 [] (s.setCarrierJob none) := by
  rw [transferFailed, tariffBlockFailed, hj]

theorem transferFailed_resultBlock {s : State} {slot : Nat} {req : List Byte} {tick : Tick}
    (hj : s.carrierJob = some (.close slot req tick)) :
    transferFailed .resultBlock s = reply slot req .memory 0 [] ((restoreClose s).setCarrierJob none) := by
  rw [transferFailed, resultFailed, hj]

/-- Settles O60, by the purpose of the failed transfer. -/
theorem busErrorsFaultTheEngine : Obligations.BusErrorsFaultTheEngine := by
  intro s r t ts beat hserving hqueue hbeat hfits expected stored
  have hexpected : expected = faultOf s.intake.sweep.next t.purpose := by
    simp only [expected]
    cases t.purpose <;> rfl
  have hstored : ∀ beats, stored beats = bytesBefore t.addr.toNat t.burstLength beats := fun _ => rfl
  obtain ⟨hplan, hgroups, hcontexts, hcarriers, hbackup, hintake, hmirror, hregs, hjob⟩ :=
    failedBurst_keeps (s := s) (r := r) (t := t) (ts := ts) (beat := beat)
  have hexec := exec_busError hserving hqueue hbeat hfits
  clear_value expected stored
  subst hexpected
  let u := serveNext r (transferFailed t.purpose (failedBurst r t ts beat s))
  have hmem : u.mem = (storeFailed t beat s).mem := by simp [u, failedBurst]
  have hfailures : u.failures = (storeFailed t beat s).failures := by simp [u, failedBurst]
  have hburst : failedBurst r t ts beat s = setTransfers r ts ((s.setMem u.mem).setFailures u.failures) := by
    rw [hmem, hfailures, ← storeFailed_eq]
    rfl
  refine ⟨u, hexec, fun hread => ?_, fun hwrite hdata hlength => ?_, ?_, fun kind slot hfault => ?_, fun l rest hp hr hq => ?_,
    fun slot req hp hr hj => ?_, fun slot req tick hp hr hj => ?_⟩
  · rw [hmem, storeFailed_read hread]
  · obtain ⟨beats, hbeats, hopen, hclose, hinside, houtside⟩ := mem_of_failed_write (beat := beat) (s := s) hwrite hdata hlength
    rw [hmem]
    refine ⟨stored beats, hbeats.imp (congrArg _) (congrArg _), fun hp => congrArg _ (hopen hp),
      fun hp => congrArg _ (hclose hp), ?_, ?_⟩
    · rw [hstored]; exact hinside
    · rw [hstored]; exact houtside
  · rw [hfailures, storeFailed_failures]
  · rw [← hintake] at hfault
    have hu : u = serveNext r (enterFault kind slot (takenSlot t.purpose) (failedBurst r t ts beat s)) := by
      rw [← transferFailed_of_fault hfault]
    obtain ⟨uregs, uintake, umirror, uport, uslots⟩ := serveNext_enterFault hu
    rw [hregs] at uregs
    rw [hintake] at uintake
    rw [hmirror, toEven_eq] at umirror
    refine ⟨uregs, uport, uslots, by rw [uintake], by rw [uintake], by rw [uintake], by rw [uintake], by rw [uintake],
      by rw [uintake], by rw [uintake], by rw [uintake], umirror, fun p first hp hpass hleft => ?_, fun p n hp hpass htaking => ?_,
      ?_, ?_, ?_, ?_, ?_⟩
    · rw [uintake, hp]
      exact faultResume_of_strip hpass hleft
    · rw [uintake]
      rcases hp with hp | hp <;> rw [hp] <;> exact faultResume_of_taken hpass htaking
    · rw [hu]; simp [hgroups]
    · rw [hu]; simp [hcontexts]
    · rw [hu]; simp [hbackup]
    · rw [hu]; simp [hplan]
    · rw [hu]; simp [hcarriers]
  · subst hr
    rw [hexec, hp, transferFailed_loadBlock (by rw [hplan]; exact hq), hplan, hburst]
  · subst hr
    rw [hexec, hp, transferFailed_tariffBlock (by rw [hjob]; exact hj), hburst]
  · subst hr
    rw [hexec, hp, transferFailed_resultBlock (by rw [hjob]; exact hj), hburst]

end Sys2Proof.Machine
end

section
/-! PROOFS. Every step keeps every group's record in its ranges, and its busy count within the 16,384 contexts (R23, R30, R33,
R36, R37, R42, R80). -/

namespace Sys2Proof.Machine

/-! ### One group's record -/

/-- A busy count has no range of its own in a group's record. -/
theorem Group.Legal.withBusy {r : Group} (h : r.Legal) (n : Nat) : ({ r with busy := n } : Group).Legal := h

theorem Group.Legal.withAttempts {r : Group} (h : r.Legal) {a f : Nat} (hfa : f ≤ a) :
    ({ r with attempts := addSat top32 r.attempts a, refusals := addSat top32 r.refusals f } : Group).Legal := by
  simp only [Group.Legal, addSat] at h ⊢
  omega

theorem Group.Legal.withHeld {r : Group} (h : r.Legal) {a f : Nat} (hfa : f ≤ a) :
    ({ r with heldA := addSat top32 r.heldA a, heldF := addSat top32 r.heldF f } : Group).Legal := by
  simp only [Group.Legal, addSat] at h ⊢
  omega

/-- A sample is the part of a whole of 1,000 (R44). -/
theorem sample_le (r : Group) : sample r ≤ 1000 := by
  unfold sample
  split
  · exact le_rfl
  · exact Nat.div_le_of_le_mul (by rw [Nat.mul_comm]; exact Nat.mul_le_mul_right _ (Nat.min_le_right _ _))

theorem smooth_le {o n : Nat} (ho : o ≤ 1000) (hn : n ≤ 1000) : smooth o n ≤ 1000 := by
  unfold smooth
  omega

/-- A group that stays CONGESTED has counted at most one calm period: a second one moves it to WATCH (R47). -/
theorem calmAfter_le {r : Group} {o : Nat} (hstate : r.congestion = .congested) (hnext : nextCongestion r o = .congested) :
    calmAfter r ≤ 1 := by
  unfold nextCongestion at hnext
  rw [hstate] at hnext
  split at hnext
  · cases hnext
  dsimp only at hnext
  split at hnext
  · cases hnext
  next hcalm => omega

theorem Group.Legal.evaluated {r : Group} (h : r.Legal) : (evaluateGroup r).Legal := by
  obtain ⟨hsize, hblocked, howner, hreservation, hwatchLow, hwatch, hclear, hcongestLow, hcongest, hoccupancy, -, -, hheld,
    hheldTop, -⟩ := h
  have hcalm : (evaluateGroup r).calm ≤ 1 := by
    simp only [evaluateGroup]
    split
    next hstays => exact calmAfter_le hstays.1 hstays.2
    next => exact Nat.zero_le 1
  exact ⟨hsize, hblocked, howner, hreservation, hwatchLow, hwatch, hclear, hcongestLow, hcongest,
    smooth_le hoccupancy (sample_le r), hheld, hheldTop, le_rfl, Nat.zero_le _, hcalm⟩

theorem thresholdOf_range {field default : Nat} (hlow : 1 ≤ default) (hhigh : default ≤ 1000) :
    1 ≤ thresholdOf field default ∧ thresholdOf field default ≤ 1000 := by
  unfold thresholdOf
  split <;> omega

/-- SET GROUP stores a configuration in its ranges and leaves the measurement record (R33). -/
theorem Group.Legal.configured {r : Group} (h : r.Legal) (req : List Byte) : (configured req r).Legal := by
  obtain ⟨-, -, -, -, -, -, -, -, -, hmeasured⟩ := h
  obtain ⟨hwatchLow, hwatch⟩ := thresholdOf_range (field := readLE req 16 2) (default := 850) (by omega) (by omega)
  obtain ⟨hcongestLow, hcongest⟩ := thresholdOf_range (field := readLE req 20 2) (default := 200) (by omega) (by omega)
  exact ⟨Nat.min_le_right _ _, Nat.min_le_right _ _, Nat.le_of_lt_succ (byteAt_lt req 11), Nat.min_le_right _ _, hwatchLow,
    hwatch, Nat.min_le_right _ _, hcongestLow, hcongest, hmeasured⟩

theorem Group.Legal.withBlocked {r : Group} (h : r.Legal) {n : Nat} (hn : n ≤ r.size) :
    ({ r with blocked := n } : Group).Legal := by
  obtain ⟨hsize, -, hrest⟩ := h
  exact ⟨hsize, hn, hrest⟩

theorem Group.Legal.blocked_le {r : Group} (h : r.Legal) : r.blocked ≤ r.size := by
  obtain ⟨-, hblocked, -⟩ := h
  exact hblocked

/-! ### From one machine to another -/

/-- Every group that is legal in `s` is legal in `t`. -/
def GroupsStay (s t : State) : Prop := ∀ g, (s.group g).Legal → (t.group g).Legal

theorem GroupsStay.refl (s : State) : GroupsStay s s := fun _ => id

theorem GroupsStay.trans {s t u : State} (h : GroupsStay s t) (k : GroupsStay t u) : GroupsStay s u :=
  fun g hg => k g (h g hg)

theorem GroupsStay.ite {c : Prop} [Decidable c] {s t u : State} (h : GroupsStay s t) (k : GroupsStay s u) :
    GroupsStay s (if c then t else u) := by
  split
  · exact h
  · exact k

/-- A machine with the same Group Table. -/
theorem GroupsStay.same {s t : State} (h : t.groups = s.groups) : GroupsStay s t := fun g hg => by
  rwa [group_congr h]

/-- What leaves the Group Table alone may follow. -/
theorem GroupsStay.andThen {s t u : State} (h : GroupsStay s t) (k : u.groups = t.groups) : GroupsStay s u := h.trans (.same k)

theorem groupsStay_putGroup (g : Nat) {r : Group} {s : State} (h : (s.group g).Legal → r.Legal) :
    GroupsStay s (putGroup g r s) := by
  intro k hk
  rw [group_putGroup]
  split
  next hkg => exact h (hkg ▸ hk)
  next => exact hk

theorem groupsStay_serve {k : Kind} {f : Nat → List Byte → State → State} {s t : State}
    (hf : ∀ slot req, GroupsStay s (f slot req s)) (h : serve k f s = .next t) : GroupsStay s t := by
  unfold serve at h
  split at h
  · exact Host.Outcome.next.inj h ▸ hf _ _
  · exact Host.Outcome.next.inj h ▸ .refl s

/-- A request served by what leaves the Group Table alone. -/
theorem groupsStay_serve_same {k : Kind} {f : Nat → List Byte → State → State} {s t : State}
    (hf : ∀ slot req, (f slot req s).groups = s.groups) (h : serve k f s = .next t) : GroupsStay s t :=
  groupsStay_serve (fun slot req => .same (hf slot req)) h

theorem groupsStay_event {c : Prop} [Decidable c] {s t u : State} (hu : GroupsStay s u)
    (h : (Host.Outcome.next (if c then u else s) : Result) = .next t) : GroupsStay s t :=
  Host.Outcome.next.inj h ▸ .ite hu (.refl s)

theorem groupsStay_callRequest {k : Kind} {rule : Nat → List Byte → Nat → Context → State → State} {s : State}
    (hrule : ∀ slot req i c, GroupsStay s (rule slot req i c s)) (slot : Nat) (req : List Byte) :
    GroupsStay s (callRequest k rule slot req s) := by
  unfold callRequest
  split
  · exact .same (by simp)
  split
  · exact .same (by simp)
  · exact hrule _ _ _ _

/-! ### Seizures (R28 to R30) -/

theorem groupsStay_countExamination (g : Nat) {a f : Nat} (hfa : f ≤ a) (s : State) : GroupsStay s (countExamination g a f s) :=
  .ite (groupsStay_putGroup g fun h => h.withHeld hfa) (groupsStay_putGroup g fun h => h.withAttempts hfa)

theorem groupsStay_countVerdict (g : Nat) (v : Verdict) (s : State) : GroupsStay s (countVerdict g v s) := by
  cases v with
  | refused1 | refused5 => exact .refl s
  | refused2 | refused3 => exact groupsStay_countExamination g le_rfl s
  | admissible => exact groupsStay_countExamination g (Nat.zero_le 1) s
  | refused4 => exact (groupsStay_countExamination g (Nat.zero_le 1) s).andThen (by simp [countVerdict])

theorem groupsStay_grantSeizure (g : Nat) (s : State) : GroupsStay s (grantSeizure g s) :=
  (groupsStay_putGroup g fun h => h.withBusy ((s.group g).busy + 1)).andThen (by simp [grantSeizure])

theorem groupsStay_returnSeizure (g : Nat) (s : State) : GroupsStay s (returnSeizure g s) :=
  (groupsStay_putGroup g fun h => h.withBusy ((s.group g).busy - 1)).andThen (by simp [returnSeizure])

theorem groupsStay_seize (history : List Nat) (cs : List Candidate) (s : State) : GroupsStay s (seize history cs s).2 := by
  induction cs generalizing s with
  | nil => exact .refl s
  | cons c cs ih =>
    simp only [seize]
    split
    · exact (groupsStay_countVerdict _ _ s).trans (groupsStay_grantSeizure _ _)
    · exact (groupsStay_countVerdict _ _ s).trans (ih _)

/-! ### Calls (R68, R73 to R76, R87, R89) -/

theorem groupsStay_releaseRule (slot : Nat) (req : List Byte) (i : Nat) (c : Context) (s : State) :
    GroupsStay s (releaseRule slot req i c s) := by
  unfold releaseRule
  split
  next call _ _ => exact (groupsStay_returnSeizure call.group s).andThen (by simp)
  next call _ => exact (groupsStay_returnSeizure call.group s).andThen (by simp)
  next call _ _ => exact (groupsStay_returnSeizure call.group s).andThen (by simp)
  next => exact .same (by simp)
  next => exact .same (by simp)

theorem groupsStay_expire (i : Nat) (s : State) : GroupsStay s (expire i s) := by
  unfold expire
  split
  next call _ _ => exact .ite ((groupsStay_returnSeizure call.group s).andThen (by simp)) (.refl s)
  next => exact .refl s

theorem groupsStay_crankContinue (slot : Nat) (req : List Byte) (i : Nat) (call : Call) (s : State) :
    GroupsStay s (crankContinue slot req i call s) := by
  have hreturned : GroupsStay s (clearOwnRetained call (returnSeizure call.group s)) :=
    (groupsStay_returnSeizure call.group s).andThen (by simp)
  unfold crankContinue
  dsimp only
  split
  · exact hreturned.andThen (by simp)
  have hseized := hreturned.trans (groupsStay_seize call.history
    (resumedCandidates (clearOwnRetained call (returnSeizure call.group s)) call) _)
  split
  next hseize => rw [hseize] at hseized; exact hseized.andThen (by simp)
  next hseize => rw [hseize] at hseized; exact hseized.andThen (by simp)

theorem groupsStay_crankbackRule (slot : Nat) (req : List Byte) (i : Nat) (c : Context) (s : State) :
    GroupsStay s (crankbackRule slot req i c s) := by
  unfold crankbackRule
  split
  · exact groupsStay_crankContinue _ _ _ _ s
  · exact .same (by simp)
  · exact .same (by simp)

theorem groupsStay_walk (job : RouteJob) (through : Option (List Nat × GapOrigin)) (s : State) :
    GroupsStay s (walk job through s) := by
  unfold walk
  split
  next => exact .same (by simp)
  next e dest _ =>
    dsimp only
    split
    · exact .same (by simp)
    split
    · exact .same (by simp)
    next i s1 halloc =>
      have htaken : GroupsStay s s1 := .same (allocate_keeps halloc).2.1
      have hseized := htaken.trans (groupsStay_seize [] (arrange (rankingRate s1) e.retained
        (candidatesOf ((s.bank s.plan.active).routeList e.routeList))) s1)
      split
      next hseize => rw [hseize] at hseized; exact hseized.andThen (by simp)
      next hseize => rw [hseize] at hseized; exact hseized.andThen (by simp)

/-! ### Configuration (R33, R36, R37) -/

theorem groupsStay_serveSetGroup (slot : Nat) (req : List Byte) (s : State) : GroupsStay s (serveSetGroup slot req s) :=
  .ite (.same (by simp)) (.ite (.same (by simp)) (.ite (.same (by simp))
    ((groupsStay_putGroup (readLE req 8 2) fun h => h.configured req).andThen (by simp))))

theorem groupsStay_serveBlocking {k : Kind} {applied : Group → Nat → Nat} {after : Group → Nat → Group}
    (hafter : ∀ r n, r.Legal → (after r (applied r n)).Legal) (slot : Nat) (req : List Byte) (s : State) :
    GroupsStay s (serveBlocking k applied after slot req s) :=
  .ite (.same (by simp)) (.ite (.same (by simp))
    ((groupsStay_putGroup (readLE req 8 2) (hafter _ (readLE req 10 2))).andThen (by simp)))

/-! ### Time, mirror writes and bursts (R43 to R48, R100, R163, R173) -/

theorem groupsStay_endPeriod (s : State) : GroupsStay s (endPeriod s) := by
  intro g hg
  rw [endPeriod_group]
  split
  · exact hg.evaluated
  · exact hg

theorem groupsStay_expireAll (is : List Nat) (s : State) : GroupsStay s (expireAll is s) := by
  induction is generalizing s with
  | nil => exact .refl s
  | cons i is ih => exact (groupsStay_expire i s).trans (ih _)

theorem groupsStay_settleTick (s : State) : GroupsStay s (settleTick s) := by
  have hexpired := (GroupsStay.same (s := s) (t := takeAllHanded ((removeLapsed s).carriers.map (fun e => e.1)) (removeLapsed s))
    (by simp)).trans (groupsStay_expireAll ((takeAllHanded ((removeLapsed s).carriers.map (fun e => e.1))
      (removeLapsed s)).contexts.table.map (fun e => e.1)) _)
  have hmarked : ∀ is v, GroupsStay s v → GroupsStay s (markAllLong is v) := fun is v hv => hv.andThen (by simp)
  exact .ite ((hmarked _ _ hexpired).trans (groupsStay_endPeriod _)) (hmarked _ _ hexpired)

theorem groupsStay_advanceTick (s : State) : GroupsStay s (advanceTick s) :=
  (groupsStay_settleTick s).andThen (by simp [advanceTick])

theorem groupsStay_settleSlot (s : State) : GroupsStay s (settleSlot s) := by
  have hreference : GroupsStay s (if lossDue s then loseReference s else if lockDue s then changeReference .locked s else s) :=
    .ite (.same (by simp)) (.ite (.same (by simp)) (.refl s))
  have hticked : ∀ v, GroupsStay v (if tickDue v then advanceTick v else v) := fun v =>
    .ite (groupsStay_advanceTick v) (.refl v)
  have htenth : ∀ v, GroupsStay v (if tenthDue v then advanceTenth v else v) := fun v => .ite (.same (by simp)) (.refl v)
  exact (hreference.trans (hticked _)).trans (htenth _)

theorem groupsStay_clearMarks (gs : List Nat) (s : State) : GroupsStay s (clearMarks gs s) := by
  induction gs generalizing s with
  | nil => exact .refl s
  | cons g gs ih => exact (groupsStay_putGroup g (r := { s.group g with changed := false }) fun h => h).trans (ih _)

theorem groupsStay_mirrorClosed (s : State) : GroupsStay s (mirrorClosed s) := by
  unfold mirrorClosed
  split
  next gs _ => exact (groupsStay_clearMarks gs s).andThen (by simp)
  next => exact .refl s

theorem groupsStay_completed (p : Purpose) (bytes : List Byte) (s : State) : GroupsStay s (completed p bytes s) := by
  cases p with
  | mirrorClose => exact groupsStay_mirrorClosed s
  | _ => exact .same (by simp [completed])

theorem groupsStay_transferFailed (p : Purpose) (s : State) : GroupsStay s (transferFailed p s) := by
  cases p <;> exact .same (by simp [transferFailed])

theorem groupsStay_endBurst (r : Requester) (t : Transfer) (ts : List Transfer) (reply : BurstReply) (s : State) :
    GroupsStay s (endBurst r t ts reply s) := by
  cases reply with
  | done data =>
    have hstored : ∀ us, GroupsStay s (setTransfers r us (storeBytes t t.burstLength s)) := fun _ => .same (by simp)
    exact .ite ((hstored _).trans (groupsStay_completed _ _ _)) (hstored _)
  | busError beat =>
    exact (GroupsStay.same (t := setTransfers r ts (storeFailed t beat s)) (by simp)).trans (groupsStay_transferFailed _ _)

theorem groupsStay_execMemoryBurstDone {reply : BurstReply} {s t : State} (h : execMemoryBurstDone reply s = .next t) :
    GroupsStay s t := by
  have hnext := next_of_guarded h
  split at hnext
  next => exact Host.Outcome.next.inj hnext ▸ .refl s
  next r x ts _ =>
    split at hnext
    · exact Host.Outcome.next.inj hnext ▸ (groupsStay_endBurst r x ts reply s).andThen (by simp)
    · cases hnext

/-! ### Resets and starts (R24, R175) -/

/-- A machine with an empty Group Table: every group reads as unconfigured. -/
theorem GroupsStay.emptied {s t : State} (h : t.groups = []) : GroupsStay s t := fun g _ => by
  rw [State.group, h]
  exact Group.legal_unconfigured

theorem groupsStay_startWarm (kind : StartKind) (cause : ResetCause) (s v : State) : GroupsStay s (startWarm kind cause v) :=
  .emptied (by simp [startWarm, volatileReset, State.reset])

/-! ### Commands -/

theorem groupsStay_execRouteWalk {s t : State} (h : execRouteWalk s = .next t) : GroupsStay s t := by
  unfold execRouteWalk at h
  split at h
  · exact groupsStay_event (groupsStay_walk _ _ s) h
  · exact Host.Outcome.next.inj h ▸ .refl s

theorem groupsStay_execRouteReports {s t : State} (h : execRouteReports s = .next t) : GroupsStay s t := by
  unfold execRouteReports at h
  split at h
  · exact groupsStay_event (.same (by simp)) h
  · exact Host.Outcome.next.inj h ▸ .refl s

theorem groupsStay_execBankLoadHead {s t : State} (h : execBankLoadHead s = .next t) : GroupsStay s t := by
  unfold execBankLoadHead at h
  split at h
  · exact Host.Outcome.next.inj h ▸ .refl s
  · exact groupsStay_event (.same (by simp)) h

theorem groupsStay_execGapEntryLapse {code : List Nat} {s t : State} (h : execGapEntryLapse code s = .next t) :
    GroupsStay s t := by
  have hnext := next_of_guarded h
  split at hnext
  · exact groupsStay_event (.same (by simp)) hnext
  · exact Host.Outcome.next.inj hnext ▸ .refl s

theorem groupsStay_execBlockCircuits {s t : State} (h : execBlockCircuits s = .next t) : GroupsStay s t := by
  refine groupsStay_serve (groupsStay_serveBlocking ?_ · · s) h
  intro r n hr
  have hblocked := hr.blocked_le
  exact hr.withBlocked (by omega)

theorem groupsStay_execUnblockCircuits {s t : State} (h : execUnblockCircuits s = .next t) : GroupsStay s t := by
  refine groupsStay_serve (groupsStay_serveBlocking ?_ · · s) h
  intro r n hr
  have hblocked := hr.blocked_le
  exact hr.withBlocked (by omega)

theorem groupsStay_execResetEnd {s t : State} (h : execResetEnd s = .next t) : GroupsStay s t :=
  Host.Outcome.next.inj h ▸ .ite (.ite (.same rfl) (.same (by simp))) (.refl s)

theorem groupsStay_exec {c : Instr} {s t : State} (h : exec c s = .next t) : GroupsStay s t := by
  cases c with
  | routeWalk => exact groupsStay_execRouteWalk h
  | routeReports => exact groupsStay_execRouteReports h
  | release => exact groupsStay_serve (groupsStay_callRequest fun slot req i c => groupsStay_releaseRule slot req i c s) h
  | crankback => exact groupsStay_serve (groupsStay_callRequest fun slot req i c => groupsStay_crankbackRule slot req i c s) h
  | confirm | answer | queryCall => exact groupsStay_serve (groupsStay_callRequest fun _ _ _ _ => .same (by simp)) h
  | setGroup => exact groupsStay_serve (groupsStay_serveSetGroup · · s) h
  | blockCircuits => exact groupsStay_execBlockCircuits h
  | unblockCircuits => exact groupsStay_execUnblockCircuits h
  | route | setCallTimers | loadDestinations | loadRouteLists | setBandMap | setHolidays | switchPlan | setSupervision | setGap
  | clearGap | setCalendar | alignMinute | setCarrier | loadTariff | cancelTariff | closePeriod =>
    exact groupsStay_serve_same (by simp) h
  | bankLoadHead => exact groupsStay_execBankLoadHead h
  | gapEntryLapse => exact groupsStay_execGapEntryLapse h
  | tariffActivation | longCallMark => exact groupsStay_event (.same (by simp)) (next_of_guarded h)
  | confirmationExpiry i => exact groupsStay_event (groupsStay_expire i s) (next_of_guarded h)
  | frameSlot present =>
    exact Host.Outcome.next.inj h ▸ .ite ((groupsStay_settleSlot s).andThen (by simp)) (.ite (.same (by simp)) (.refl s))
  | tickAdvance => exact groupsStay_event (groupsStay_advanceTick s) h
  | periodEnd => exact groupsStay_event (groupsStay_endPeriod s) h
  | referenceLoss | referenceLock | tenthAdvance | scanTimerExpiry | runOne | runZero | scanInterval | burstSize | attention
  | attnPulseEnd | backupTenthAdvance =>
    exact groupsStay_event (.same (by simp)) h
  | attnMode | areaBase | areaSize => exact groupsStay_event (.ite (.same (by simp)) (.same (by simp))) h
  | nudge => exact groupsStay_event (.ite (.ite (.same (by simp)) (.same (by simp))) (.refl s)) h
  | memoryBurstDone => exact groupsStay_execMemoryBurstDone h
  | registerWriteIgnored => exact Host.Outcome.next.inj h ▸ .refl s
  | softReset => exact groupsStay_event (groupsStay_startWarm _ _ _ _) h
  | powerOn => exact Host.Outcome.next.inj h ▸ .ite (groupsStay_startWarm _ _ _ _) (.emptied rfl)
  | resetLineAsserted => exact Host.Outcome.next.inj h ▸ .ite (groupsStay_startWarm _ _ _ _) (.same rfl)
  | resetLineReleased => exact Host.Outcome.next.inj h ▸ .ite (.same (by simp)) (.same rfl)
  | resetEnd => exact groupsStay_execResetEnd h
  | mainSupplyLoss => exact groupsStay_event (.emptied rfl) h
  | backupSupplyFailure => exact Host.Outcome.next.inj h ▸ .ite (.refl s) (.same rfl)

theorem groupsStay_step {s t : State} (h : step s = .next t) : GroupsStay s t := by
  cases hq : s.pending with
  | nil => exact Host.Outcome.next.inj ((step_of_pending_nil hq).symm.trans h) ▸ .refl s
  | cons c rest =>
    have hs : s.setPending (c :: rest) = s := by rw [← hq]; rfl
    have hexec : exec c (s.setPending rest) = .next t := by rw [← step_setPending_cons, hs, h]
    exact (GroupsStay.same (t := s.setPending rest) rfl).trans (groupsStay_exec hexec)

/-! ### Busy counts (R30, R80) -/

theorem Table.rising_iff_pairwise {α : Type} {t : Table α} :
    Table.rising t = true ↔ (t.map Prod.fst).Pairwise (· < ·) := by
  induction t with
  | nil => simp [Table.rising]
  | cons e t ih =>
    obtain ⟨k, v⟩ := e
    rw [Table.rising_cons, ih, List.map_cons, List.pairwise_cons]
    simp [Table.above]

/-- A table of rising indices below `n` lists at most `n` values. -/
theorem Table.length_le_of_rising {α : Type} {t : Table α} {n : Nat} (h : Table.rising t = true) (hn : ∀ e ∈ t, e.1 < n) :
    t.length ≤ n := by
  have hnodup : (t.map Prod.fst).Nodup := (Table.rising_iff_pairwise.1 h).imp Nat.ne_of_lt
  have hrange : t.map Prod.fst ⊆ List.range n := fun k hk => by
    obtain ⟨e, he, rfl⟩ := List.mem_map.1 hk
    exact List.mem_range.2 (hn e he)
  simpa using (hnodup.subperm hrange).length_le

/-- A group's busy count is a number of contexts, of which there are 16,384. -/
theorem State.Conserved.busy_le {s : State} (h : s.Conserved) (g : Nat) : (s.group g).busy ≤ 16384 := by
  obtain ⟨hrising, hindex, -, hbusy, -⟩ := h
  rw [hbusy g]
  exact (List.length_filter_le _ _).trans (Table.length_le_of_rising hrising hindex)

/-- Settles O5: each command keeps each group's record in its ranges, and the busy counts are bounded by the conservation of
the seizures. -/
theorem groupRecordsStayLegal : Obligations.GroupRecordsStayLegal :=
  ⟨fun _ _ h hstep g => groupsStay_step hstep g (h g), fun _ _ h hstep g => (seizuresAreConserved _ _ h hstep).busy_le g⟩

end Sys2Proof.Machine
end

section
/-! PROOFS. SET GROUP, BLOCK CIRCUITS and UNBLOCK CIRCUITS (R31 to R37, R46). -/

namespace Sys2Proof.Machine

/-- A group's new record is put in its place, and nothing else changes. -/
theorem putGroup_frame (g : Nat) (r : Group) (s : State) :
    (putGroup g r s).group g = r ∧ (∀ h, h ≠ g → (putGroup g r s).group h = s.group h) ∧
      putGroup g r s = s.setGroups (putGroup g r s).groups := by
  refine ⟨by simp, fun h hne => ?_, rfl⟩
  rw [group_putGroup, if_neg hne]

theorem bit_eq_one {n : Nat} (h : n ≤ 1) : bit (decide (n = 1)) = n := by
  unfold bit
  split <;> simp_all
  omega

/-! ### SET GROUP (R31 to R34) -/

/-- The answer carries the in-service mark as the request holds it. -/
theorem setGroupAnswer_configured {req : List Byte} {r : Group} (hmark : byteAt req 10 ≤ 1) :
    setGroupAnswer (configured req r) =
      [⟨74, 1, byteAt req 10⟩, ⟨75, 1, (configured req r).owner⟩, ⟨76, 2, (configured req r).size⟩,
       ⟨78, 1, (configured req r).reservation⟩, ⟨80, 2, (configured req r).watchOn⟩,
       ⟨82, 2, (configured req r).clearBelow⟩, ⟨84, 2, (configured req r).congestOn⟩] := by
  have hstored : bit (configured req r).inService = byteAt req 10 := bit_eq_one hmark
  rw [setGroupAnswer, hstored]

section
variable {req : List Byte} (slot : Nat) (s : State)

theorem serveSetGroup_of_range (hclear : reservedClear .setGroup req = true)
    (hrange : 1023 < readLE req 8 2 ∨ 1 < byteAt req 10) :
    serveSetGroup slot req s = reply slot req .range 0 [⟨72, 2, readLE req 8 2⟩] s := by
  simp [serveSetGroup, hclear, hrange]

/-- The fields in range. -/
theorem serveSetGroup_of_inRange (hclear : reservedClear .setGroup req = true) (hindex : readLE req 8 2 ≤ 1023)
    (hmark : byteAt req 10 ≤ 1) :
    serveSetGroup slot req s =
      if byteAt req 11 ≠ (s.group (readLE req 8 2)).owner ∧ 0 < (s.group (readLE req 8 2)).busy then
        reply slot req .wrongState 0 [⟨72, 2, readLE req 8 2⟩] s
      else
        reply slot req .ok 0
          (groupAnswer (readLE req 8 2) (configured req (s.group (readLE req 8 2))) ++
            setGroupAnswer (configured req (s.group (readLE req 8 2))))
          (putGroup (readLE req 8 2) (configured req (s.group (readLE req 8 2))) s) := by
  have hrange : ¬ (1023 < readLE req 8 2 ∨ 1 < byteAt req 10) := by omega
  simp only [serveSetGroup, hclear, hrange, if_false, Bool.true_eq_false]

end

/-- Settles O31, by the checks in their order. -/
theorem setGroupStoresTheConfiguration : Obligations.SetGroupStoresTheConfiguration := by
  intro s slot req hserved hclear g r size threshold watchOn clearBelow congestOn reservation blocked
  have hexec : exec .setGroup s = .next (serveSetGroup slot req s) := serve_of_served hserved
  rw [hexec]
  refine ⟨fun hrange => ?_, fun hindex hmark howner hbusy => ?_, fun hindex hmark hfree => ?_⟩
  · rw [serveSetGroup_of_range slot s hclear hrange]
  · rw [serveSetGroup_of_inRange slot s hclear hindex hmark, if_pos ⟨howner, hbusy⟩]
  · have hpasses : ¬ (byteAt req 11 ≠ r.owner ∧ 0 < r.busy) := fun ⟨howner, hbusy⟩ =>
      hfree.elim howner fun hidle => hbusy.ne' hidle
    refine ⟨putGroup g (configured req r) s, ?_, putGroup_frame g (configured req r) s⟩
    rw [serveSetGroup_of_inRange slot s hclear hindex hmark, if_neg hpasses]
    rw [setGroupAnswer_configured hmark]
    rfl

/-! ### BLOCK CIRCUITS and UNBLOCK CIRCUITS (R36, R37) -/

/-- A group with nothing available is moved to BLOCKED at the period end (R46). -/
theorem evaluateGroup_of_unavailable {r : Group} (h : r.available = 0) : (evaluateGroup r).congestion = .blocked := by
  simp [evaluateGroup, nextCongestion, h]

/-- A BLOCKED group in service with circuits available is moved to CLEAR at the period end (R46). -/
theorem evaluateGroup_of_reopened {r : Group} (hstate : r.congestion = .blocked) (hservice : r.inService = true)
    (h : r.available ≠ 0) : (evaluateGroup r).congestion = .clear := by
  simp [evaluateGroup, nextCongestion, hstate, hservice, h]

/-- The count that a BLOCK CIRCUITS or UNBLOCK CIRCUITS applies. -/
def blockingCount (k : Kind) (r : Group) (n : Nat) : Nat :=
  if k = .blockCircuits then min n (r.size - r.blocked) else min n r.blocked

/-- A group's record once the count is applied. -/
def reblocked (k : Kind) (r : Group) (n : Nat) : Group :=
  { r with blocked := if k = .blockCircuits then r.blocked + n else r.blocked - n }

section
variable {k : Kind} {s : State} {slot : Nat} {req : List Byte}

theorem exec_blocking (hk : k = .blockCircuits ∨ k = .unblockCircuits) (hserved : served k s = some (slot, req)) :
    exec k.command s = .next (serveBlocking k (blockingCount k) (reblocked k) slot req s) := by
  rw [exec_command_of_served hserved]
  obtain rfl | rfl := hk <;> rfl

theorem serveBlocking_of_inRange {applied : Group → Nat → Nat} {after : Group → Nat → Group}
    (hclear : reservedClear k req = true) (hindex : readLE req 8 2 ≤ 1023) :
    serveBlocking k applied after slot req s =
      reply slot req .ok 0
        (⟨86, 2, applied (s.group (readLE req 8 2)) (readLE req 10 2)⟩ :: groupAnswer (readLE req 8 2)
          (after (s.group (readLE req 8 2)) (applied (s.group (readLE req 8 2)) (readLE req 10 2))))
        (putGroup (readLE req 8 2)
          (after (s.group (readLE req 8 2)) (applied (s.group (readLE req 8 2)) (readLE req 10 2))) s) := by
  simp only [serveBlocking, hclear, Nat.not_lt.2 hindex, if_false, Bool.true_eq_false]

end

/-- Settles O32: what is stored is the group's record reblocked, and the next period end judges that. -/
theorem blockingMovesTheBlockedCount : Obligations.BlockingMovesTheBlockedCount := by
  intro k s slot req hk hserved g r n q
  rw [exec_blocking hk hserved]
  refine ⟨fun hreserved => ?_, fun hclear hindex => ?_, fun hclear hindex => ?_⟩
  · rw [serveBlocking, if_pos hreserved]
  · simp only [serveBlocking, hclear, hindex, if_true, Bool.true_eq_false, if_false, g]
  · obtain ⟨hgroup, hothers, hframe⟩ := putGroup_frame g q s
    refine ⟨putGroup g q s, ?_, hgroup, hothers, hframe, fun hblock hfits => ?_, fun hempty hblock => ?_,
      evaluateGroup_of_unavailable, fun hstate => ⟨hstate, evaluateGroup_of_reopened hstate⟩⟩
    · rw [serveBlocking_of_inRange hclear hindex]
      rfl
    · simp only [q, n, hblock, if_true]
      omega
    · simp only [n, hblock, if_true]
      omega

end Sys2Proof.Machine
end

section
/-! PROOFS. Seizure requests: the order of an examination's conditions, and what the examinations of a whole request count
(R25, R27 to R29, R42, R120). -/

namespace Sys2Proof.Machine

/-! ### One examination (R27) -/

theorem stateAdmits_iff {r : Group} {k : StepKind} : stateAdmits r k = true ↔ match k with
    | .direct => r.congestion = .clear ∨ r.congestion = .watch ∨ r.congestion = .congested
    | .overflow => (r.congestion = .clear ∨ r.congestion = .watch) ∧ r.reservation < r.free
    | .pool => (r.congestion = .clear ∨ r.congestion = .watch) ∧ r.reservation < r.free := by
  cases k with
  | direct => cases h : r.congestion <;> simp [stateAdmits, h]
  | overflow | pool => exact decide_eq_true_iff

theorem ceilingAdmits_iff {s : State} {k : Nat} : ceilingAdmits s k = true ↔
    k = 0 ∨ (s.carrier k).ceiling = 65535 ∨ s.openHandovers k < (s.carrier k).ceiling := decide_eq_true_iff

section
variable {s : State} {history : List Nat} {c : Candidate}

/-- Condition 1 of R27. -/
def Group.Usable (r : Group) : Prop := r.inService = true ∧ r.congestion ≠ .blocked

theorem examine_of_unusable (h : ¬ (s.group c.group).Usable) : examine s history c = .refused1 := by
  refine if_pos ?_
  rwa [← Bool.not_eq_true, ← not_not (a := (s.group c.group).congestion = .blocked), ← not_and_or]

/-- Past condition 1. -/
theorem examine_of_usable (h : (s.group c.group).Usable) : examine s history c =
    if c.group ∈ history then .refused5
    else if (s.group c.group).free < 1 then .refused2
    else if stateAdmits (s.group c.group) c.kind = false then .refused3
    else if ceilingAdmits s (s.group c.group).owner = false then .refused4
    else .admissible := by
  obtain ⟨hservice, hstate⟩ := h
  exact if_neg (by simp [hservice, hstate])

/-- A grant is made only on a group with a free circuit, below its owner's ceiling. -/
theorem examine_admissible (h : examine s history c = .admissible) :
    1 ≤ (s.group c.group).free ∧ ceilingAdmits s (s.group c.group).owner = true := by
  by_cases husable : (s.group c.group).Usable
  · rw [examine_of_usable husable] at h
    split_ifs at h with _ hfull _ hceiling
    exact ⟨Nat.not_lt.1 hfull, by simpa using hceiling⟩
  · rw [examine_of_unusable husable] at h
    cases h

end

/-! ### What an examination counts (R28, R42) -/

/-- A group's record with additions to A and F, in the counts held over when the end tick is reached (R42). -/
def counted (s : State) (r : Group) (a f : Nat) : Group :=
  if (s.now - s.supervision.periodEnd).toNat < 2 ^ 31 then
    { r with heldA := min top32 (r.heldA + a), heldF := min top32 (r.heldF + f) }
  else { r with attempts := min top32 (r.attempts + a), refusals := min top32 (r.refusals + f) }

theorem group_countExamination (g a f : Nat) (s : State) :
    (countExamination g a f s).group g = counted s (s.group g) a f := by
  simp only [countExamination, counted, reached_iff]
  split
  · rw [group_putGroup, if_pos rfl]; rfl
  · rw [group_putGroup, if_pos rfl]; rfl

/-- What a verdict counts at the group examined. -/
theorem group_countVerdict (g : Nat) (v : Verdict) (s : State) : (countVerdict g v s).group g = match v with
    | .refused1 | .refused5 => s.group g
    | .refused2 | .refused3 => counted s (s.group g) 1 1
    | .refused4 | .admissible => counted s (s.group g) 1 0 := by
  cases v with
  | refused1 | refused5 => rfl
  | refused2 | refused3 | admissible => exact group_countExamination ..
  | refused4 => rw [countVerdict, countCeilingRefusal, group_putCarrier]; exact group_countExamination ..

theorem owner_countVerdict (g h : Nat) (v : Verdict) (s : State) :
    ((countVerdict g v s).group h).owner = (s.group h).owner := by
  obtain ⟨hsame, -⟩ := countVerdict_same g h v s
  simp only [Group.SameButCounts, Group.mk.injEq] at hsame
  obtain ⟨-, -, -, -, howner, -⟩ := hsame
  exact howner

theorem busy_countVerdict (g h : Nat) (v : Verdict) (s : State) : ((countVerdict g v s).group h).busy = (s.group h).busy :=
  (countVerdict_same g h v s).2

/-- A carrier's record after `n` ceiling refusals (R120). -/
def refusalsCounted (r : Carrier) (n : Nat) : Carrier :=
  if n = 0 then r else { r with refusals := min top32 (r.refusals + n) }

theorem refusalsCounted_add (r : Carrier) (m n : Nat) :
    refusalsCounted (refusalsCounted r m) n = refusalsCounted r (m + n) := by
  rcases Nat.eq_zero_or_pos m with rfl | hm
  · simp [refusalsCounted]
  rcases Nat.eq_zero_or_pos n with rfl | hn
  · simp [refusalsCounted]
  have hclamp : min top32 (min top32 (r.refusals + m) + n) = min top32 (r.refusals + (m + n)) := by omega
  simp [refusalsCounted, hm.ne', hn.ne', hclamp]

theorem carrier_countVerdict (g k : Nat) (v : Verdict) (s : State) : (countVerdict g v s).carrier k =
    refusalsCounted (s.carrier k) (bit (decide (v = .refused4 ∧ (s.group g).owner = k))) := by
  cases v with
  | refused4 =>
    by_cases hk : k = (s.group g).owner
    · subst hk; simp [countVerdict, countCeilingRefusal, refusalsCounted, bit, addSat]
    · simp [countVerdict, countCeilingRefusal, refusalsCounted, bit, hk, Ne.symm hk]
  | _ => simp [countVerdict, refusalsCounted, bit]

theorem countVerdict_eq (g : Nat) (v : Verdict) (s : State) : countVerdict g v s =
    (s.setGroups (countVerdict g v s).groups).setCarriers (countVerdict g v s).carriers := by
  obtain ⟨hplan, hsupervision, hjob, hcontexts, hclock, hcarrierJob, hbackup, hintake, hmirror, hport, hregs, hpower, hmem,
    hfailures, hpending⟩ := countVerdict_keeps g v s
  exact State.eq_of_blocks hplan rfl hsupervision hjob hcontexts hclock rfl hcarrierJob hbackup hintake hmirror hport hregs
    hpower hmem hfailures hpending

/-! ### The examinations of a request (R25) -/

/-- The machine once the candidates are examined and none is taken. -/
def examined (history : List Nat) : List Candidate → State → State
  | [], s => s
  | c :: cs, s => examined history cs (countVerdict c.group (examine s history c) s)

/-- An examination is not changed by the counts of those before it. -/
theorem examine_countVerdict (s : State) (history : List Nat) (g : Nat) (v : Verdict) (c : Candidate) :
    examine (countVerdict g v s) history c = examine s history c :=
  examine_congr (countVerdict_same _ _ _ _).1 (countVerdict_same _ _ _ _).2 (countVerdict_carrier _ · _ _) (by simp)

section
variable {history : List Nat} {pre : List Candidate} {s : State}

theorem seize_of_refused (h : ∀ x ∈ pre, examine s history x ≠ .admissible) :
    seize history pre s = (none, examined history pre s) := by
  induction pre generalizing s with
  | nil => rfl
  | cons x pre ih =>
    rw [seize, if_neg (h x (by simp)), examined]
    exact ih fun y hy => by rw [examine_countVerdict]; exact h y (by simp [hy])

theorem seize_of_admissible {c : Candidate} (post : List Candidate) (h : ∀ x ∈ pre, examine s history x ≠ .admissible)
    (hc : examine s history c = .admissible) : seize history (pre ++ c :: post) s =
      (some c, grantSeizure c.group (countVerdict c.group .admissible (examined history pre s))) := by
  induction pre generalizing s with
  | nil => simp only [List.nil_append, seize, hc, if_true, examined]
  | cons x pre ih =>
    rw [List.cons_append, seize, if_neg (h x (by simp)), examined]
    exact ih (fun y hy => by rw [examine_countVerdict]; exact h y (by simp [hy])) (by rw [examine_countVerdict]; exact hc)

theorem examined_eq : examined history pre s =
    (s.setGroups (examined history pre s).groups).setCarriers (examined history pre s).carriers := by
  induction pre generalizing s with
  | nil => rfl
  | cons x pre ih =>
    rw [examined, ih, countVerdict_eq]
    rfl

/-- What the frame leaves, read by name. -/
theorem examined_keeps : (examined history pre s).now = s.now ∧ (examined history pre s).supervision = s.supervision ∧
    (examined history pre s).backup = s.backup := by
  rw [examined_eq]
  exact ⟨rfl, rfl, rfl⟩

/-- A group that is no candidate is left as it is. -/
theorem group_examined_of_not_mem {g : Nat} (h : g ∉ pre.map Candidate.group) :
    (examined history pre s).group g = s.group g := by
  induction pre generalizing s with
  | nil => rfl
  | cons x pre ih =>
    rw [List.map_cons, List.mem_cons, not_or] at h
    rw [examined, ih h.2, countVerdict_other _ _ h.1]

/-- A candidate's group is counted by its own examination alone. -/
theorem group_examined_of_mem (hdistinct : (pre.map Candidate.group).Nodup) {x : Candidate} (hx : x ∈ pre) :
    (examined history pre s).group x.group = (countVerdict x.group (examine s history x) s).group x.group := by
  induction pre generalizing s with
  | nil => cases hx
  | cons y pre ih =>
    rw [List.map_cons, List.nodup_cons] at hdistinct
    obtain ⟨hnew, hdistinct⟩ := hdistinct
    rw [examined]
    rcases List.mem_cons.1 hx with rfl | hx
    · exact group_examined_of_not_mem hnew
    · have hne : x.group ≠ y.group := fun h => hnew (h ▸ List.mem_map_of_mem hx)
      rw [ih hdistinct hx, examine_countVerdict]
      exact countVerdict_local _ (countVerdict_other _ _ hne) (by simp [State.now]) (by simp)

/-- What the examinations count at a candidate's group, by that candidate's verdict (R28). -/
theorem group_examined_by_verdict (hdistinct : (pre.map Candidate.group).Nodup) {x : Candidate} (hx : x ∈ pre) :
    (examine s history x = .refused1 ∨ examine s history x = .refused5 →
      (examined history pre s).group x.group = s.group x.group) ∧
    (examine s history x = .refused2 ∨ examine s history x = .refused3 →
      (examined history pre s).group x.group = counted s (s.group x.group) 1 1) ∧
    (examine s history x = .refused4 → (examined history pre s).group x.group = counted s (s.group x.group) 1 0) := by
  rw [group_examined_of_mem hdistinct hx, group_countVerdict]
  refine ⟨?_, ?_, fun h => by rw [h]⟩ <;> rintro (h | h) <;> rw [h]

/-- The ceiling refusals of carrier `k` among the examinations. -/
def refusedAtCeiling (s : State) (history : List Nat) (pre : List Candidate) (k : Nat) : Nat :=
  (pre.filter (fun x => decide (examine s history x = .refused4 ∧ (s.group x.group).owner = k))).length

theorem refusedAtCeiling_cons (x : Candidate) (k : Nat) : refusedAtCeiling s history (x :: pre) k =
    bit (decide (examine s history x = .refused4 ∧ (s.group x.group).owner = k)) + refusedAtCeiling s history pre k := by
  unfold refusedAtCeiling bit
  rw [List.filter_cons]
  split <;> simp [Nat.add_comm]

theorem refusedAtCeiling_countVerdict (g : Nat) (v : Verdict) (k : Nat) :
    refusedAtCeiling (countVerdict g v s) history pre k = refusedAtCeiling s history pre k := by
  simp only [refusedAtCeiling, examine_countVerdict, owner_countVerdict]

theorem carrier_examined (k : Nat) : (examined history pre s).carrier k =
    refusalsCounted (s.carrier k) (refusedAtCeiling s history pre k) := by
  induction pre generalizing s with
  | nil => rfl
  | cons x pre ih =>
    rw [examined, ih, refusedAtCeiling_countVerdict, carrier_countVerdict, refusalsCounted_add, refusedAtCeiling_cons]

end

/-! ### The grant (R29) -/

section
variable (g : Nat) (s : State)

/-- The last examination of a request that is granted, and the grant. -/
def takenBy : State := grantSeizure g (countVerdict g .admissible s)

theorem group_takenBy_same : (takenBy g s).group g = { counted s (s.group g) 1 0 with busy := (s.group g).busy + 1 } := by
  rw [takenBy, grantSeizure_group, if_pos rfl, busy_countVerdict, group_countVerdict]

theorem group_takenBy_other {h : Nat} (hne : h ≠ g) : (takenBy g s).group h = s.group h := by
  rw [takenBy, grantSeizure_group, if_neg hne, countVerdict_other _ _ hne]

theorem carrier_takenBy (k : Nat) : (takenBy g s).carrier k = s.carrier k := by
  simp [takenBy, carrier_countVerdict, refusalsCounted, bit]

theorem openHandovers_takenBy (k : Nat) :
    (takenBy g s).openHandovers k = s.openHandovers k + (if k = (s.group g).owner ∧ k ≠ 0 then 1 else 0) := by
  rw [takenBy, grantSeizure_open, owner_countVerdict]
  simp

theorem sums_takenBy (k : Nat) : ((takenBy g s).settlement k).sums = (s.settlement k).sums := by
  rw [takenBy, grantSeizure_sums]
  simp

theorem grantSeizure_eq : grantSeizure g s = (s.setGroups (grantSeizure g s).groups).setBackup
    { s.backup with settlements := (grantSeizure g s).backup.settlements } := by
  unfold grantSeizure changeOpen
  dsimp only
  split <;> rfl

theorem takenBy_eq : takenBy g s = ((s.setGroups (takenBy g s).groups).setCarriers (takenBy g s).carriers).setBackup
    { s.backup with settlements := (takenBy g s).backup.settlements } := by
  unfold takenBy
  rw [grantSeizure_eq, countVerdict_eq]
  rfl

end

/-! ### The request -/

/-- The conditions in the order 1, 5, 2, 3, 4, the first that fails ending the examination. -/
theorem examine_in_order (s : State) (history : List Nat) (c : Candidate) :
    let r := s.group c.group
    let admits := stateAdmits r c.kind = true
    let below := ceilingAdmits s r.owner = true
    (¬ r.Usable → examine s history c = .refused1) ∧ (r.Usable → ¬ c.group ∉ history → examine s history c = .refused5) ∧
    (r.Usable → c.group ∉ history → r.free < 1 → examine s history c = .refused2) ∧
    (r.Usable → c.group ∉ history → 1 ≤ r.free → ¬ admits → examine s history c = .refused3) ∧
    (r.Usable → c.group ∉ history → 1 ≤ r.free → admits → ¬ below → examine s history c = .refused4) ∧
    (r.Usable → c.group ∉ history → 1 ≤ r.free → admits → below → examine s history c = .admissible) := by
  intro r admits below
  refine ⟨examine_of_unusable, fun h htried => ?_, fun h hnew hfull => ?_, fun h hnew hfree hstate => ?_,
    fun h hnew hfree hstate hceiling => ?_, fun h hnew hfree hstate hceiling => ?_⟩ <;> rw [examine_of_usable h]
  · rw [if_pos (not_not.1 htried)]
  · rw [if_neg hnew, if_pos hfull]
  · rw [if_neg hnew, if_neg (Nat.not_lt.2 hfree), if_pos (Bool.not_eq_true _ ▸ hstate)]
  · rw [if_neg hnew, if_neg (Nat.not_lt.2 hfree), if_neg (by simpa using hstate), if_pos (Bool.not_eq_true _ ▸ hceiling)]
  · rw [if_neg hnew, if_neg (Nat.not_lt.2 hfree), if_neg (by simpa using hstate), if_neg (by simpa using hceiling)]

/-- Settles O14: the examinations before the first admissible candidate count, and that candidate is taken. -/
theorem seizureTakesFirstAdmissible : Obligations.SeizureTakesFirstAdmissible := by
  constructor
  · intro s history c r free inService untried admits below
    have hadmits : stateAdmits r c.kind = true ↔ admits := stateAdmits_iff
    have hbelow : ceilingAdmits s r.owner = true ↔ below := ceilingAdmits_iff
    obtain ⟨h1, h5, h2, h3, h4, h0⟩ := examine_in_order s history c
    refine ⟨h1, h5, h2, fun hi hu hf ha => h3 hi hu hf (mt hadmits.1 ha),
      fun hi hu hf ha hb => h4 hi hu hf (hadmits.2 ha) (mt hbelow.1 hb),
      fun hi hu hf ha hb => h0 hi hu hf (hadmits.2 ha) (hbelow.2 hb), fun h => ?_⟩
    obtain ⟨hfree, hceiling⟩ := examine_admissible h
    exact ⟨Nat.lt_of_sub_pos hfree, hbelow.1 hceiling⟩
  · intro s history pre rest hdistinct hrefused hadmissible u counts refused4
    rw [List.map_append] at hdistinct
    obtain ⟨hpre, -, happart⟩ := List.nodup_append.1 hdistinct
    obtain ⟨hnow, hsupervision, hbackup⟩ := examined_keeps (history := history) (pre := pre) (s := s)
    cases rest with
    | nil =>
      have hu : seize history (pre ++ []) s = (none, examined history pre s) := by
        rw [List.append_nil]
        exact seize_of_refused hrefused
      simp only [u, hu]
      refine ⟨rfl, fun x hx => group_examined_by_verdict hpre hx, by simp,
        fun g hg => group_examined_of_not_mem (by simpa using hg), carrier_examined, fun _ => hbackup, by simp, ?_⟩
      rw [examined_eq]
      rfl
    | cons c rest =>
      have hu : seize history (pre ++ c :: rest) s = (some c, takenBy c.group (examined history pre s)) :=
        seize_of_admissible rest hrefused (hadmissible c rfl)
      have hne : ∀ x ∈ pre, x.group ≠ c.group := fun x hx =>
        happart _ (List.mem_map_of_mem hx) _ (by simp)
      have hgroup : (examined history pre s).group c.group = s.group c.group := group_examined_of_not_mem fun h => by
        obtain ⟨x, hx, hxc⟩ := List.mem_map.1 h
        exact hne x hx hxc
      have hsettlement := settlement_congr (congrArg Backup.settlements hbackup)
      simp only [u, hu]
      refine ⟨rfl, fun x hx => ?_, ?_, fun g hg => ?_, fun k => ?_, by simp, ?_, ?_⟩
      · rw [group_takenBy_other _ _ (hne x hx)]
        exact group_examined_by_verdict hpre hx
      · rintro _ ⟨⟩
        rw [group_takenBy_same, hgroup, counted, hnow, hsupervision]
      · rw [List.map_append, List.mem_append, not_or] at hg
        obtain ⟨hrefusedAll, htaken⟩ := hg
        rw [group_takenBy_other _ _ (by simpa using htaken), group_examined_of_not_mem hrefusedAll]
      · rw [carrier_takenBy, carrier_examined]
        rfl
      · rintro _ ⟨⟩ k
        rw [openHandovers_takenBy, sums_takenBy, hgroup, State.openHandovers, hsettlement]
        exact ⟨rfl, rfl⟩
      · rw [takenBy_eq, examined_eq]
        rfl

end Sys2Proof.Machine
end

section
/-! PROOFS. RELEASE of an answered call: what the Carrier Table makes of the two totals, and the charge record (R30, R87, R139 to
R142, R146). -/

namespace Sys2Proof.Machine

/-! ### Accumulation (R146) -/

theorem satAdd_eq (top x : Nat) (mark : Bool) (n : Nat) :
    satAdd top x mark n = (min top (x + n), mark || decide (top < x + n)) := by
  unfold satAdd
  split
  next h => simp [h, Nat.min_eq_left h.le]
  next h => simp [h, Nat.min_eq_right (Nat.not_lt.1 h)]

theorem addTotal_inbound (v : Sums) (n : Nat) : v.addTotal .inbound n = { v with
    receivable := min top48 (v.receivable + n), satReceivable := v.satReceivable || decide (top48 < v.receivable + n),
    inCount := min top32 (v.inCount + 1), satInCount := v.satInCount || decide (top32 < v.inCount + 1) } := by
  simp only [Sums.addTotal, satAdd_eq]

theorem addTotal_outbound (v : Sums) (n : Nat) : v.addTotal .outbound n = { v with
    payable := min top48 (v.payable + n), satPayable := v.satPayable || decide (top48 < v.payable + n),
    outCount := min top32 (v.outCount + 1), satOutCount := v.satOutCount || decide (top32 < v.outCount + 1) } := by
  simp only [Sums.addTotal, satAdd_eq]

/-! ### Saturation marks and their status events (R146) -/

/-- A saturation mark is clear in `v` and set in `w`. -/
def Marked (v w : Sums) : Prop :=
  (v.satReceivable = false ∧ w.satReceivable = true) ∨ (v.satPayable = false ∧ w.satPayable = true) ∨
  (v.satInCount = false ∧ w.satInCount = true) ∨ (v.satOutCount = false ∧ w.satOutCount = true)

/-- A mark set in `v` is set in `w`. -/
def MarksKept (v w : Sums) : Prop :=
  (v.satReceivable = true → w.satReceivable = true) ∧ (v.satPayable = true → w.satPayable = true) ∧
  (v.satInCount = true → w.satInCount = true) ∧ (v.satOutCount = true → w.satOutCount = true)

theorem not_marked_self (v : Sums) : ¬ Marked v v := by
  simp [Marked]

theorem newMarks_eq_zero_iff {v w : Sums} : newMarks v w = 0 ↔ ¬ Marked v w := by
  have hbit : ∀ a b : Bool, bit (b && !a) = 0 ↔ ¬ (a = false ∧ b = true) := by decide
  simp only [newMarks, Nat.add_eq_zero_iff, hbit, Marked, not_or, and_assoc]

theorem marksKept_addTotal (v : Sums) (d : Direction) (n : Nat) : MarksKept v (v.addTotal d n) := by
  cases d
  · rw [addTotal_inbound]
    exact ⟨fun h => by simp [h], id, fun h => by simp [h], id⟩
  · rw [addTotal_outbound]
    exact ⟨id, fun h => by simp [h], id, fun h => by simp [h]⟩

theorem MarksKept.trans {v w x : Sums} (h : MarksKept v w) (k : MarksKept w x) : MarksKept v x := by
  obtain ⟨hr, hp, hi, ho⟩ := h
  obtain ⟨kr, kp, ki, ko⟩ := k
  exact ⟨kr ∘ hr, kp ∘ hp, ki ∘ hi, ko ∘ ho⟩

/-- A mark that is never cleared is set in one of two stages. -/
theorem Marked.stage {v w x : Sums} (h : Marked v x) : Marked v w ∨ Marked w x := by
  have hstage : ∀ a b c : Bool, a = false ∧ c = true → (a = false ∧ b = true) ∨ (b = false ∧ c = true) := by decide
  unfold Marked at *
  rcases h with h | h | h | h
  · exact (hstage _ w.satReceivable _ h).imp .inl .inl
  · exact (hstage _ w.satPayable _ h).imp (.inr ∘ .inl) (.inr ∘ .inl)
  · exact (hstage _ w.satInCount _ h).imp (.inr ∘ .inr ∘ .inl) (.inr ∘ .inr ∘ .inl)
  · exact (hstage _ w.satOutCount _ h).imp (.inr ∘ .inr ∘ .inr) (.inr ∘ .inr ∘ .inr)

theorem Marked.before {v w x : Sums} (h : Marked v w) (k : MarksKept w x) : Marked v x := by
  obtain ⟨kr, kp, ki, ko⟩ := k
  exact h.imp (.imp_right kr) (.imp (.imp_right kp) (.imp (.imp_right ki) (.imp_right ko)))

theorem Marked.after {v w x : Sums} (h : MarksKept v w) (k : Marked w x) : Marked v x := by
  obtain ⟨hr, hp, hi, ho⟩ := h
  have hclear : ∀ {a b : Bool}, (a = true → b = true) → b = false → a = false := by decide
  exact k.imp (.imp_left (hclear hr)) (.imp (.imp_left (hclear hp)) (.imp (.imp_left (hclear hi)) (.imp_left (hclear ho))))

/-- From `s` to `t` no saturation mark is cleared, and a status event is raised exactly when one is set. -/
structure MarksRaised (s t : State) : Prop where
  kept : ∀ k, MarksKept (s.settlement k).sums (t.settlement k).sums
  raised : (∃ k, Marked (s.settlement k).sums (t.settlement k).sums) → t.regs = (statusEvent s).regs
  quiet : (∀ k, ¬ Marked (s.settlement k).sums (t.settlement k).sums) → t.regs = s.regs

theorem MarksRaised.same {s t : State} (hsums : ∀ k, (t.settlement k).sums = (s.settlement k).sums) (hregs : t.regs = s.regs) :
    MarksRaised s t where
  kept k := by rw [hsums]; exact ⟨id, id, id, id⟩
  raised := fun ⟨k, hk⟩ => absurd hk (by rw [hsums]; exact not_marked_self _)
  quiet _ := hregs

theorem MarksRaised.trans {s t u : State} (h : MarksRaised s t) (k : MarksRaised t u) : MarksRaised s u where
  kept n := (h.kept n).trans (k.kept n)
  raised := by
    rintro ⟨n, hn⟩
    by_cases hlater : ∃ m, Marked (t.settlement m).sums (u.settlement m).sums
    · rw [k.raised hlater]
      by_cases hearlier : ∃ m, Marked (s.settlement m).sums (t.settlement m).sums
      · rw [statusEvent_regs_congr (h.raised hearlier), statusEvent_statusEvent]
      · exact statusEvent_regs_congr (h.quiet (not_exists.1 hearlier))
    · have hlater := not_exists.1 hlater
      rw [k.quiet hlater, h.raised ⟨n, hn.stage.resolve_right (hlater n)⟩]
  quiet hnone := by
    rw [k.quiet fun n hn => hnone n (hn.after (h.kept n)), h.quiet fun n hn => hnone n (hn.before (k.kept n))]

theorem statusEvents_regs (n : Nat) (s : State) : (statusEvents n s).regs = if n = 0 then s.regs else (statusEvent s).regs := by
  have hagain : ∀ m, (statusEvents m (statusEvent s)).regs = (statusEvent s).regs := fun m => by
    induction m with
    | zero => rfl
    | succ m ih => rw [statusEvents, statusEvent_statusEvent, ih]
  cases n with
  | zero => rfl
  | succ n => exact hagain n

theorem statusEvents_eq (n : Nat) (s : State) : statusEvents n s = s.setRegs (statusEvents n s).regs := by
  obtain ⟨hplan, hgroups, hsupervision, hjob, hcontexts, hclock, hcarriers, hcarrierJob, hbackup, hintake, hmirror, hport, hpower,
    hmem, hfailures, hpending⟩ := statusEvents_keeps n s
  exact State.eq_of_blocks hplan hgroups hsupervision hjob hcontexts hclock hcarriers hcarrierJob hbackup hintake hmirror hport rfl
    hpower hmem hfailures hpending

theorem sums_putSums (c k : Nat) (v : Sums) (s : State) :
    ((putSums c v s).settlement k).sums = if k = c then v else (s.settlement k).sums := by
  rw [putSums, statusEvents_eq]
  change ((putSettlement c { s.settlement c with sums := v } s).settlement k).sums = _
  rw [settlement_putSettlement]
  split <;> rfl

theorem putSums_eq (c : Nat) (v : Sums) (s : State) : putSums c v s = (s.setBackup
    { s.backup with settlements := (putSums c v s).backup.settlements }).setRegs (putSums c v s).regs := by
  unfold putSums
  rw [statusEvents_eq]
  rfl

theorem marksRaised_putSums {c : Nat} {v : Sums} {s : State} (hkept : MarksKept (s.settlement c).sums v) :
    MarksRaised s (putSums c v s) := by
  have hregs : (putSums c v s).regs = if newMarks (s.settlement c).sums v = 0 then s.regs else (statusEvent s).regs := by
    have hwritten : (statusEvent (putSettlement c { s.settlement c with sums := v } s)).regs = (statusEvent s).regs :=
      statusEvent_regs_congr (by simp)
    rw [putSums, statusEvents_regs, hwritten]
    rfl
  have hmarked : ∀ k, Marked (s.settlement k).sums ((putSums c v s).settlement k).sums ↔
      k = c ∧ Marked (s.settlement c).sums v := fun k => by
    rw [sums_putSums]
    split
    next h => simp [h]
    next h => simp [h, not_marked_self]
  refine ⟨fun k => ?_, fun ⟨k, hk⟩ => ?_, fun hnone => ?_⟩
  · rw [sums_putSums]
    split
    next h => rw [h]; exact hkept
    next => exact ⟨id, id, id, id⟩
  · rw [hregs, if_neg fun hzero => newMarks_eq_zero_iff.1 hzero ((hmarked k).1 hk).2]
  · rw [hregs, if_pos (newMarks_eq_zero_iff.2 fun hc => hnone c ((hmarked c).2 ⟨rfl, hc⟩))]

/-! ### A direction's total handed over (R142) -/

section
variable (c : Nat) (d : Direction) (p : Option Price) (s : State)

theorem sums_handTotal (k : Nat) : ((handTotal c d p s).settlement k).sums =
    if k = c ∧ p.isSome = true then (s.settlement k).sums.addTotal d (totalOf p) else (s.settlement k).sums := by
  cases p with
  | none => simp [handTotal]
  | some x =>
    rw [handTotal, accumulate, sums_putSums]
    by_cases hk : k = c <;> simp [hk, totalOf]

theorem marksRaised_handTotal : MarksRaised s (handTotal c d p s) := by
  cases p with
  | none => exact .same (fun _ => rfl) rfl
  | some x => exact marksRaised_putSums (marksKept_addTotal _ _ _)

theorem handTotal_eq : handTotal c d p s = (s.setBackup
    { s.backup with settlements := (handTotal c d p s).backup.settlements }).setRegs (handTotal c d p s).regs := by
  cases p with
  | none => rfl
  | some x => exact putSums_eq _ _ _

end

/-- What a carrier's sums are after the totals that it is handed in each direction (R146). -/
theorem sums_of_totals {v w : Sums} {paysIn paysOut : Prop} [Decidable paysIn] [Decidable paysOut] {totalIn totalOut : Nat}
    (hw : w = if paysOut then (if paysIn then v.addTotal .inbound totalIn else v).addTotal .outbound totalOut
      else if paysIn then v.addTotal .inbound totalIn else v) :
    w.unsettled = v.unsettled ∧
    (paysIn → w.receivable = min top48 (v.receivable + totalIn) ∧
      w.satReceivable = (v.satReceivable || decide (top48 < v.receivable + totalIn)) ∧
      w.inCount = min top32 (v.inCount + 1) ∧ w.satInCount = (v.satInCount || decide (top32 < v.inCount + 1))) ∧
    (¬ paysIn → w.receivable = v.receivable ∧ w.satReceivable = v.satReceivable ∧ w.inCount = v.inCount ∧
      w.satInCount = v.satInCount) ∧
    (paysOut → w.payable = min top48 (v.payable + totalOut) ∧
      w.satPayable = (v.satPayable || decide (top48 < v.payable + totalOut)) ∧
      w.outCount = min top32 (v.outCount + 1) ∧ w.satOutCount = (v.satOutCount || decide (top32 < v.outCount + 1))) ∧
    (¬ paysOut → w.payable = v.payable ∧ w.satPayable = v.satPayable ∧ w.outCount = v.outCount ∧
      w.satOutCount = v.satOutCount) := by
  rw [hw]
  by_cases hin : paysIn <;> by_cases hout : paysOut <;> simp [hin, hout, addTotal_inbound, addTotal_outbound]

/-! ### The charge record (R140, R141) -/

theorem any_surcharge (p : Option Price) :
    p.any (fun p => decide (0 < p.surcharge)) = decide (0 < (p.map Price.surcharge).getD 0) := by
  cases p <;> simp

theorem any_capped (p : Option Price) :
    p.any Price.capped = decide (top32 < (p.map (fun p => p.base + p.surcharge)).getD 0) := by
  cases p with
  | none => rfl
  | some p => rfl

theorem releaseFlags_eq (a : Answered) (pin pout : Option Price) : releaseFlags a pin pout =
    bit pin.isSome + 2 * bit pout.isSome + 8 * bit a.merged + 16 * bit a.long + 32 * bit a.timeUnset + 64 * bit a.freeRunning +
      128 * bit (decide (0 < (pin.map Price.surcharge).getD 0 ∨ 0 < (pout.map Price.surcharge).getD 0)) +
      256 * bit (decide (top32 < (pin.map (fun p => p.base + p.surcharge)).getD 0 ∨
        top32 < (pout.map (fun p => p.base + p.surcharge)).getD 0)) := by
  simp only [releaseFlags, any_surcharge, any_capped, Bool.decide_or]

/-! ### The release (R30, R87) -/

section
variable (s : State) (i : Nat) (call : Call) (a : Answered)

/-- The seizure returned and the priced directions' totals handed to the Carrier Table. -/
def priced : State :=
  handTotal (callOwner s call) .outbound (outboundPrice s.now call a)
    (handTotal call.origin .inbound (inboundPrice s.now call a) (returnSeizure call.group s))

theorem sums_priced (k : Nat) :
    let v := (s.settlement k).sums
    let w := if k = call.origin ∧ (inboundPrice s.now call a).isSome = true then
      v.addTotal .inbound (totalOf (inboundPrice s.now call a)) else v
    ((priced s call a).settlement k).sums =
      if k = callOwner s call ∧ (outboundPrice s.now call a).isSome = true then
        w.addTotal .outbound (totalOf (outboundPrice s.now call a)) else w := by
  obtain ⟨-, hsums, -⟩ := returnSeizure_spec call.group s
  simp only [priced, sums_handTotal, hsums]

theorem marksRaised_priced : MarksRaised s (priced s call a) := by
  obtain ⟨-, hsums, -⟩ := returnSeizure_spec call.group s
  have hreturned : MarksRaised s (returnSeizure call.group s) := .same hsums (by simp)
  exact (hreturned.trans (marksRaised_handTotal ..)).trans (marksRaised_handTotal ..)

theorem openHandovers_handTotal (c : Nat) (d : Direction) (p : Option Price) (u : State) (k : Nat) :
    (handTotal c d p u).openHandovers k = u.openHandovers k := (sameSeizures_handTotal c d p u).handovers k

theorem seizureReturned_priced : SeizureReturned s (priced s call a) call.group := by
  obtain ⟨⟨hgroup, hothers, hopen⟩, -, -⟩ := returnSeizure_spec call.group s
  have hgroups : (priced s call a).groups = (returnSeizure call.group s).groups := by simp [priced]
  refine ⟨by rw [group_congr hgroups, hgroup], fun h hne => by rw [group_congr hgroups, hothers h hne], fun k => ?_⟩
  rw [priced, openHandovers_handTotal, openHandovers_handTotal, hopen]

theorem priced_eq : priced s call a = ((s.setGroups (priced s call a).groups).setBackup
    { s.backup with settlements := (priced s call a).backup.settlements }).setRegs (priced s call a).regs := by
  obtain ⟨-, -, hbackup⟩ := returnSeizure_spec call.group s
  unfold priced
  rw [handTotal_eq, handTotal_eq, returnSeizure_eq, hbackup]
  rfl

end

/-- Settles O23: the released call is priced and its context freed, and the sums, marks and EVENTS are those of the two totals
handed over. -/
theorem releasePricesAnsweredCall : Obligations.ReleasePricesAnsweredCall := by
  intro s slot req i generation call a hserved hclear hnames owner d price pin pout total band marked
  have hcontext : s.context i = { generation := generation, state := .answered call a } := by
    obtain ⟨-, -, -, -, hcontext⟩ := hnames
    exact hcontext
  have hframe := priced_eq s call a
  have hkept : (priced s call a).contexts = s.contexts := by rw [hframe]; rfl
  have hfree : freeContext i (priced s call a) = putContext i { generation := generation, state := .free } (priced s call a) := by
    have hread : (priced s call a).context i = s.context i := context_congr (by rw [hkept]) i
    rw [freeContext, hread, hcontext]
  have hmarks := marksRaised_priced s call a
  have hexec : exec .release s = .next _ := serve_of_served hserved
  refine ⟨putContext i { generation := generation, state := .free } (priced s call a), ?_, ?_⟩
  · rw [hexec, callRequest_of_names hclear hnames (by simp), ← hfree]
    simp only [releaseRule, chargeRecord, releaseFlags_eq]
    rfl
  · refine and_assoc.1 ⟨sameOtherContexts_of_put ?_, seizureReturned_priced s call a, ?_, ?_, ?_, hmarks.quiet, ?_⟩
    · rw [← hkept]
      rfl
    · exact fun k => sums_of_totals (sums_priced s call a k)
    · change (priced s call a).backup = { s.backup with settlements := (priced s call a).backup.settlements }
      rw [hframe]
      rfl
    · intro hmarked
      have hregs := hmarks.raised hmarked
      have hevents : (statusEvent s).regs.events = true := raiseBit_sets .events s
      exact ⟨hregs, hregs ▸ hevents⟩
    · rw [hframe]
      rfl

end Sys2Proof.Machine
end

section
/-! PROOFS. The abort sweep: how it works through strip codes, and the answer it writes to a TAKEN slot (R158, R166, R167, R173,
R176). -/

namespace Sys2Proof.Machine

/-! ### The sweep with no answer waiting and no recovery -/

section
variable {v : State}

/-- With no answer formed and no recovery in progress there is nothing to go on with (R161, R172). -/
theorem proceedAnswers_of_idle (hformed : v.intake.formed = []) (hrecovery : v.intake.recovery = none) :
    proceedAnswers v = v := by
  simp only [proceedAnswers, hrecovery, startAnswerWrite, hformed, ite_self]

/-- In RUNNING every code but TAKEN is passed over (R176). -/
theorem sweepCodes_passes (hrunning : v.regs.engine = .running) {pre : List Byte} (hpre : 2#8 ∉ pre) (codes : List Byte) :
    sweepCodes (pre ++ codes) v =
      sweepCodes codes (setSweep { v.intake.sweep with next := v.intake.sweep.next + pre.length } v) := by
  induction pre generalizing v with
  | nil => rfl
  | cons c pre ih =>
    rw [List.mem_cons, not_or] at hpre
    obtain ⟨hc, hpre⟩ := hpre
    have hpassed : sweepCodes (c :: (pre ++ codes)) v =
        sweepCodes (pre ++ codes) (setSweep { v.intake.sweep with next := v.intake.sweep.next + 1 } v) := by
      simp [sweepCodes, hrunning, Ne.symm hc]
    rw [List.cons_append, hpassed, ih (by exact hrunning) hpre, List.length_cons, Nat.add_comm pre.length 1,
      ← Nat.add_assoc]
    rfl

theorem sweepCodes_all (hrunning : v.regs.engine = .running) {codes : List Byte} (hnone : 2#8 ∉ codes) :
    sweepCodes codes v =
      sweepCodes [] (setSweep { v.intake.sweep with next := v.intake.sweep.next + codes.length } v) := by
  have hpassed := sweepCodes_passes hrunning hnone []
  rwa [List.append_nil] at hpassed

/-- In RUNNING a TAKEN slot's request header is read (R176). -/
theorem sweepCodes_taken (hrunning : v.regs.engine = .running) (rest : List Byte) : sweepCodes (2#8 :: rest) v =
    ask .intake (bodyRead v .sweepHeader v.intake.sweep.next 8) (setSweep { v.intake.sweep with codes := rest } v) := by
  simp only [sweepCodes, hrunning, reduceCtorEq, if_false, if_true]
  rfl

/-- In RUNNING the strip is read on while slots are left (R176). -/
theorem sweepCodes_nil_of_left (hrunning : v.regs.engine = .running) (hleft : v.intake.sweep.next < slotCount v) :
    sweepCodes [] v = ask .intake (stripFrom v .sweepStrip v.intake.sweep.next (slotCount v)) v := by
  have hlength : min (slotCount v) (2 ^ v.regs.sizeExp - v.intake.sweep.next) = slotCount v - v.intake.sweep.next :=
    Nat.min_eq_right (Nat.sub_le _ _)
  rw [sweepCodes, if_neg (Nat.not_le.2 hleft), if_neg (by simp [hrunning]), askSweepStrip, stripFrom, hlength]
  rfl

/-- A pass starts at a resume point within the area (R159). -/
theorem passStarts_startPass {r : Nat} (hr : v.intake.resume = r) (hslot : r < 2 ^ v.regs.sizeExp) :
    PassStarts v (startPass v) r := by
  simp only [PassStarts, startPass, askStrip, slotCount, hr, if_pos hslot]
  rfl

/-- The intake once the sweep is complete: nothing is owed, and the scan timer starts (R158, R176). -/
def Intake.swept (k : Intake) (interval : Nat) : Intake :=
  { k with sweep := { owed := false, next := 0, active := false, codes := [] }, timer := some interval, rescan := false,
           passDue := false }

/-- A pass that is due starts in RUNNING, unless one is in progress (R172, R176). -/
theorem launchDuePass_of_running (hrunning : v.regs.engine = .running) (hpass : v.intake.pass = none) : launchDuePass v =
    if v.intake.passDue = true then startPass (v.setIntake { v.intake with passDue := false }) else v := by
  simp only [launchDuePass, hrunning, hpass, and_self, if_true]

/-- A sweep completed in RUNNING: a pass made due meanwhile starts (R158, R176). -/
theorem finishSweep_of_running (hrunning : v.regs.engine = .running) (hformed : v.intake.formed = [])
    (hrecovery : v.intake.recovery = none) (hpass : v.intake.pass = none) : finishSweep v =
      if (v.intake.passDue || v.intake.rescan) = true then startPass (v.setIntake (v.intake.swept v.regs.interval))
      else v.setIntake (v.intake.swept v.regs.interval) := by
  have hended : finishSweep v = launchDuePass (v.setIntake { v.intake.swept v.regs.interval with
      passDue := v.intake.passDue || v.intake.rescan }) := by
    unfold finishSweep
    dsimp only
    have hnone : ¬ v.intake.recovery.isSome = true := by simp [hrecovery]
    rw [if_pos (by exact hrunning), proceedAnswers_of_idle (by exact hformed) (by exact hrecovery), if_neg (by exact hnone)]
    rfl
  rw [hended, launchDuePass_of_running (by exact hrunning) (by exact hpass)]
  cases hdue : v.intake.passDue || v.intake.rescan with
  | true => rfl
  | false => simp [Intake.swept]

/-- In DRAINING a sweep that stops or is complete leaves the machine to halt (R170, R176). -/
theorem checkHalt_of_draining (hdraining : v.regs.engine = .draining) (hsweep : v.intake.sweep.active = false) :
    checkHalt v = v.setRegs { v.regs with
      engine := if v.intake.inHand = [] ∧ v.mirror.marks = none then .halted else .draining } := by
  unfold checkHalt
  by_cases hdone : v.intake.inHand = [] ∧ v.mirror.marks = none
  · rw [if_pos hdone, if_pos ⟨hdraining, hdone.1, hdone.2, hsweep⟩]
    rfl
  · rw [if_neg hdone, if_neg fun ⟨_, hinHand, hmarks, _⟩ => hdone ⟨hinHand, hmarks⟩, ← hdraining]
    rfl

/-- What is left of the sweep in DRAINING is `w`, at rest. -/
theorem sweepLeft_of_draining {w : Sweep} (hdraining : v.regs.engine = .draining) (hformed : v.intake.formed = [])
    (hrecovery : v.intake.recovery = none) (hw : w.active = false) : checkHalt (proceedAnswers (setSweep w v)) =
      (v.setIntake { v.intake with sweep := w }).setRegs
        { v.regs with engine := if v.intake.inHand = [] ∧ v.mirror.marks = none then .halted else .draining } := by
  rw [proceedAnswers_of_idle (by exact hformed) (by exact hrecovery), checkHalt_of_draining (by exact hdraining) hw]
  rfl

theorem sweepCodes_of_draining (hdraining : v.regs.engine = .draining) (hformed : v.intake.formed = [])
    (hrecovery : v.intake.recovery = none) (codes : List Byte) : sweepCodes codes v =
      (v.setIntake { v.intake with
        sweep := if codes = [] ∧ slotCount v ≤ v.intake.sweep.next then { owed := false, next := 0, active := false, codes := [] }
          else { v.intake.sweep with active := false, codes := [] } }).setRegs
        { v.regs with engine := if v.intake.inHand = [] ∧ v.mirror.marks = none then .halted else .draining } := by
  have hstop := fun w hw => sweepLeft_of_draining (w := w) hdraining hformed hrecovery hw
  have hrunning : ¬ v.regs.engine = .running := by simp [hdraining]
  cases codes with
  | nil =>
    by_cases hdone : slotCount v ≤ v.intake.sweep.next
    · have hfinish : finishSweep v =
          checkHalt (proceedAnswers (setSweep { owed := false, next := 0, active := false, codes := [] } v)) :=
        if_neg hrunning
      have hcomplete : ([] : List Byte) = [] ∧ slotCount v ≤ v.intake.sweep.next := ⟨rfl, hdone⟩
      rw [sweepCodes, if_pos hdone, hfinish, hstop _ rfl, if_pos hcomplete]
    · have hleft : ¬ (([] : List Byte) = [] ∧ slotCount v ≤ v.intake.sweep.next) := fun ⟨_, h⟩ => hdone h
      rw [sweepCodes, if_neg hdone, if_pos hdraining, stopSweep, hstop _ rfl, if_neg hleft]
  | cons c rest =>
    have hleft : ¬ (c :: rest = [] ∧ slotCount v ≤ v.intake.sweep.next) := fun ⟨h, _⟩ => List.cons_ne_nil _ _ h
    rw [sweepCodes, if_pos hdraining, stopSweep, hstop _ rfl, if_neg hleft]

theorem sweepGoesOn_sweepCodes (hformed : v.intake.formed = []) (hrecovery : v.intake.recovery = none) (codes : List Byte) :
    SweepGoesOn v codes (sweepCodes codes v) := by
  refine ⟨fun hrunning => ⟨?_, fun hnone hleft => ?_, fun hnone hleft hpass => ?_⟩, fun hdraining =>
    sweepCodes_of_draining hdraining hformed hrecovery codes⟩
  · rintro pre rest rfl hpre
    rw [sweepCodes_passes hrunning hpre, sweepCodes_taken (by exact hrunning)]
    rfl
  · rw [sweepCodes_all hrunning hnone, sweepCodes_nil_of_left (by exact hrunning) hleft]
    rfl
  · have hswept : sweepCodes codes v =
        if (v.intake.passDue || v.intake.rescan) = true then startPass (v.setIntake (v.intake.swept v.regs.interval))
        else v.setIntake (v.intake.swept v.regs.interval) := by
      rw [sweepCodes_all hrunning hnone, sweepCodes, if_pos (by exact hleft),
        finishSweep_of_running (by exact hrunning) (by exact hformed) (by exact hrecovery) (by exact hpass)]
      rfl
    refine ⟨fun hrescan hdue => ?_, fun hdue hresume => ?_⟩
    · rw [hswept, if_neg (by simp [hrescan, hdue])]
      rfl
    · rw [hswept, if_pos (by simpa [or_comm] using hdue)]
      exact passStarts_startPass rfl hresume

end

/-! ### The ABORTED_BY_RESET answer (Table 10-3, R176) -/

theorem byteAt_layOut (start len : Nat) (fields : List Field) (i : Nat) :
    byteAt (layOut start len fields) i = if i < len then (fieldByte fields (start + i)).toNat else 0 := by
  unfold byteAt layOut
  split
  next h => simp [List.getD, h]
  next h => simp [List.getD, h]

theorem layOut_length (start len : Nat) (fields : List Field) : (layOut start len fields).length = len := by
  simp [layOut]

theorem readLE_four (bytes : List Byte) (off : Nat) : readLE bytes off 4 = byteAt bytes off + 256 * (byteAt bytes (off + 1) +
    256 * (byteAt bytes (off + 2) + 256 * byteAt bytes (off + 3))) := rfl

/-- What an answer half without fields of its kind holds. -/
theorem answerHalf_header (code : Code) (req : List Byte) :
    (answerHalf code req 0 []).length = 64 ∧ byteAt (answerHalf code req 0 []) 0 = code.value ∧
    byteAt (answerHalf code req 0 []) 1 = byteAt req 0 ∧
    readLE (answerHalf code req 0 []) 4 4 = readLE req 4 4 ∧ byteAt (answerHalf code req 0 []) 2 = 0 ∧
    byteAt (answerHalf code req 0 []) 3 = 0 ∧ ∀ i, 8 ≤ i → byteAt (answerHalf code req 0 []) i = 0 := by
  have hbyte : ∀ i < 64, byteAt (answerHalf code req 0 []) i = (fieldByte [⟨64, 1, code.value⟩, ⟨65, 1, byteAt req 0⟩,
      ⟨66, 2, 0⟩, ⟨68, 4, tagOf req⟩] (64 + i)).toNat := fun i hi => by rw [answerHalf, byteAt_layOut, if_pos hi]
  have htag : ∀ i < 4, byteAt (answerHalf code req 0 []) (4 + i) = tagOf req / 256 ^ i % 256 := fun i hi => by
    rw [hbyte _ (by omega)]
    simp [fieldByte, show ¬ 64 + (4 + i) < 65 by omega, show ¬ 64 + (4 + i) < 66 by omega, show ¬ 64 + (4 + i) < 68 by omega,
      show 68 ≤ 64 + (4 + i) by omega, show 64 + (4 + i) < 72 by omega, show 64 + (4 + i) - 68 = i by omega]
  refine ⟨layOut_length .., ?_, ?_, ?_, ?_, ?_, fun i hi => ?_⟩
  · rw [hbyte 0 (by omega)]
    cases code <;> rfl
  · rw [hbyte 1 (by omega)]
    simpa [fieldByte] using Nat.mod_eq_of_lt (byteAt_lt req 0)
  · have hlow := fun i => byteAt_lt req (4 + i)
    have hvalue : tagOf req = _ := readLE_four req 4
    have h0 := hlow 0
    have h1 := hlow 1
    have h2 := hlow 2
    have h3 := hlow 3
    have hzero := htag 0 (by omega)
    rw [Nat.add_zero] at h0 hzero
    rw [readLE_four, hzero, htag 1 (by omega), htag 2 (by omega), htag 3 (by omega), readLE_four]
    simp only [Nat.reducePow, Nat.pow_zero]
    omega
  · rw [hbyte 2 (by omega)]
    rfl
  · rw [hbyte 3 (by omega)]
    rfl
  · by_cases hlast : i < 64
    · rw [hbyte i hlast]
      simp [fieldByte, show ¬ 64 + i < 65 by omega, show ¬ 64 + i < 66 by omega, show ¬ 64 + i < 68 by omega,
        show ¬ 64 + i < 72 by omega]
    · rw [answerHalf, byteAt_layOut, if_neg hlast]

/-! ### Completed transfers of the sweep -/

theorem afterTransfer_intake_regs (r : Requester) (t : Transfer) (ts : List Transfer) (s : State) :
    (afterTransfer r t ts s).intake = s.intake ∧ (afterTransfer r t ts s).regs = s.regs := by
  simp [afterTransfer]

section
variable {s v : State} (hintake : v.intake = s.intake) (hregs : v.regs = s.regs)
include hintake

include hregs in
theorem sweepHeaderRead_eq (header : List Byte) : sweepHeaderRead header v =
    ask .intake (bodyWrite s .sweepAnswer s.intake.sweep.next (answerHalf .abortedByReset header 0 [])) v := by
  simp only [sweepHeaderRead, areaAddr, hintake, hregs]
  rfl

include hregs in
theorem sweepAnswerWritten_eq :
    sweepAnswerWritten v = ask .intake (stripWrite s .sweepAnswered s.intake.sweep.next 3#8) v := by
  simp only [sweepAnswerWritten, areaAddr, hintake, hregs]
  rfl

theorem sweepAnsweredWritten_eq : sweepAnsweredWritten v = sweepCodes s.intake.sweep.codes ((raiseBit .answers v).setIntake
    { s.intake with sweep := { s.intake.sweep with next := s.intake.sweep.next + 1 } }) := by
  have hraised : (raiseBit .answers v).intake = s.intake := by simp [hintake]
  simp only [sweepAnsweredWritten, setSweep, hraised]

end

/-- Settles O55, by what the completed transfer was for. -/
theorem sweepAnswersTakenSlots : Obligations.SweepAnswersTakenSlots := by
  intro s t ts data hcompletes _ hformed hrecovery v bytes w
  obtain ⟨hintake, hregs⟩ : v.intake = s.intake ∧ v.regs = s.regs := afterTransfer_intake_regs ..
  have hexec : exec (.memoryBurstDone (.done data)) s = .next (serveNext .intake (completed t.purpose bytes v)) :=
    exec_memoryBurstDone_of_completes hcompletes
  refine ⟨fun hpurpose => ?_, fun hpurpose => ?_, fun hpurpose => ?_, fun hpurpose => ?_⟩ <;> rw [hexec, hpurpose]
  · exact ⟨_, rfl, sweepGoesOn_sweepCodes (hintake ▸ hformed) (hintake ▸ hrecovery) bytes⟩
  · exact ⟨_, by rw [completed, sweepHeaderRead_eq hintake hregs], answerHalf_header .abortedByReset bytes⟩
  · rw [completed, sweepAnswerWritten_eq hintake hregs]
  · rw [completed, sweepAnsweredWritten_eq hintake]
    exact ⟨_, rfl, sweepGoesOn_sweepCodes (by exact hformed) (by exact hrecovery) w.codes⟩

end Sys2Proof.Machine
end

section
/-! PROOFS. Every step keeps the supervision parameters and the gap table, the calendar, the Backup Domain and the tariff sets
in their ranges (R39, R50, R52, R101, R102, R117, R121, R145, R152, R174). -/

namespace Sys2Proof.Machine

/-! ### The gap table (R50 to R57) -/

theorem gapWithCode_eq_none_iff {s : State} {code : List Nat} :
    gapWithCode s code = none ↔ ∀ e ∈ s.supervision.gaps, e.code ≠ code := by
  simp [gapWithCode]

section
variable {u : Supervision} (h : u.Legal)
include h

theorem Supervision.Legal.withGaps {gaps : List GapEntry} (hlength : gaps.length ≤ 256)
    (hcodes : (gaps.map GapEntry.code).Nodup) (hgaps : ∀ e ∈ gaps, e.Legal) : Supervision.Legal { u with gaps := gaps } := by
  obtain ⟨hperiod, hperiodTop, hthreshold, hinterval, hintervalTop, -⟩ := h
  exact ⟨hperiod, hperiodTop, hthreshold, hinterval, hintervalTop, hlength, hcodes, hgaps⟩

theorem Supervision.Legal.gaps_legal : u.gaps.length ≤ 256 ∧ (u.gaps.map GapEntry.code).Nodup ∧ ∀ e ∈ u.gaps, e.Legal := by
  obtain ⟨-, -, -, -, -, hgaps⟩ := h
  exact hgaps

theorem Supervision.Legal.mapGaps {f : GapEntry → GapEntry} (hcode : ∀ e, (f e).code = e.code)
    (hf : ∀ e : GapEntry, e.Legal → (f e).Legal) : Supervision.Legal { u with gaps := u.gaps.map f } := by
  obtain ⟨hlength, hcodes, hgaps⟩ := h.gaps_legal
  refine h.withGaps (by simpa using hlength) ?_ fun e he => ?_
  · rwa [List.map_map, show GapEntry.code ∘ f = GapEntry.code from funext hcode]
  · obtain ⟨x, hx, rfl⟩ := List.mem_map.1 he
    exact hf x (hgaps x hx)

theorem Supervision.Legal.filterGaps (p : GapEntry → Bool) : Supervision.Legal { u with gaps := u.gaps.filter p } := by
  obtain ⟨hlength, hcodes, hgaps⟩ := h.gaps_legal
  exact h.withGaps ((List.length_filter_le _ _).trans hlength) (hcodes.sublist (List.filter_sublist.map _))
    fun e he => hgaps e (List.mem_filter.1 he).1

theorem Supervision.Legal.addGap {e : GapEntry} (hroom : u.gaps.length < 256) (hnew : ∀ x ∈ u.gaps, x.code ≠ e.code)
    (he : e.Legal) : Supervision.Legal { u with gaps := u.gaps ++ [e] } := by
  obtain ⟨-, hcodes, hgaps⟩ := h.gaps_legal
  refine h.withGaps (by simpa using hroom) ?_ fun x hx => ?_
  · rw [List.map_append, List.nodup_append]
    refine ⟨hcodes, List.nodup_singleton _, fun a ha b hb => ?_⟩
    obtain ⟨x, hx, rfl⟩ := List.mem_map.1 ha
    rw [List.mem_singleton.1 hb]
    exact hnew x hx
  · rcases List.mem_append.1 hx with hx | hx
    · exact hgaps x hx
    · rwa [List.mem_singleton.1 hx]

theorem Supervision.Legal.withPeriodEnd (pe : Tick) : Supervision.Legal { u with periodEnd := pe } := h

/-- Two measurement periods are a lifetime (R39, R50). -/
theorem Supervision.Legal.lifetime_of_period : 0 < 20 * u.period ∧ 20 * u.period ≤ 36000 := by
  obtain ⟨hperiod, hperiodTop, -⟩ := h
  omega

end

theorem clampTo_range {lo hi : Nat} (h : lo ≤ hi) (n : Nat) : lo ≤ clampTo lo hi n ∧ clampTo lo hi n ≤ hi := by
  unfold clampTo
  omega

theorem GapEntry.Legal.admitCall {e : GapEntry} (h : e.Legal) (now : Tick) : (e.admitCall now).Legal := by
  obtain ⟨hlow, hhigh, hlife, -, hrejected, hauto⟩ := h
  exact ⟨hlow, hhigh, hlife, Nat.min_le_left _ _, hrejected, hauto⟩

theorem GapEntry.Legal.reject {e : GapEntry} (h : e.Legal) : e.reject.Legal := by
  obtain ⟨hlow, hhigh, hlife, hadmitted, -, hauto⟩ := h
  exact ⟨hlow, hhigh, hlife, hadmitted, Nat.min_le_left _ _, hauto⟩

theorem GapEntry.Legal.replaceBy {e : GapEntry} (h : e.Legal) (n l : Nat) :
    (e.replaceBy (clampTo 1 600 n) (min l 36000)).Legal := by
  obtain ⟨-, -, -, hadmitted, hrejected, -⟩ := h
  obtain ⟨hlow, hhigh⟩ := clampTo_range (by omega : 1 ≤ 600) n
  exact ⟨hlow, hhigh, Nat.min_le_right _ _, hadmitted, hrejected, nofun⟩

theorem GapEntry.Legal.renewed {e : GapEntry} (h : e.Legal) {life : Nat} (hlife : 0 < life ∧ life ≤ 36000) :
    ({ e with lifetime := life, lapsed := false } : GapEntry).Legal := by
  obtain ⟨hlow, hhigh, -, hadmitted, hrejected, -⟩ := h
  exact ⟨hlow, hhigh, hlife.2, hadmitted, hrejected, fun _ => .inl hlife.1⟩

/-- An entry counted down to 0 is due for removal (R52). -/
theorem GapEntry.Legal.countDown {e : GapEntry} (h : e.Legal) : e.countDown.Legal := by
  unfold GapEntry.countDown
  split
  next hpos =>
    obtain ⟨hlow, hhigh, hlife, hadmitted, hrejected, -⟩ := h
    refine ⟨hlow, hhigh, (Nat.sub_le _ _).trans hlife, hadmitted, hrejected, fun _ => ?_⟩
    by_cases hone : e.lifetime = 1
    · exact .inr (decide_eq_true hone)
    · exact .inl (Nat.sub_pos_of_lt (by omega))
  next => exact h

theorem GapEntry.Legal.withNext {e : GapEntry} (h : e.Legal) (t : Tick) :
    ({ e with nextAdmission := t } : GapEntry).Legal := h

/-! ### The calendar (R101, R102, R105, R106) -/

theorem monthLength_le (year month : Nat) : monthLength year month ≤ 31 := by
  unfold monthLength
  split
  · split <;> omega
  · split <;> omega

theorem Calendar.Legal.dayCarry {c : Calendar} (h : c.Legal) : (dayCarry c).Legal := by
  obtain ⟨hyear, hmonth, hmonthTop, hday, -, hweekday, hrest⟩ := h
  have hlength := monthLength_le c.year c.month
  have hnextday : (if c.weekday = 6 then 0 else c.weekday + 1) ≤ 6 := by split <;> omega
  unfold Machine.dayCarry
  dsimp only
  split
  · exact ⟨hyear, hmonth, hmonthTop, by simp, by simp only; omega, hnextday, hrest⟩
  split
  · have hnextyear : (if c.year = 99 then 0 else c.year + 1) ≤ 99 := by split <;> omega
    exact ⟨hnextyear, le_rfl, by simp, le_rfl, by simp, hnextday, hrest⟩
  · exact ⟨hyear, by simp, by simp only; omega, le_rfl, by simp, hnextday, hrest⟩

theorem Calendar.Legal.withSecond {c : Calendar} (h : c.Legal) {second tenth : Nat} (hsecond : second ≤ 59)
    (htenth : tenth ≤ 9) : ({ c with second := second, tenth := tenth } : Calendar).Legal := by
  obtain ⟨hyear, hmonth, hmonthTop, hday, hdayTop, hweekday, hhour, hminute, -, -⟩ := h
  exact ⟨hyear, hmonth, hmonthTop, hday, hdayTop, hweekday, hhour, hminute, hsecond, htenth⟩

theorem Calendar.Legal.withMinute {c : Calendar} (h : c.Legal) {hour minute : Nat} (hhour : hour ≤ 23)
    (hminute : minute ≤ 59) : ({ c with hour := hour, minute := minute } : Calendar).Legal := by
  obtain ⟨hyear, hmonth, hmonthTop, hday, hdayTop, hweekday, -, -, hrest⟩ := h
  exact ⟨hyear, hmonth, hmonthTop, hday, hdayTop, hweekday, hhour, hminute, hrest⟩

theorem Calendar.Legal.minuteCarry {c : Calendar} (h : c.Legal) : (minuteCarry c).Legal := by
  obtain ⟨-, -, -, -, -, -, hhour, hminute, -, -⟩ := id h
  unfold Machine.minuteCarry
  split
  · split
    · exact (h.withMinute (Nat.zero_le 23) (Nat.zero_le 59)).dayCarry
    · exact h.withMinute (by omega) (Nat.zero_le 59)
  · exact h.withMinute hhour (by omega)

theorem Calendar.Legal.secondCarry {c : Calendar} (h : c.Legal) : (secondCarry c).Legal := by
  obtain ⟨-, -, -, -, -, -, -, -, hsecond, htenth⟩ := id h
  unfold Machine.secondCarry
  split
  · exact (h.withSecond (Nat.zero_le 59) htenth).minuteCarry
  · exact h.withSecond (by omega) htenth

theorem Calendar.Legal.addTenth {c : Calendar} (h : c.Legal) : (addTenth c).Legal := by
  obtain ⟨-, -, -, -, -, -, -, -, hsecond, htenth⟩ := id h
  unfold Machine.addTenth
  split
  · exact (h.withSecond hsecond (Nat.zero_le 9)).secondCarry
  · exact h.withSecond hsecond (by omega)

theorem Calendar.Legal.alignedMinute {c : Calendar} (h : c.Legal) : (alignedMinute c).Legal := by
  have hzero := h.withSecond (Nat.zero_le 59) (Nat.zero_le 9)
  unfold Machine.alignedMinute
  split
  · exact hzero
  · exact hzero.minuteCarry

theorem firstOutOfRange_eq_zero {fields : List (Nat × Nat × Nat)} {n : Nat} (hn : 0 < n) (h : firstOutOfRange n fields = 0) :
    ∀ f ∈ fields, f.2.1 ≤ f.1 ∧ f.1 ≤ f.2.2 := by
  induction fields generalizing n with
  | nil => simp
  | cons f fields ih =>
    obtain ⟨x, lo, hi⟩ := f
    rw [firstOutOfRange] at h
    split at h
    next hx => exact List.forall_mem_cons.2 ⟨hx, ih (Nat.succ_pos n) h⟩
    next => omega

theorem calendarOf_legal {req : List Byte} (h : calendarField req = 0) : (calendarOf req).Legal := by
  have hfields := firstOutOfRange_eq_zero Nat.one_pos h
  simp only [List.forall_mem_cons] at hfields
  obtain ⟨⟨-, hyear⟩, ⟨hmonth, hmonthTop⟩, ⟨hday, hdayTop⟩, ⟨-, hweekday⟩, ⟨-, hhour⟩, ⟨-, hminute⟩, ⟨-, hsecond⟩, -⟩ := hfields
  exact ⟨hyear, hmonth, hmonthTop, hday, hdayTop, hweekday, hhour, hminute, hsecond, Nat.zero_le 9⟩

/-! ### The carriers' sums (R145, R146, R148, R150 to R153) -/

theorem satAdd_le (top x : Nat) (mark : Bool) (n : Nat) : (satAdd top x mark n).1 ≤ top := by
  unfold satAdd
  split
  · exact le_rfl
  next h => exact not_lt.1 h

theorem Sums.legal_zero : Sums.zero.Legal := by
  simp [Sums.Legal, Sums.zero]

theorem Sums.Legal.addTotal {u : Sums} (h : u.Legal) (d : Direction) (n : Nat) : (u.addTotal d n).Legal := by
  obtain ⟨hreceivable, hpayable, hin, hout, hunsettled⟩ := h
  cases d
  · exact ⟨satAdd_le _ _ _ _, hpayable, satAdd_le _ _ _ _, hout, hunsettled⟩
  · exact ⟨hreceivable, satAdd_le _ _ _ _, hin, satAdd_le _ _ _ _, hunsettled⟩

theorem Sums.restore_legal (u taken : Sums) : (u.restore taken).Legal :=
  ⟨satAdd_le _ _ _ _, satAdd_le _ _ _ _, satAdd_le _ _ _ _, satAdd_le _ _ _ _, Nat.min_le_left _ _⟩

theorem Settlement.carry_legal {r : Settlement} (h : r.sums.Legal) : r.carry.sums.Legal := by
  obtain ⟨hreceivable, hpayable, hin, hout, -⟩ := h
  exact ⟨hreceivable, hpayable, hin, hout, Nat.min_le_left _ _⟩

theorem mem_allSums {t : Table Settlement} {e : Nat × Sums} (h : e ∈ allSums t) : ∃ r, (e.1, r) ∈ t ∧ e.2 = r.sums := by
  obtain ⟨x, hx, rfl⟩ := List.mem_map.1 (List.mem_filter.1 h).1
  exact ⟨x.2, hx, rfl⟩

theorem nodup_allSums {t : Table Settlement} (h : Table.rising t = true) : ((allSums t).map Prod.fst).Nodup := by
  have hindices : ((t.map (fun e => (e.1, e.2.sums))).map Prod.fst).Nodup := by
    rw [List.map_map]
    exact (Table.rising_iff_pairwise.1 h).imp Nat.ne_of_lt
  exact hindices.sublist (List.filter_sublist.map _)

section
variable {b : Backup} (h : b.Legal)
include h

theorem Backup.Legal.withSettlements {t : Table Settlement} (hrising : Table.rising t = true)
    (hsums : ∀ k, (Table.read t Settlement.zero k).sums.Legal) : Backup.Legal { b with settlements := t } := by
  obtain ⟨-, -, hrecord, hepoch⟩ := h
  exact ⟨hrising, hsums, hrecord, hepoch⟩

theorem Backup.Legal.settlements_legal :
    Table.rising b.settlements = true ∧ ∀ k, (Table.read b.settlements Settlement.zero k).sums.Legal := by
  obtain ⟨hrising, hsums, -⟩ := h
  exact ⟨hrising, hsums⟩

theorem Backup.Legal.withRecord {r : Option CloseRecord}
    (hr : ∀ x, r = some x → (x.taken.map Prod.fst).Nodup ∧ ∀ e ∈ x.taken, e.2.Legal) :
    Backup.Legal { b with closeRecord := r } := by
  obtain ⟨hrising, hsums, -, hepoch⟩ := h
  exact ⟨hrising, hsums, hr, hepoch⟩

theorem Backup.Legal.writeSettlement (c : Nat) {r : Settlement} (hr : r.sums.Legal) :
    Backup.Legal { b with settlements := Table.write b.settlements Settlement.zero c r } := by
  obtain ⟨hrising, hsums⟩ := h.settlements_legal
  refine h.withSettlements (Table.rising_write _ c r hrising) fun k => ?_
  rw [Table.read_write]
  split
  · exact hr
  · exact hsums k

theorem Backup.Legal.carried :
    Backup.Legal { b with settlements := Table.mapValues Settlement.carry b.settlements } := by
  obtain ⟨hrising, hsums⟩ := h.settlements_legal
  refine h.withSettlements (Table.rising_mapValues hrising) fun k => ?_
  rw [Table.read_mapValues _ _ _ _ rfl]
  exact Settlement.carry_legal (hsums k)

/-- A close of all carriers records what they hold, each once (R151, R152). -/
theorem Backup.Legal.closed (scope : CloseScope) : Backup.Legal { b with
    settlements := takenSettlements b.settlements
    closeRecord := some { scope := scope, taken := allSums b.settlements } } := by
  obtain ⟨hrising, hsums⟩ := h.settlements_legal
  have htaken := h.withSettlements (rising_takenSettlements hrising) fun k => by
    rw [read_takenSettlements hrising]
    exact Sums.legal_zero
  refine htaken.withRecord ?_
  rintro _ ⟨⟩
  refine ⟨nodup_allSums hrising, fun e he => ?_⟩
  obtain ⟨r, hr, hsum⟩ := mem_allSums he
  have hread : Table.read b.settlements Settlement.zero e.1 = r := by
    rw [Table.read, Table.find_of_mem hrising hr]
    rfl
  rw [hsum, ← hread]
  exact hsums e.1

theorem Backup.Legal.nextEpoch : Backup.Legal { b with epoch := nextEpoch b.epoch } := by
  obtain ⟨hrising, hsums, hrecord, hlow, hhigh⟩ := h
  have hnext : 1 ≤ Machine.nextEpoch b.epoch ∧ Machine.nextEpoch b.epoch ≤ 255 := by
    unfold Machine.nextEpoch
    split <;> omega
  exact ⟨hrising, hsums, hrecord, hnext⟩

theorem Backup.Legal.withCalendar (cal : Calendar) (set : Bool) :
    Backup.Legal { b with calendar := cal, clockSet := set } := h

end

/-! ### Tariff sets (R117, R121 to R126) -/

/-- The sets of one direction of carrier `k` are legal. -/
def Tariffs.LegalFor (k : Nat) (t : Tariffs) : Prop :=
  (∀ set, t.active = some set → SetLegal k set) ∧ ∀ p, t.pending = some p → SetLegal k p.records

/-- A LOAD TARIFF at work names a carrier. -/
def JobNamed (job : Option CarrierJob) : Prop := ∀ slot req, job = some (.tariff slot req) → byteAt req 8 ≠ 0

theorem tariffsLegal_iff {s : State} :
    s.TariffsLegal ↔ (∀ k d, ((s.carrier k).tariffs d).LegalFor k) ∧ JobNamed s.carrierJob := by
  constructor
  · rintro ⟨hactive, hpending, hjob⟩
    exact ⟨fun k d => ⟨hactive k d, hpending k d⟩, hjob⟩
  · rintro ⟨hsets, hjob⟩
    exact ⟨fun k d => (hsets k d).1, fun k d => (hsets k d).2, hjob⟩

theorem State.TariffsLegal.sets {s : State} (h : s.TariffsLegal) (k : Nat) (d : Direction) :
    ((s.carrier k).tariffs d).LegalFor k := (tariffsLegal_iff.1 h).1 k d

theorem Tariffs.legalFor_none (k : Nat) : Tariffs.none.LegalFor k := ⟨nofun, nofun⟩

theorem Tariffs.LegalFor.handOver {k : Nat} {t : Tariffs} (h : t.LegalFor k) (cal : Calendar) :
    (handOver cal t).LegalFor k := by
  unfold Machine.handOver
  split
  next p hp =>
    split
    · refine ⟨h.1, ?_⟩
      rintro _ ⟨⟩
      exact h.2 p hp
    · exact h
  next => exact h

theorem BandRecord.clamped_legal (w : BandRecord) : w.clamped.Legal := by
  simp only [BandRecord.Legal, BandRecord.clamped]
  omega

theorem setLegal_clamped {k : Nat} (hlow : k ≠ 0) (hhigh : k ≤ 255) (bytes : List Byte) :
    SetLegal k (((recordsOf 32 8 bytes).map writtenRecord).map BandRecord.clamped) := by
  refine ⟨Nat.pos_of_ne_zero hlow, hhigh, by simp [recordsOf_length], fun r hr => ?_⟩
  obtain ⟨w, -, rfl⟩ := List.mem_map.1 hr
  exact w.clamped_legal

/-! ### From one machine to another -/

/-- What of the Supervision Unit, the calendar, the Backup Domain and the tariff sets is in its ranges in `s` is so in `t`. -/
structure RangesStay (s t : State) : Prop where
  supervision : s.supervision.Legal → t.supervision.Legal
  calendar : s.backup.calendar.Legal → t.backup.calendar.Legal
  backup : s.backup.Legal → t.backup.Legal
  tariffs : s.TariffsLegal → t.TariffsLegal

theorem RangesStay.refl (s : State) : RangesStay s s := ⟨id, id, id, id⟩

theorem RangesStay.trans {s t u : State} (h : RangesStay s t) (k : RangesStay t u) : RangesStay s u :=
  ⟨k.supervision ∘ h.supervision, k.calendar ∘ h.calendar, k.backup ∘ h.backup, k.tariffs ∘ h.tariffs⟩

theorem RangesStay.ite {c : Prop} [Decidable c] {s t u : State} (h : RangesStay s t) (k : RangesStay s u) :
    RangesStay s (if c then t else u) := by
  split
  · exact h
  · exact k

theorem tariffsLegal_congr {s t : State} (hcarriers : t.carriers = s.carriers) (hjob : t.carrierJob = s.carrierJob)
    (h : s.TariffsLegal) : t.TariffsLegal := by
  simpa only [State.TariffsLegal, State.carrier, hcarriers, hjob] using h

/-- A machine with the same Supervision Unit, Backup Domain and Carrier Table. -/
theorem RangesStay.same {s t : State} (h : t.supervision = s.supervision ∧ t.backup = s.backup ∧
    t.carriers = s.carriers ∧ t.carrierJob = s.carrierJob) : RangesStay s t := by
  obtain ⟨hsupervision, hbackup, hcarriers, hjob⟩ := h
  exact ⟨hsupervision ▸ id, hbackup ▸ id, hbackup ▸ id, tariffsLegal_congr hcarriers hjob⟩

/-- What leaves the Supervision Unit, the Backup Domain and the Carrier Table alone may follow. -/
theorem RangesStay.andThen {s t u : State} (h : RangesStay s t) (k : u.supervision = t.supervision ∧ u.backup = t.backup ∧
    u.carriers = t.carriers ∧ u.carrierJob = t.carrierJob) : RangesStay s u := h.trans (.same k)

theorem rangesStay_setSupervision {x : Supervision} {s : State} (h : s.supervision.Legal → x.Legal) :
    RangesStay s (s.setSupervision x) := ⟨h, id, id, id⟩

theorem rangesStay_setBackup {x : Backup} {s : State} (hcalendar : s.backup.calendar.Legal → x.calendar.Legal)
    (hbackup : s.backup.Legal → x.Legal) : RangesStay s (s.setBackup x) := ⟨id, hcalendar, hbackup, id⟩

theorem rangesStay_putCarrier {c : Nat} {r : Carrier} {s : State} (h : s.TariffsLegal → ∀ d, (r.tariffs d).LegalFor c) :
    RangesStay s (putCarrier c r s) := by
  refine ⟨id, id, id, fun hs => tariffsLegal_iff.2 ⟨fun k d => ?_, (tariffsLegal_iff.1 hs).2⟩⟩
  rw [carrier_putCarrier]
  split
  next hk => exact hk ▸ h hs d
  next => exact hs.sets k d

/-- A carrier's record that keeps its sets. -/
theorem rangesStay_putCarrier_of_sets {c : Nat} {r : Carrier} {s : State} (hin : r.inbound = (s.carrier c).inbound)
    (hout : r.outbound = (s.carrier c).outbound) : RangesStay s (putCarrier c r s) := by
  refine rangesStay_putCarrier fun h d => ?_
  have hsets : r.tariffs d = (s.carrier c).tariffs d := by
    cases d
    · exact hin
    · exact hout
  exact hsets ▸ h.sets c d

theorem rangesStay_setCarrierJob {job : Option CarrierJob} {s : State} (h : s.TariffsLegal → JobNamed job) :
    RangesStay s (s.setCarrierJob job) :=
  ⟨id, id, id, fun hs => tariffsLegal_iff.2 ⟨hs.sets, h hs⟩⟩

theorem rangesStay_jobEnded (s : State) : RangesStay s (s.setCarrierJob none) := rangesStay_setCarrierJob fun _ => nofun

theorem rangesStay_jobClosing (slot : Nat) (req : List Byte) (tick : Tick) (s : State) :
    RangesStay s (s.setCarrierJob (some (.close slot req tick))) := rangesStay_setCarrierJob fun _ => nofun

theorem rangesStay_serve {k : Kind} {f : Nat → List Byte → State → State} {s t : State}
    (hf : ∀ slot req, RangesStay s (f slot req s)) (h : serve k f s = .next t) : RangesStay s t := by
  unfold serve at h
  split at h
  · exact Host.Outcome.next.inj h ▸ hf _ _
  · exact Host.Outcome.next.inj h ▸ .refl s

theorem rangesStay_event {c : Prop} [Decidable c] {s t u : State} (hu : RangesStay s u)
    (h : (Host.Outcome.next (if c then u else s) : Result) = .next t) : RangesStay s t :=
  Host.Outcome.next.inj h ▸ .ite hu (.refl s)

theorem rangesStay_callRequest {k : Kind} {rule : Nat → List Byte → Nat → Context → State → State} {s : State}
    (hrule : ∀ slot req i c, RangesStay s (rule slot req i c s)) (slot : Nat) (req : List Byte) :
    RangesStay s (callRequest k rule slot req s) := by
  unfold callRequest
  split
  · exact .same (by simp)
  split
  · exact .same (by simp)
  · exact hrule _ _ _ _

theorem rangesStay_reply (slot : Nat) (req : List Byte) (code : Code) (detail : Nat) (fields : List Field) (s : State) :
    RangesStay s (reply slot req code detail fields s) := .same (by simp)

theorem rangesStay_statusEvent (s : State) : RangesStay s (statusEvent s) := .same (by simp)

theorem RangesStay.reply {s t : State} (h : RangesStay s t) {slot : Nat} {req : List Byte} {code : Code} {detail : Nat}
    {fields : List Field} : RangesStay s (reply slot req code detail fields t) := h.trans (rangesStay_reply _ _ _ _ _ t)

/-! ### Supervision (R41, R51 to R57) -/

theorem rangesStay_mapGaps {f : GapEntry → GapEntry} {s : State} (hcode : ∀ e, (f e).code = e.code)
    (hf : s.supervision.Legal → ∀ e : GapEntry, e.Legal → (f e).Legal) :
    RangesStay s (putGaps (s.supervision.gaps.map f) s) :=
  rangesStay_setSupervision fun h => h.mapGaps hcode (hf h)

theorem rangesStay_filterGaps (p : GapEntry → Bool) (s : State) : RangesStay s (putGaps (s.supervision.gaps.filter p) s) :=
  rangesStay_setSupervision fun h => h.filterGaps p

theorem rangesStay_changeGap {code : List Nat} {f : GapEntry → GapEntry} {s : State} (hcode : ∀ e, (f e).code = e.code)
    (hf : s.supervision.Legal → ∀ e : GapEntry, e.Legal → (f e).Legal) : RangesStay s (changeGap code f s) :=
  rangesStay_mapGaps (fun e => by split <;> simp [hcode]) fun hs e he => by
    split
    · exact hf hs e he
    · exact he

theorem rangesStay_addGap {e : GapEntry} {s : State} (hroom : s.supervision.gaps.length < 256)
    (hnew : gapWithCode s e.code = none) (he : s.supervision.Legal → e.Legal) : RangesStay s (addGap e s) :=
  rangesStay_setSupervision fun h => h.addGap hroom (gapWithCode_eq_none_iff.1 hnew) (he h)

theorem rangesStay_renewGap (code : List Nat) (s : State) : RangesStay s (renewGap code s) :=
  rangesStay_changeGap (fun e => by split <;> rfl) fun hs e he => by
    split
    · exact he.renewed hs.lifetime_of_period
    · exact he

theorem rangesStay_installGap (code : List Nat) (s : State) : RangesStay s (installGap code s) := by
  unfold installGap
  split
  next hinstall =>
    obtain ⟨hnew, hroom⟩ := hinstall
    refine RangesStay.trans (rangesStay_addGap hroom (by exact hnew) fun hs => ?_) (rangesStay_statusEvent _)
    obtain ⟨-, -, -, hlow, hhigh, -⟩ := id hs
    obtain ⟨hpos, htop⟩ := hs.lifetime_of_period
    exact ⟨hlow, hhigh, htop, Nat.zero_le _, Nat.zero_le _, fun _ => .inl hpos⟩
  next => exact .refl s

theorem rangesStay_makeReports (renew install : Option (List Nat)) (s : State) :
    RangesStay s (makeReports renew install s) := by
  have hrenewed : RangesStay s (makeReports renew none s) := by
    cases renew with
    | none => exact .refl s
    | some code => exact rangesStay_renewGap code s
  cases install with
  | none => exact hrenewed
  | some code => exact hrenewed.trans (rangesStay_installGap code _)

theorem rangesStay_serveSetSupervision (slot : Nat) (req : List Byte) (s : State) :
    RangesStay s (serveSetSupervision slot req s) := by
  refine .ite (.same (by simp)) (RangesStay.reply (rangesStay_setSupervision fun h => ?_))
  obtain ⟨-, -, -, -, -, hgaps⟩ := h
  obtain ⟨hperiod, hperiodTop⟩ := clampTo_range (by omega : 1 ≤ 60) (byteAt req 8)
  obtain ⟨hinterval, hintervalTop⟩ := clampTo_range (by omega : 1 ≤ 600) (readLE req 10 2)
  exact ⟨hperiod, hperiodTop, Nat.min_le_right _ _, hinterval, hintervalTop, hgaps⟩

theorem rangesStay_serveSetGap (slot : Nat) (req : List Byte) (s : State) : RangesStay s (serveSetGap slot req s) := by
  unfold serveSetGap
  split
  · exact .same (by simp)
  split
  next => exact .same (by simp)
  next code hcode =>
    dsimp only
    split
    next =>
      refine (rangesStay_changeGap ?_ fun _ e he => ?_).reply
      · exact fun _ => rfl
      · exact he.replaceBy _ _
    next hnew =>
      split
      next hroom =>
        refine (rangesStay_addGap hroom hnew fun _ => ?_).reply
        obtain ⟨hlow, hhigh⟩ := clampTo_range (by omega : 1 ≤ 600) (readLE req 10 2)
        exact ⟨hlow, hhigh, Nat.min_le_right _ _, Nat.zero_le _, Nat.zero_le _, nofun⟩
      next => exact .same (by simp)

theorem rangesStay_serveClearGap (slot : Nat) (req : List Byte) (s : State) : RangesStay s (serveClearGap slot req s) := by
  unfold serveClearGap
  split
  · exact .same (by simp)
  split
  · exact .same (by simp)
  split
  · exact (rangesStay_filterGaps _ s).reply
  · exact .same (by simp)

theorem rangesStay_admitRoute (slot : Nat) (req : List Byte) (through : Option (List Nat × GapOrigin)) (s : State) :
    RangesStay s (admitRoute slot req through s) := .same (by simp)

theorem rangesStay_serveRoute (slot : Nat) (req : List Byte) (s : State) : RangesStay s (serveRoute slot req s) := by
  unfold serveRoute
  split
  · exact .same (by simp)
  split
  · exact .same (by simp)
  split
  · exact .same (by simp)
  split
  · exact .same (by simp)
  split
  · exact (rangesStay_changeGap (f := GapEntry.admitCall s.now) (fun _ => rfl) fun _ _ he => he.admitCall _).trans
      (rangesStay_admitRoute _ _ _ _)
  · exact (rangesStay_changeGap (f := GapEntry.reject) (fun _ => rfl) fun _ _ he => he.reject).reply

/-! ### Seizures and calls (R28 to R30, R87, R89, R146) -/

theorem rangesStay_putSettlement {c : Nat} {r : Settlement} {s : State} (h : s.backup.Legal → r.sums.Legal) :
    RangesStay s (putSettlement c r s) :=
  rangesStay_setBackup id fun hs => hs.writeSettlement c (h hs)

theorem State.sums_legal {s : State} (h : s.backup.Legal) (k : Nat) : (s.settlement k).sums.Legal :=
  h.settlements_legal.2 k

theorem rangesStay_changeOpen (c : Nat) (f : Nat → Nat) (s : State) : RangesStay s (changeOpen c f s) :=
  .ite (.refl s) (rangesStay_putSettlement fun h => s.sums_legal h c)

theorem rangesStay_putGroup (g : Nat) (r : Group) (s : State) : RangesStay s (putGroup g r s) := .same (by simp)

theorem rangesStay_returnSeizure (g : Nat) (s : State) : RangesStay s (returnSeizure g s) :=
  (rangesStay_putGroup g _ s).trans (rangesStay_changeOpen (s.group g).owner (fun n => n - 1) _)

theorem rangesStay_grantSeizure (g : Nat) (s : State) : RangesStay s (grantSeizure g s) :=
  (rangesStay_putGroup g _ s).trans (rangesStay_changeOpen (s.group g).owner (fun n => n + 1) _)

theorem rangesStay_countCeilingRefusal (c : Nat) (s : State) : RangesStay s (countCeilingRefusal c s) :=
  rangesStay_putCarrier_of_sets rfl rfl

theorem rangesStay_countVerdict (g : Nat) (v : Verdict) (s : State) : RangesStay s (countVerdict g v s) := by
  have hexamined : ∀ a f, RangesStay s (countExamination g a f s) := fun _ _ => .same (by simp)
  cases v with
  | refused1 | refused5 => exact .refl s
  | refused2 | refused3 | admissible => exact hexamined _ _
  | refused4 => exact (hexamined 1 0).trans (rangesStay_countCeilingRefusal _ _)

theorem rangesStay_seize (history : List Nat) (cs : List Candidate) (s : State) : RangesStay s (seize history cs s).2 := by
  induction cs generalizing s with
  | nil => exact .refl s
  | cons c cs ih =>
    simp only [seize]
    split
    · exact (rangesStay_countVerdict _ _ s).trans (rangesStay_grantSeizure _ _)
    · exact (rangesStay_countVerdict _ _ s).trans (ih _)

theorem rangesStay_putSums {c : Nat} {v : Sums} {s : State} (h : s.backup.Legal → v.Legal) :
    RangesStay s (putSums c v s) :=
  (rangesStay_putSettlement (c := c) (r := { s.settlement c with sums := v }) h).andThen (by simp [putSums])

theorem rangesStay_handTotal (c : Nat) (d : Direction) (p : Option Price) (s : State) : RangesStay s (handTotal c d p s) := by
  cases p with
  | none => exact .refl s
  | some x => exact rangesStay_putSums fun h => (s.sums_legal h c).addTotal d _

theorem rangesStay_releaseRule (slot : Nat) (req : List Byte) (i : Nat) (c : Context) (s : State) :
    RangesStay s (releaseRule slot req i c s) := by
  unfold releaseRule
  split
  next call _ _ => exact (rangesStay_returnSeizure call.group s).andThen (by simp)
  next call _ => exact (rangesStay_returnSeizure call.group s).andThen (by simp)
  next call a _ =>
    exact (((rangesStay_returnSeizure call.group s).trans
      (rangesStay_handTotal call.origin .inbound (inboundPrice s.now call a) _)).trans
      (rangesStay_handTotal (callOwner s call) .outbound (outboundPrice s.now call a) _)).andThen (by simp)
  next => exact .same (by simp)
  next => exact .same (by simp)

theorem rangesStay_expire (i : Nat) (s : State) : RangesStay s (expire i s) := by
  unfold expire
  split
  next call _ _ => exact .ite ((rangesStay_returnSeizure call.group s).andThen (by simp)) (.refl s)
  next => exact .refl s

theorem rangesStay_crankContinue (slot : Nat) (req : List Byte) (i : Nat) (call : Call) (s : State) :
    RangesStay s (crankContinue slot req i call s) := by
  have hreturned : RangesStay s (clearOwnRetained call (returnSeizure call.group s)) :=
    (rangesStay_returnSeizure call.group s).andThen (by simp)
  unfold crankContinue
  dsimp only
  split
  · exact hreturned.andThen (by simp)
  have hseized := hreturned.trans (rangesStay_seize call.history
    (resumedCandidates (clearOwnRetained call (returnSeizure call.group s)) call) _)
  split
  next hseize => rw [hseize] at hseized; exact hseized.andThen (by simp)
  next hseize => rw [hseize] at hseized; exact hseized.andThen (by simp)

theorem rangesStay_crankbackRule (slot : Nat) (req : List Byte) (i : Nat) (c : Context) (s : State) :
    RangesStay s (crankbackRule slot req i c s) := by
  unfold crankbackRule
  split
  · exact rangesStay_crankContinue _ _ _ _ s
  · exact .same (by simp)
  · exact .same (by simp)

theorem rangesStay_walk (job : RouteJob) (through : Option (List Nat × GapOrigin)) (s : State) :
    RangesStay s (walk job through s) := by
  unfold walk
  split
  next => exact .same (by simp)
  next e dest _ =>
    dsimp only
    split
    · exact .same (by simp)
    split
    · exact .same (by simp)
    next i s1 halloc =>
      obtain ⟨-, -, hsupervision, -, -, hcarriers, hjob, hbackup, -⟩ := allocate_keeps halloc
      have htaken : RangesStay s s1 := .same ⟨hsupervision, hbackup, hcarriers, hjob⟩
      have hseized := htaken.trans (rangesStay_seize [] (arrange (rankingRate s1) e.retained
        (candidatesOf ((s.bank s.plan.active).routeList e.routeList))) s1)
      split
      next hseize => rw [hseize] at hseized; exact hseized.andThen (by simp)
      next hseize => rw [hseize] at hseized; exact hseized.andThen (by simp)

/-! ### Time (R52, R96, R100, R101, R112, R125) -/

theorem rangesStay_endPeriod (s : State) : RangesStay s (endPeriod s) := by
  have hsupervision : s.supervision.Legal → (endPeriod s).supervision.Legal := fun h => by
    rw [endPeriod_supervision]
    exact (h.withPeriodEnd _).mapGaps (fun e => by split <;> rfl) fun e he => by
      split
      · exact he.withNext _
      · exact he
  obtain ⟨-, -, -, hcarriers, hjob, hbackup, -⟩ := endPeriod_others s
  exact ⟨hsupervision, by rw [hbackup]; exact id, by rw [hbackup]; exact id, tariffsLegal_congr hcarriers hjob⟩

theorem rangesStay_putTariffs {c : Nat} {d : Direction} {t : Tariffs} {s : State} (h : s.TariffsLegal → t.LegalFor c) :
    RangesStay s (putTariffs c d t s) :=
  rangesStay_putCarrier fun hs e => by
    rw [tariffs_setTariffs]
    split
    · exact h hs
    · exact hs.sets c e

theorem rangesStay_activate {c : Nat} {d : Direction} {t : Tariffs} {s : State} (h : s.TariffsLegal → t.LegalFor c) :
    RangesStay s (activate c d t s) := (rangesStay_putTariffs (d := d) h).andThen (by simp [activate])

theorem Tariffs.LegalFor.activated {k : Nat} {set : List BandRecord} (h : SetLegal k set) :
    Tariffs.LegalFor k { active := some set, pending := Option.none } := by
  refine ⟨?_, nofun⟩
  rintro _ ⟨⟩
  exact h

theorem rangesStay_takeHanded (c : Nat) (d : Direction) (s : State) : RangesStay s (takeHanded c d s) := by
  unfold takeHanded
  split
  next p hp => exact .ite (rangesStay_activate fun h => .activated ((h.sets c d).2 p hp)) (.refl s)
  next => exact .refl s

theorem rangesStay_takeAllHanded (cs : List Nat) (s : State) : RangesStay s (takeAllHanded cs s) := by
  induction cs generalizing s with
  | nil => exact .refl s
  | cons c cs ih => exact ((rangesStay_takeHanded c _ s).trans (rangesStay_takeHanded c _ _)).trans (ih _)

theorem rangesStay_compareTariffs (s : State) : RangesStay s (compareTariffs s) := by
  refine ⟨id, id, id, fun h => tariffsLegal_iff.2 ⟨fun k d => ?_, (tariffsLegal_iff.1 h).2⟩⟩
  rw [State.carrier, compareTariffs, State.setCarriers_carriers, Table.read_mapValues _ _ _ _ rfl]
  cases d
  · exact (h.sets k .inbound).handOver _
  · exact (h.sets k .outbound).handOver _

theorem rangesStay_expireAll (is : List Nat) (s : State) : RangesStay s (expireAll is s) := by
  induction is generalizing s with
  | nil => exact .refl s
  | cons i is ih => exact (rangesStay_expire i s).trans (ih _)

theorem rangesStay_settleTick (s : State) : RangesStay s (settleTick s) := by
  have hlapsed : RangesStay s (removeLapsed s) := rangesStay_filterGaps _ s
  have htaken : ∀ cs is js : List Nat, RangesStay s (markAllLong js (expireAll is (takeAllHanded cs (removeLapsed s)))) :=
    fun cs is js => ((hlapsed.trans (rangesStay_takeAllHanded cs _)).trans (rangesStay_expireAll is _)).andThen (by simp)
  exact .ite ((htaken _ _ _).trans (rangesStay_endPeriod _)) (htaken _ _ _)

theorem rangesStay_countDownGaps (s : State) : RangesStay s (countDownGaps s) :=
  rangesStay_mapGaps (fun e => by unfold GapEntry.countDown; split <;> rfl) fun _ _ he => he.countDown

theorem rangesStay_setClock (x : ClockUnit) (s : State) : RangesStay s (s.setClock x) := .same (by simp)

theorem rangesStay_advanceTick (s : State) : RangesStay s (advanceTick s) :=
  ((rangesStay_settleTick s).trans (rangesStay_setClock _ _)).trans (rangesStay_countDownGaps _)

theorem rangesStay_setCalendar {cal : Calendar} {set : Bool} {s : State} (h : s.backup.calendar.Legal → cal.Legal) :
    RangesStay s (s.setBackup { s.backup with calendar := cal, clockSet := set }) :=
  rangesStay_setBackup h fun hs => hs.withCalendar cal set

theorem rangesStay_evaluateBand (s : State) : RangesStay s (evaluateBand s) := .same (by simp)

theorem rangesStay_advanceTenth (s : State) : RangesStay s (advanceTenth s) := by
  have hclock : RangesStay s (s.setClock { s.clock with calDivider := 0 }) := rangesStay_setClock _ s
  have hcalendar := hclock.trans (rangesStay_setCalendar
    (cal := addTenth s.backup.calendar) (set := s.backup.clockSet) fun h => h.addTenth)
  have hband := hcalendar.trans (.ite (c := isHalfHourCarry s.backup.calendar = true) (rangesStay_evaluateBand _) (.refl _))
  exact .ite (.ite (.ite (hband.trans (rangesStay_compareTariffs _)) hband) hcalendar) hclock

theorem rangesStay_settleSlot (s : State) : RangesStay s (settleSlot s) := by
  have hreference : RangesStay s (if lossDue s then loseReference s else if lockDue s then changeReference .locked s else s) :=
    .ite (.same (by simp)) (.ite (.same (by simp)) (.refl s))
  have hticked : ∀ v, RangesStay v (if tickDue v then advanceTick v else v) := fun v =>
    .ite (rangesStay_advanceTick v) (.refl v)
  have htenth : ∀ v, RangesStay v (if tenthDue v then advanceTenth v else v) := fun v =>
    .ite (rangesStay_advanceTenth v) (.refl v)
  exact (hreference.trans (hticked _)).trans (htenth _)

theorem rangesStay_slotInReset (s : State) : RangesStay s (slotInReset s) :=
  (RangesStay.ite (c := tenthDue s = true) (rangesStay_advanceTenth s) (.refl s)).trans (rangesStay_setClock _ _)

theorem rangesStay_moveCalendar {cal : Calendar} {s : State} (h : s.backup.calendar.Legal → cal.Legal) :
    RangesStay s (moveCalendar cal s) :=
  (((rangesStay_setCalendar (set := true) h).trans (rangesStay_setClock _ _)).trans (rangesStay_evaluateBand _)).trans
    (rangesStay_compareTariffs _)

theorem rangesStay_serveSetCalendar (slot : Nat) (req : List Byte) (s : State) :
    RangesStay s (serveSetCalendar slot req s) := by
  unfold serveSetCalendar
  split
  · exact .same (by simp)
  split
  · exact .same (by simp)
  next hfields => exact (rangesStay_moveCalendar fun _ => calendarOf_legal (not_not.1 hfields)).reply

theorem rangesStay_serveAlignMinute (slot : Nat) (req : List Byte) (s : State) :
    RangesStay s (serveAlignMinute slot req s) :=
  .ite (.same (by simp)) (.ite (.same (by simp)) (rangesStay_moveCalendar fun h => h.alignedMinute).reply)

/-! ### Carriers (R119 to R126, R150 to R153) -/

theorem rangesStay_serveSetCarrier (slot : Nat) (req : List Byte) (s : State) : RangesStay s (serveSetCarrier slot req s) := by
  unfold serveSetCarrier
  dsimp only
  split
  · exact .same (by simp)
  split
  · exact .same (by simp)
  · refine RangesStay.reply (rangesStay_putCarrier_of_sets ?_ ?_) <;> rfl

/-- A LOAD TARIFF that is begun names a carrier (R122). -/
theorem rangesStay_serveLoadTariff (slot : Nat) (req : List Byte) (s : State) :
    RangesStay s (serveLoadTariff slot req s) := by
  unfold serveLoadTariff
  split
  · exact .same (by simp)
  split
  · exact .same (by simp)
  split
  · exact .same (by simp)
  next hfields =>
    refine .ite (.same (by simp)) ((rangesStay_setCarrierJob (job := some (.tariff slot req)) fun _ => ?_).andThen (by simp))
    rintro _ _ ⟨⟩
    have hcarrier := firstOutOfRange_eq_zero Nat.one_pos (not_not.1 hfields) (byteAt req 8, 1, 255) (by simp)
    exact Nat.pos_iff_ne_zero.1 hcarrier.1

theorem Tariffs.LegalFor.withActive {k : Nat} {t : Tariffs} (h : t.LegalFor k) {set : List BandRecord} (hset : SetLegal k set) :
    Tariffs.LegalFor k { t with active := some set } := by
  refine ⟨?_, h.2⟩
  rintro _ ⟨⟩
  exact hset

theorem Tariffs.LegalFor.withPending {k : Nat} {t : Tariffs} (h : t.LegalFor k) {p : PendingSet}
    (hp : SetLegal k p.records) : Tariffs.LegalFor k { t with pending := some p } := by
  refine ⟨h.1, ?_⟩
  rintro _ ⟨⟩
  exact hp

theorem Tariffs.LegalFor.withoutPending {k : Nat} {t : Tariffs} (h : t.LegalFor k) :
    Tariffs.LegalFor k { t with pending := Option.none } := ⟨h.1, nofun⟩

theorem rangesStay_applyTariff {req : List Byte} {records : List BandRecord} (hset : SetLegal (byteAt req 8) records)
    (slot : Nat) (marks : List Bool) (s : State) : RangesStay s (applyTariff slot req records marks s) := by
  have htaken := rangesStay_takeHanded (byteAt req 8) (directionOf req) s
  unfold applyTariff
  dsimp only
  split
  · exact (htaken.trans (rangesStay_activate fun h => (h.sets _ _).withActive hset)).reply
  · exact (htaken.trans (rangesStay_putTariffs fun h => (h.sets _ _).withPending hset)).reply

theorem rangesStay_tariffBlockRead (bytes : List Byte) (s : State) : RangesStay s (tariffBlockRead bytes s) := by
  unfold tariffBlockRead
  split
  next slot req hjob =>
    dsimp only
    split
    · exact (rangesStay_jobEnded s).reply
    · refine ⟨by simp, by simp, by simp, fun h => ?_⟩
      have hcarrier : byteAt req 8 ≠ 0 := (tariffsLegal_iff.1 h).2 slot req hjob
      have hset := setLegal_clamped hcarrier (Nat.le_of_lt_succ (byteAt_lt req 8)) bytes
      exact ((rangesStay_jobEnded s).trans (rangesStay_applyTariff hset slot _ _)).tariffs h
  next => exact .refl s

theorem rangesStay_tariffBlockFailed (s : State) : RangesStay s (tariffBlockFailed s) := by
  unfold tariffBlockFailed
  split
  · exact (rangesStay_jobEnded s).reply
  · exact .refl s

theorem rangesStay_serveCancelTariff (slot : Nat) (req : List Byte) (s : State) :
    RangesStay s (serveCancelTariff slot req s) := by
  have htaken := rangesStay_takeHanded (byteAt req 8) (directionOf req) s
  unfold serveCancelTariff
  split
  · exact .same (by simp)
  split
  · exact .same (by simp)
  dsimp only
  split
  · exact (htaken.trans (rangesStay_putTariffs fun h => (h.sets _ _).withoutPending)).reply
  · exact htaken.reply

theorem rangesStay_setRecord {r : Option CloseRecord} {s : State}
    (hr : s.backup.Legal → ∀ x, r = some x → (x.taken.map Prod.fst).Nodup ∧ ∀ e ∈ x.taken, e.2.Legal) :
    RangesStay s (s.setBackup { s.backup with closeRecord := r }) :=
  rangesStay_setBackup id fun h => h.withRecord (hr h)

theorem rangesStay_closeOne (slot : Nat) (req : List Byte) (c : Nat) (s : State) : RangesStay s (closeOne slot req c s) := by
  have hbackup : RangesStay s ((putSettlement c (s.settlement c).taken s).setBackup
      { (putSettlement c (s.settlement c).taken s).backup with
        closeRecord := some { scope := .one c, taken := [(c, (s.settlement c).sums)] } }) := by
    refine rangesStay_setBackup id fun h => (h.writeSettlement c Sums.legal_zero).withRecord ?_
    rintro _ ⟨⟩
    simpa using s.sums_legal h c
  exact (hbackup.trans (rangesStay_jobClosing _ _ _ _)).reply

theorem rangesStay_closeAll (slot : Nat) (req : List Byte) (addr : Word) (s : State) :
    RangesStay s (closeAll slot req addr s) := by
  have hclosed : RangesStay s (s.setBackup { s.backup with
      settlements := takenSettlements s.backup.settlements
      closeRecord := some { scope := .all addr, taken := allSums s.backup.settlements } }) :=
    rangesStay_setBackup id fun h => h.closed _
  exact (hclosed.trans (rangesStay_jobClosing slot req s.now _)).andThen (by simp [closeAll])

theorem rangesStay_serveClosePeriod (slot : Nat) (req : List Byte) (s : State) :
    RangesStay s (serveClosePeriod slot req s) :=
  .ite (.same (by simp)) (.ite (.same (by simp)) (.ite (.ite (.same (by simp)) (rangesStay_closeOne _ _ _ s))
    (.ite (.same (by simp)) (rangesStay_closeAll _ _ _ s))))

theorem rangesStay_restoreSums (taken : Table Sums) (s : State) : RangesStay s (restoreSums taken s) := by
  induction taken generalizing s with
  | nil => exact .refl s
  | cons e taken ih => exact (rangesStay_putSums fun _ => Sums.restore_legal _ _).trans (ih _)

theorem rangesStay_restoreClose (s : State) : RangesStay s (restoreClose s) := by
  unfold restoreClose
  split
  · exact (rangesStay_setRecord (r := none) fun _ => nofun).trans (rangesStay_restoreSums _ _)
  · exact .refl s

theorem rangesStay_resultFailed (s : State) : RangesStay s (resultFailed s) := by
  unfold resultFailed
  split
  · exact ((rangesStay_restoreClose s).trans (rangesStay_jobEnded _)).reply
  · exact .refl s

theorem rangesStay_settleClose (s : State) : RangesStay s (settleClose s) :=
  (rangesStay_setRecord (r := none) fun _ => nofun).trans (rangesStay_jobEnded _)

/-! ### Bursts (R161, R173) -/

theorem rangesStay_answeredWritten (slot : Nat) (s : State) : RangesStay s (answeredWritten slot s) := by
  have hraised : RangesStay s (raiseBit .answers s) := .same (by simp)
  have hsettled := hraised.trans (.ite (c := (raiseBit .answers s).intake.isCloseOk slot = true) (rangesStay_settleClose _)
    (.refl _))
  have hdropped : ∀ (k : Intake) (u : State), RangesStay u (checkHalt (proceedAnswers (u.setIntake k))) := fun _ _ =>
    .same (by simp)
  exact hsettled.trans (hdropped _ _)

theorem rangesStay_completed (p : Purpose) (bytes : List Byte) (s : State) : RangesStay s (completed p bytes s) := by
  cases p with
  | answered slot => exact rangesStay_answeredWritten slot s
  | tariffBlock => exact rangesStay_tariffBlockRead bytes s
  | _ => exact .same (by simp [completed])

theorem rangesStay_transferFailed (p : Purpose) (s : State) : RangesStay s (transferFailed p s) := by
  cases p with
  | tariffBlock => exact rangesStay_tariffBlockFailed s
  | resultBlock => exact rangesStay_resultFailed s
  | _ => exact .same (by simp [transferFailed])

theorem rangesStay_endBurst (r : Requester) (t : Transfer) (ts : List Transfer) (reply : BurstReply) (s : State) :
    RangesStay s (endBurst r t ts reply s) := by
  cases reply with
  | done data =>
    have hstored : ∀ us, RangesStay s (setTransfers r us (storeBytes t t.burstLength s)) := fun _ => .same (by simp)
    exact .ite ((hstored _).trans (rangesStay_completed _ _ _)) (hstored _)
  | busError beat =>
    exact (RangesStay.same (t := setTransfers r ts (storeFailed t beat s)) (by simp)).trans (rangesStay_transferFailed _ _)

theorem rangesStay_execMemoryBurstDone {reply : BurstReply} {s t : State} (h : execMemoryBurstDone reply s = .next t) :
    RangesStay s t := by
  have hnext := next_of_guarded h
  split at hnext
  next => exact Host.Outcome.next.inj hnext ▸ .refl s
  next r x ts _ =>
    split at hnext
    · exact Host.Outcome.next.inj hnext ▸ (rangesStay_endBurst r x ts reply s).andThen (by simp)
    · cases hnext

/-! ### Starts and supplies (R114, R118, R145, R148, R153, R174, R175) -/

theorem rangesStay_volatileReset (kind : StartKind) (s : State) : RangesStay s (volatileReset kind s) :=
  ⟨fun _ => Supervision.legal_reset, id, id, fun _ => tariffsLegal_reset⟩

theorem rangesStay_setPower (p : Power) (s : State) : RangesStay s (s.setPower p) := .same (by simp)

theorem rangesStay_carryUnsettled (s : State) : RangesStay s (carryUnsettled s) :=
  rangesStay_setBackup id fun h => h.carried

theorem rangesStay_startWarm (kind : StartKind) (cause : ResetCause) (s : State) : RangesStay s (startWarm kind cause s) :=
  (((rangesStay_volatileReset kind s).trans (rangesStay_restoreClose _)).trans
    (rangesStay_carryUnsettled _)).trans (rangesStay_setPower _ _)

theorem rangesStay_lostBackup (marker : Bool) (s : State) :
    RangesStay s (s.setBackup { Backup.cold with marker := marker }) :=
  rangesStay_setBackup (fun _ => Calendar.legal_cold) fun _ => Backup.legal_cold

theorem rangesStay_startCold (s : State) : RangesStay s (startCold s) :=
  ((rangesStay_volatileReset .cold s).trans (rangesStay_lostBackup true _)).trans (rangesStay_setPower _ _)

theorem rangesStay_endReset (s : State) : RangesStay s (endReset s) := by
  have hclock : RangesStay s ((s.setPower { s.power with reset := none }).setClock ClockUnit.reset) := .same (by simp)
  have hepoch : ∀ u : State, RangesStay u (u.setBackup { u.backup with epoch := nextEpoch u.backup.epoch }) := fun _ =>
    rangesStay_setBackup id fun h => h.nextEpoch
  exact (hclock.trans (.ite (hepoch _) (.refl _))).trans (rangesStay_evaluateBand _)

/-! ### Commands -/

theorem rangesStay_execRouteWalk {s t : State} (h : execRouteWalk s = .next t) : RangesStay s t := by
  unfold execRouteWalk at h
  split at h
  · exact rangesStay_event (rangesStay_walk _ _ s) h
  · exact Host.Outcome.next.inj h ▸ .refl s

theorem rangesStay_execRouteReports {s t : State} (h : execRouteReports s = .next t) : RangesStay s t := by
  unfold execRouteReports at h
  split at h
  next slot req renew install answer _ => exact rangesStay_event ((rangesStay_makeReports renew install s).andThen (by simp)) h
  next => exact Host.Outcome.next.inj h ▸ .refl s

theorem rangesStay_execBankLoadHead {s t : State} (h : execBankLoadHead s = .next t) : RangesStay s t := by
  unfold execBankLoadHead at h
  split at h
  · exact Host.Outcome.next.inj h ▸ .refl s
  · exact rangesStay_event (.same (by simp)) h

theorem rangesStay_execGapEntryLapse {code : List Nat} {s t : State} (h : execGapEntryLapse code s = .next t) :
    RangesStay s t := by
  have hnext := next_of_guarded h
  split at hnext
  · exact rangesStay_event (rangesStay_filterGaps _ s) hnext
  · exact Host.Outcome.next.inj hnext ▸ .refl s

theorem rangesStay_execPowerOn {s t : State} (h : execPowerOn s = .next t) : RangesStay s t :=
  Host.Outcome.next.inj h ▸ (rangesStay_setPower _ s).trans (.ite (rangesStay_startWarm _ _ _) (rangesStay_startCold _))

theorem rangesStay_execResetLineAsserted {s t : State} (h : execResetLineAsserted s = .next t) : RangesStay s t :=
  Host.Outcome.next.inj h ▸ (rangesStay_setPower _ s).trans (.ite (rangesStay_startWarm _ _ _) (.refl _))

theorem rangesStay_execResetLineReleased {s t : State} (h : execResetLineReleased s = .next t) : RangesStay s t :=
  Host.Outcome.next.inj h ▸ (rangesStay_setPower _ s).trans (.ite (rangesStay_endReset _) (.refl _))

/-- Every command keeps what is in its ranges there. -/
theorem rangesStay_exec {c : Instr} {s t : State} (h : exec c s = .next t) : RangesStay s t := by
  cases c with
  | route => exact rangesStay_serve (rangesStay_serveRoute · · s) h
  | routeWalk => exact rangesStay_execRouteWalk h
  | routeReports => exact rangesStay_execRouteReports h
  | release => exact rangesStay_serve (rangesStay_callRequest fun slot req i c => rangesStay_releaseRule slot req i c s) h
  | crankback =>
    exact rangesStay_serve (rangesStay_callRequest fun slot req i c => rangesStay_crankbackRule slot req i c s) h
  | confirm | answer | queryCall => exact rangesStay_serve (rangesStay_callRequest fun _ _ _ _ => .same (by simp)) h
  | setCallTimers | loadDestinations | loadRouteLists | setBandMap | setHolidays | switchPlan | setGroup | blockCircuits
  | unblockCircuits =>
    exact rangesStay_serve (fun _ _ => .same (by simp)) h
  | setSupervision => exact rangesStay_serve (rangesStay_serveSetSupervision · · s) h
  | setGap => exact rangesStay_serve (rangesStay_serveSetGap · · s) h
  | clearGap => exact rangesStay_serve (rangesStay_serveClearGap · · s) h
  | setCalendar => exact rangesStay_serve (rangesStay_serveSetCalendar · · s) h
  | alignMinute => exact rangesStay_serve (rangesStay_serveAlignMinute · · s) h
  | setCarrier => exact rangesStay_serve (rangesStay_serveSetCarrier · · s) h
  | loadTariff => exact rangesStay_serve (rangesStay_serveLoadTariff · · s) h
  | cancelTariff => exact rangesStay_serve (rangesStay_serveCancelTariff · · s) h
  | closePeriod => exact rangesStay_serve (rangesStay_serveClosePeriod · · s) h
  | bankLoadHead => exact rangesStay_execBankLoadHead h
  | gapEntryLapse => exact rangesStay_execGapEntryLapse h
  | tariffActivation k d => exact rangesStay_event (rangesStay_takeHanded k d s) (next_of_guarded h)
  | confirmationExpiry i => exact rangesStay_event (rangesStay_expire i s) (next_of_guarded h)
  | longCallMark => exact rangesStay_event (.same (by simp)) (next_of_guarded h)
  | frameSlot present =>
    exact Host.Outcome.next.inj h ▸ .ite ((rangesStay_settleSlot s).andThen (by simp))
      (.ite (rangesStay_slotInReset s) (.refl s))
  | tickAdvance => exact rangesStay_event (rangesStay_advanceTick s) h
  | tenthAdvance => exact rangesStay_event (rangesStay_advanceTenth s) h
  | periodEnd => exact rangesStay_event (rangesStay_endPeriod s) h
  | backupTenthAdvance =>
    exact rangesStay_event (rangesStay_setCalendar (set := s.backup.clockSet) fun hc => hc.addTenth) h
  | referenceLoss | referenceLock | scanTimerExpiry | runOne | runZero | scanInterval | burstSize | attention
  | attnPulseEnd =>
    exact rangesStay_event (.same (by simp)) h
  | attnMode | areaBase | areaSize => exact rangesStay_event (.ite (.same (by simp)) (.same (by simp))) h
  | nudge => exact rangesStay_event (.ite (.ite (.same (by simp)) (.same (by simp))) (.refl s)) h
  | memoryBurstDone => exact rangesStay_execMemoryBurstDone h
  | registerWriteIgnored => exact Host.Outcome.next.inj h ▸ .refl s
  | softReset => exact rangesStay_event (rangesStay_startWarm _ _ s) h
  | powerOn => exact rangesStay_execPowerOn h
  | resetLineAsserted => exact rangesStay_execResetLineAsserted h
  | resetLineReleased => exact rangesStay_execResetLineReleased h
  | resetEnd => exact rangesStay_event (.ite (rangesStay_setPower _ s) (rangesStay_endReset s)) h
  | mainSupplyLoss => exact rangesStay_event ((rangesStay_volatileReset _ s).trans (rangesStay_setPower _ _)) h
  | backupSupplyFailure => exact Host.Outcome.next.inj h ▸ .ite (.refl s) (rangesStay_lostBackup false s)

/-- Every step does: its command runs on the machine with the rest of the queue. -/
theorem rangesStay_step {s t : State} (h : step s = .next t) : RangesStay s t := by
  cases hq : s.pending with
  | nil => exact Host.Outcome.next.inj ((step_of_pending_nil hq).symm.trans h) ▸ .refl s
  | cons c rest =>
    have hs : s.setPending (c :: rest) = s := by rw [← hq]; rfl
    have hexec : exec c (s.setPending rest) = .next t := by rw [← step_setPending_cons, hs, h]
    exact (RangesStay.same (t := s.setPending rest) (by simp)).trans (rangesStay_exec hexec)

/-- Settles O6: each command keeps each of the four in its ranges. -/
theorem supervisionCalendarSumsAndSetsStayLegal : Obligations.SupervisionCalendarSumsAndSetsStayLegal :=
  ⟨fun _ _ h hstep => (rangesStay_step hstep).supervision h, fun _ _ h hstep => (rangesStay_step hstep).calendar h,
    fun _ _ h hstep => (rangesStay_step hstep).backup h, fun _ _ h hstep => (rangesStay_step hstep).tariffs h⟩

end Sys2Proof.Machine
end

section
/-! PROOFS. The requests that the gap table and the congestion supervision serve: ROUTE's gap check and its reports, SET
SUPERVISION, SET CARRIER, SET GAP and CLEAR GAP (R39, R41, R51, R53 to R57, R59 to R61, R70, R119). -/

namespace Sys2Proof.Machine

/-! ### Codes and digits (R50, R59) -/

theorem digitsValid_iff_digits {req : List Byte} {off n : Nat} :
    digitsValid req off n = true ↔ ∀ d ∈ byteFields req off n, d ≤ 9 := by
  simp [digitsValid]

theorem not_digitsValid_iff_digits {req : List Byte} {off n : Nat} :
    digitsValid req off n = false ↔ ∃ d ∈ byteFields req off n, 9 < d := by
  simp [digitsValid]

theorem gapCodeOf_of_range {req : List Byte} (hlow : 1 ≤ byteAt req 8) (hhigh : byteAt req 8 ≤ 12)
    (hdigits : ∀ d ∈ byteFields req 16 (byteAt req 8), d ≤ 9) : gapCodeOf req = some (byteFields req 16 (byteAt req 8)) :=
  if_pos ⟨hlow, hhigh, digitsValid_iff_digits.2 hdigits⟩

theorem gapCodeOf_of_not_range {req : List Byte}
    (h : byteAt req 8 < 1 ∨ 12 < byteAt req 8 ∨ ∃ d ∈ byteFields req 16 (byteAt req 8), 9 < d) : gapCodeOf req = none := by
  refine if_neg ?_
  rintro ⟨hlow, hhigh, hdigits⟩
  rcases h with h | h | h
  · omega
  · omega
  · rw [not_digitsValid_iff_digits.2 h] at hdigits
    cases hdigits

theorem changeGap_of_only {s : State} {pre post : List GapEntry} {e : GapEntry} (f : GapEntry → GapEntry)
    (hgaps : s.supervision.gaps = pre ++ e :: post) (hother : ∀ x ∈ pre ++ post, x.code ≠ e.code) :
    changeGap e.code f s = s.setSupervision { s.supervision with gaps := pre ++ f e :: post } := by
  have hkept : ∀ l : List GapEntry, (∀ x ∈ l, x.code ≠ e.code) → l.map (fun x => if x.code = e.code then f x else x) = l :=
    fun l hl => by
      conv_rhs => rw [← List.map_id l]
      exact List.map_congr_left fun x hx => if_neg (hl x hx)
  rw [changeGap, putGaps, hgaps, List.map_append, List.map_cons, if_pos rfl,
    hkept pre fun x hx => hother x (by simp [hx]), hkept post fun x hx => hother x (by simp [hx])]

/-! ### ROUTE (R51, R59, R61) -/

section
variable {s : State} {slot : Nat} {req : List Byte} (hclear : reservedClear .route req = true)
include hclear

theorem serveRoute_of_not_range
    (h : byteAt req 8 < 1 ∨ 16 < byteAt req 8 ∨ ∃ d ∈ byteFields req 16 (byteAt req 8), 9 < d) :
    serveRoute slot req s = reply slot req .range 0 [] s := by
  rw [serveRoute, if_neg (by simp [hclear])]
  by_cases hcount : byteAt req 8 < 1 ∨ 16 < byteAt req 8
  · rw [if_pos hcount]
  · have hdigits := (or_assoc.2 h).resolve_left hcount
    rw [if_neg hcount, if_pos (not_digitsValid_iff_digits.2 hdigits)]

section
variable (hlow : 1 ≤ byteAt req 8) (hhigh : byteAt req 8 ≤ 16) (hdigits : ∀ d ∈ byteFields req 16 (byteAt req 8), d ≤ 9)
include hlow hhigh hdigits

theorem serveRoute_of_noMatch (h : NoMatch GapEntry.code (dialled req) s.supervision.gaps) :
    serveRoute slot req s = admitRoute slot req none s := by
  rw [serveRoute, if_neg (by simp [hclear]), if_neg (by omega), if_neg (by simp [digitsValid_iff_digits.2 hdigits]), matchingGap,
    longestMatch_eq_none.2 h]

theorem serveRoute_of_match (hcodes : (s.supervision.gaps.map GapEntry.code).Nodup) {e : GapEntry}
    (h : IsLongestMatch GapEntry.code (dialled req) s.supervision.gaps e) : serveRoute slot req s =
      if (s.now - e.nextAdmission).toNat < 2 ^ 31 then
        admitRoute slot req (some (e.code, e.origin)) (changeGap e.code (GapEntry.admitCall s.now) s)
      else
        reply slot req .gapped 0 [⟨72, 1, e.code.length⟩, ⟨76, 2, (e.nextAdmission - s.now).toNat⟩]
          (changeGap e.code GapEntry.reject s) := by
  rw [serveRoute, if_neg (by simp [hclear]), if_neg (by omega), if_neg (by simp [digitsValid_iff_digits.2 hdigits]), matchingGap,
    longestMatch_of_is hcodes h]
  exact if_congr reached_iff rfl rfl

end

end

/-- Settles O13, by what `serveRoute` does with each call. -/
theorem gapCheckJudgesTheCall : Obligations.GapCheckJudgesTheCall := by
  intro s slot req hserved hclear
  have hexec : exec .route s = .next (serveRoute slot req s) := exec_command_of_served hserved
  rw [hexec]
  refine ⟨fun h => ?_, fun hlow hhigh hdigits hcodes => ⟨fun h => ?_, fun e h => ?_⟩⟩
  · rw [serveRoute_of_not_range hclear h]
  · rw [serveRoute_of_noMatch hclear hlow hhigh hdigits h]
    rfl
  · rw [serveRoute_of_match hclear hlow hhigh hdigits hcodes h]
    rfl

/-! ### ROUTE_REPORTS (R56, R57, R70) -/

theorem gaps_renewGap (code : List Nat) (s : State) : renewGap code s = s.setSupervision { s.supervision with
    gaps := s.supervision.gaps.map (fun e => if some code = some e.code ∧ e.origin = .automatic then
      { e with lifetime := 20 * s.supervision.period, lapsed := false } else e) } := by
  have hentry : ∀ e : GapEntry, (if e.code = code then
      if e.origin = .automatic then { e with lifetime := twoPeriods s, lapsed := false } else e else e) =
      if some code = some e.code ∧ e.origin = .automatic then
        { e with lifetime := 20 * s.supervision.period, lapsed := false } else e := fun e => by
    rw [← ite_and]
    exact if_congr (and_congr_left' (eq_comm.trans (Option.some_inj).symm)) rfl rfl
  rw [renewGap, changeGap, putGaps, funext hentry]

/-- The gap table once a report has renewed the entry of the code it names. -/
def renewedGaps (renew : Option (List Nat)) (u : Supervision) : List GapEntry :=
  u.gaps.map (fun e => if renew = some e.code ∧ e.origin = .automatic then
    { e with lifetime := 20 * u.period, lapsed := false } else e)

theorem makeReports_renewal (renew : Option (List Nat)) (s : State) :
    makeReports renew none s = s.setSupervision { s.supervision with gaps := renewedGaps renew s.supervision } := by
  cases renew with
  | none =>
    have hkept : renewedGaps none s.supervision = s.supervision.gaps := by simp [renewedGaps]
    rw [hkept]
    rfl
  | some code => exact gaps_renewGap code s

theorem codes_renewedGaps (renew : Option (List Nat)) (u : Supervision) :
    (renewedGaps renew u).map GapEntry.code = u.gaps.map GapEntry.code := by
  rw [renewedGaps, List.map_map]
  refine List.map_congr_left fun e _ => ?_
  rw [Function.comp_apply]
  split <;> rfl

theorem gapWithCode_eq_none_iff_codes {s : State} {code : List Nat} :
    gapWithCode s code = none ↔ code ∉ s.supervision.gaps.map GapEntry.code := by
  rw [gapWithCode_eq_none_iff]
  simp

/-- An installation is possible after a renewal exactly when it is before it. -/
theorem installable_renewed (renew : Option (List Nat)) (code : List Nat) (s : State) :
    (gapWithCode (makeReports renew none s) code = none ∧ (makeReports renew none s).supervision.gaps.length < 256) ↔
      (∀ e ∈ s.supervision.gaps, e.code ≠ code) ∧ s.supervision.gaps.length < 256 := by
  have hcodes : (makeReports renew none s).supervision.gaps.map GapEntry.code = s.supervision.gaps.map GapEntry.code := by
    rw [makeReports_renewal]
    exact codes_renewedGaps renew s.supervision
  have hlength : (makeReports renew none s).supervision.gaps.length = s.supervision.gaps.length := by
    simpa using congrArg List.length hcodes
  rw [gapWithCode_eq_none_iff_codes, hcodes, hlength, ← gapWithCode_eq_none_iff_codes, gapWithCode_eq_none_iff]

/-- Settles O19: the reports are the renewal and, where the table allows it, the installation. -/
theorem reportsRenewAndInstall : Obligations.ReportsRenewAndInstall := by
  intro s slot req answer renew install hup hjob life renewed installs
  refine ⟨(makeReports renew install s).setRouteJob none, ?_, fun hnot => ?_, fun code hcode hnew hroom => ?_⟩
  · change execRouteReports s = _
    simp [execRouteReports, hjob, hup]
  · have hrenewal : makeReports renew install s = makeReports renew none s := by
      cases install with
      | none => rfl
      | some code =>
        rw [makeReports_some, installGap, if_neg]
        rw [installable_renewed]
        exact fun hinstall => hnot ⟨code, rfl, hinstall⟩
    rw [hrenewal, makeReports_renewal]
    rfl
  · subst hcode
    rw [makeReports_some, installGap, if_pos ((installable_renewed renew code s).2 ⟨hnew, hroom⟩), makeReports_renewal]
    rfl

/-! ### SET SUPERVISION and SET CARRIER (R39, R41, R119) -/

theorem serveSetCarrier_of_range {s : State} {slot : Nat} {req : List Byte} (hclear : reservedClear .setCarrier req = true)
    (hcarrier : byteAt req 8 ≠ 0) (haction : byteAt req 9 ≤ 1) : serveSetCarrier slot req s =
      reply slot req .ok 0
        [⟨72, 1, byteAt req 8⟩, ⟨74, 2, (s.carrier (byteAt req 8)).ceiling⟩, ⟨76, 2, readLE req 10 2⟩,
         ⟨78, 2, s.openHandovers (byteAt req 8)⟩, ⟨80, 4, (s.carrier (byteAt req 8)).refusals⟩]
        (putCarrier (byteAt req 8) { s.carrier (byteAt req 8) with
          ceiling := readLE req 10 2
          refusals := if byteAt req 9 = 1 then 0 else (s.carrier (byteAt req 8)).refusals } s) := by
  rw [serveSetCarrier, if_neg (by simp [hclear]), if_neg (by omega)]

/-- Settles O33, by the checks of each request in their order. -/
theorem settingsAreClampedAndStored : Obligations.SettingsAreClampedAndStored := by
  refine ⟨fun s slot req hserved hclear => ?_, fun s slot req hserved hclear => ?_⟩
  · intro period threshold interval
    have hexec : exec .setSupervision s = .next (serveSetSupervision slot req s) := exec_command_of_served hserved
    rw [hexec, serveSetSupervision, if_neg (by simp [hclear])]
    rfl
  · intro k ceiling
    have hexec : exec .setCarrier s = .next (serveSetCarrier slot req s) := exec_command_of_served hserved
    rw [hexec]
    refine ⟨fun hrefused => ?_, fun hcarrier haction => ⟨_, by rw [serveSetCarrier_of_range hclear hcarrier haction], ?_, ?_, rfl⟩⟩
    · rw [serveSetCarrier, if_neg (by simp [hclear]), if_pos hrefused]
    · rw [carrier_putCarrier, if_pos rfl]
    · exact fun j hj => by rw [carrier_putCarrier, if_neg hj]

/-! ### SET GAP and CLEAR GAP (R53 to R55) -/

section
variable {s : State} {slot : Nat} {req : List Byte} (hclear : reservedClear .setGap req = true)
include hclear

theorem serveSetGap_of_not_range (h : gapCodeOf req = none) : serveSetGap slot req s = reply slot req .range 0 [] s := by
  rw [serveSetGap, if_neg (by simp [hclear]), h]

theorem serveSetGap_of_new {code : List Nat} (h : gapCodeOf req = some code) (hnew : gapWithCode s code = none) :
    serveSetGap slot req s =
      if s.supervision.gaps.length < 256 then
        reply slot req .ok 0
          [⟨72, 2, clampTo 1 600 (readLE req 10 2)⟩, ⟨74, 2, min (readLE req 12 2) 36000⟩, ⟨76, 1, 0⟩,
           ⟨78, 2, s.supervision.gaps.length + 1⟩]
          (addGap { code := code, origin := .software, interval := clampTo 1 600 (readLE req 10 2),
                    lifetime := min (readLE req 12 2) 36000, nextAdmission := s.now, admitted := 0, rejected := 0,
                    lapsed := false } s)
      else reply slot req .tableFull 0 [] s := by
  rw [serveSetGap, if_neg (by simp [hclear]), h]
  simp only [hnew]

theorem serveSetGap_of_found {code : List Nat} (h : gapCodeOf req = some code) {e : GapEntry}
    (hfound : gapWithCode s code = some e) : serveSetGap slot req s =
      reply slot req .ok 0
        [⟨72, 2, clampTo 1 600 (readLE req 10 2)⟩, ⟨74, 2, min (readLE req 12 2) 36000⟩, ⟨76, 1, 1⟩, ⟨77, 1, e.origin.code⟩,
         ⟨78, 2, s.supervision.gaps.length⟩, ⟨80, 4, e.admitted⟩, ⟨84, 4, e.rejected⟩]
        (changeGap code (GapEntry.replaceBy (clampTo 1 600 (readLE req 10 2)) (min (readLE req 12 2) 36000)) s) := by
  rw [serveSetGap, if_neg (by simp [hclear]), h]
  simp only [hfound]

end

/-- Settles O34, by whether the request's code is in range and an entry carries it. -/
theorem setGapMakesOrReplaces : Obligations.SetGapMakesOrReplaces := by
  intro s slot req hserved hclear n code interval lifetime gaps
  have hexec : exec .setGap s = .next (serveSetGap slot req s) := exec_command_of_served hserved
  rw [hexec]
  refine ⟨fun h => ?_, fun hlow hhigh hdigits => ?_⟩
  · rw [serveSetGap_of_not_range hclear (gapCodeOf_of_not_range h)]
  have hcode : gapCodeOf req = some code := gapCodeOf_of_range hlow hhigh hdigits
  refine ⟨fun hnew => ?_, fun pre post e hgaps he hother => ?_⟩
  · rw [serveSetGap_of_new hclear hcode (gapWithCode_eq_none_iff.2 hnew)]
    refine ⟨fun hfull => ?_, fun hroom => ?_⟩
    · rw [if_neg (not_lt.2 hfull)]
    · rw [if_pos hroom]
      rfl
  · rw [← he] at hother
    rw [serveSetGap_of_found hclear hcode (he ▸ gapWithCode_of_only hgaps hother), ← he, changeGap_of_only _ hgaps hother]
    rfl

section
variable {s : State} {slot : Nat} {req : List Byte} (hclear : reservedClear .clearGap req = true)
include hclear

theorem serveClearGap_of_not_range (h : gapCodeOf req = none) : serveClearGap slot req s = reply slot req .range 0 [] s := by
  rw [serveClearGap, if_neg (by simp [hclear]), h]

theorem serveClearGap_of_none {code : List Nat} (h : gapCodeOf req = some code) (hnone : gapWithCode s code = none) :
    serveClearGap slot req s = reply slot req .notPending 0 [] s := by
  rw [serveClearGap, if_neg (by simp [hclear]), h]
  simp only [hnone]

theorem serveClearGap_of_found {code : List Nat} (h : gapCodeOf req = some code) {e : GapEntry}
    (hfound : gapWithCode s code = some e) : serveClearGap slot req s =
      reply slot req .ok 0
        [⟨72, 2, e.interval⟩, ⟨74, 2, e.lifetime⟩, ⟨76, 1, e.origin.code⟩, ⟨80, 4, e.admitted⟩, ⟨84, 4, e.rejected⟩]
        (removeGap code s) := by
  rw [serveClearGap, if_neg (by simp [hclear]), h]
  simp only [hfound]

end

/-- Settles O35, by whether the request's code is in range and an entry carries it. -/
theorem clearGapRemovesTheExactCode : Obligations.ClearGapRemovesTheExactCode := by
  intro s slot req hserved n code gaps
  have hexec : exec .clearGap s = .next (serveClearGap slot req s) := exec_command_of_served hserved
  rw [hexec]
  refine ⟨fun hformat => ?_, fun hclear => ⟨fun h => ?_, fun hlow hhigh hdigits => ?_⟩⟩
  · rw [serveClearGap, if_pos hformat]
  · rw [serveClearGap_of_not_range hclear (gapCodeOf_of_not_range h)]
  have hcode : gapCodeOf req = some code := gapCodeOf_of_range hlow hhigh hdigits
  refine ⟨fun hnew => ?_, fun pre post e hgaps he hother => ?_⟩
  · rw [serveClearGap_of_none hclear hcode (gapWithCode_eq_none_iff.2 hnew)]
  · rw [← he] at hother
    rw [serveClearGap_of_found hclear hcode (he ▸ gapWithCode_of_only hgaps hother), ← he, removeGap_of_only hgaps hother]

end Sys2Proof.Machine
end

section
/-! PROOFS. The bytes of the status mirror (R163, R167, Tables 10-7 to 10-9): a field of a layout is read back at its offset,
and a layout placed among others is read at its place. -/

namespace Sys2Proof.Machine

/-! ### Fields read back from a layout -/

/-- Two fields cover no byte in common. -/
def Field.Apart (f h : Field) : Prop := f.off + f.size ≤ h.off ∨ h.off + h.size ≤ f.off

theorem fieldByte_of_mem {fields : List Field} {f : Field} {i : Nat} (hapart : fields.Pairwise Field.Apart)
    (hf : f ∈ fields) (hi : i < f.size) : fieldByte fields (f.off + i) = BitVec.ofNat 8 (f.value / 256 ^ i) := by
  induction fields with
  | nil => simp at hf
  | cons h hs ih =>
    obtain ⟨hhead, htail⟩ := List.pairwise_cons.1 hapart
    rw [fieldByte]
    rcases List.mem_cons.1 hf with rfl | hf
    · rw [if_pos (by omega), Nat.add_sub_cancel_left]
    · have hdisjoint : h.off + h.size ≤ f.off ∨ f.off + f.size ≤ h.off := hhead f hf
      rw [if_neg (by omega), ih htail hf]

/-- A byte of a field, as the layout holds it. -/
theorem byteAt_layOut_of_mem {start len : Nat} {fields : List Field} {f : Field} {i : Nat}
    (hapart : fields.Pairwise Field.Apart) (hf : f ∈ fields) (hi : i < f.size) (hstart : start ≤ f.off)
    (hend : f.off + f.size ≤ start + len) :
    byteAt (layOut start len fields) (f.off - start + i) = f.value / 256 ^ i % 256 := by
  rw [byteAt_layOut, if_pos (by omega), show start + (f.off - start + i) = f.off + i by omega,
    fieldByte_of_mem hapart hf hi, BitVec.toNat_ofNat]

/-- A field is read back from the bytes of its value. -/
theorem readLE_of_bytes {bytes : List Byte} {off n x : Nat}
    (h : ∀ i < n, byteAt bytes (off + i) = x / 256 ^ i % 256) : readLE bytes off n = x % 256 ^ n := by
  induction n generalizing off x with
  | zero => simp [readLE, Nat.mod_one]
  | succ n ih =>
    have hrest : readLE bytes (off + 1) n = x / 256 % 256 ^ n := ih fun i hi => by
      rw [Nat.div_div_eq_div_mul, ← Nat.pow_succ', ← h (i + 1) (by omega), Nat.add_assoc, Nat.add_comm 1 i]
    have hfirst : byteAt bytes off = x % 256 := by simpa using h 0 (by omega)
    rw [readLE, hfirst, hrest, Nat.pow_succ', Nat.mod_mul]

theorem readLE_layOut_of_mem {start len : Nat} {fields : List Field} {f : Field}
    (hapart : fields.Pairwise Field.Apart) (hf : f ∈ fields) (hstart : start ≤ f.off)
    (hend : f.off + f.size ≤ start + len) :
    readLE (layOut start len fields) (f.off - start) f.size = f.value % 256 ^ f.size :=
  readLE_of_bytes fun _ hi => byteAt_layOut_of_mem hapart hf hi hstart hend

theorem readLE_one (bytes : List Byte) (off : Nat) : readLE bytes off 1 = byteAt bytes off := by simp [readLE]

/-! ### Layouts placed one after another -/

theorem byteAt_append_of_lt {a b : List Byte} {i : Nat} (h : i < a.length) : byteAt (a ++ b) i = byteAt a i := by
  rw [byteAt, List.getD_append _ _ _ _ h, byteAt]

theorem byteAt_append_length_add (a b : List Byte) (i : Nat) : byteAt (a ++ b) (a.length + i) = byteAt b i := by
  rw [byteAt, List.getD_append_right _ _ _ _ (Nat.le_add_right _ _), Nat.add_sub_cancel_left, byteAt]

theorem readLE_congr {a b : List Byte} {off off' n : Nat} (h : ∀ i < n, byteAt a (off + i) = byteAt b (off' + i)) :
    readLE a off n = readLE b off' n := by
  induction n generalizing off off' with
  | zero => rfl
  | succ n ih =>
    have hfirst : byteAt a off = byteAt b off' := h 0 (by omega)
    have hrest : readLE a (off + 1) n = readLE b (off' + 1) n := ih fun i hi => by
      simpa [Nat.add_assoc, Nat.add_comm 1] using h (i + 1) (by omega)
    rw [readLE, readLE, hfirst, hrest]

theorem readLE_append_of_le {a b : List Byte} {off n : Nat} (h : off + n ≤ a.length) :
    readLE (a ++ b) off n = readLE a off n :=
  readLE_congr fun _ hi => byteAt_append_of_lt (by omega)

theorem readLE_append_length_add (a b : List Byte) (off n : Nat) :
    readLE (a ++ b) (a.length + off) n = readLE b off n :=
  readLE_congr fun i _ => by rw [Nat.add_assoc, byteAt_append_length_add]

section
variable {chunk : Nat → List Byte} {size : Nat}

theorem length_flatMap_chunks (hsize : ∀ k, (chunk k).length = size) (n : Nat) :
    ((List.range n).flatMap chunk).length = size * n := by
  simp [List.length_flatMap, hsize, Nat.mul_comm]

/-- Chunk `k` of an array of equal chunks stands at `size * k`. -/
theorem byteAt_flatMap_chunks (hsize : ∀ k, (chunk k).length = size) {n k i : Nat} (hk : k < n) (hi : i < size) :
    byteAt ((List.range n).flatMap chunk) (size * k + i) = byteAt (chunk k) i := by
  induction n with
  | zero => omega
  | succ n ih =>
    have hlen := length_flatMap_chunks hsize n
    rw [List.range_succ, List.flatMap_append, List.flatMap_singleton]
    rcases Nat.lt_succ_iff_lt_or_eq.1 hk with hlt | rfl
    · have hbefore : size * k + size ≤ size * n := by
        calc size * k + size = size * (k + 1) := (Nat.mul_succ size k).symm
          _ ≤ size * n := Nat.mul_le_mul_left _ hlt
      rw [byteAt_append_of_lt (by omega), ih hlt]
    · rw [← hlen, byteAt_append_length_add]

theorem readLE_flatMap_chunks (hsize : ∀ k, (chunk k).length = size) {n k off len : Nat} (hk : k < n)
    (hend : off + len ≤ size) :
    readLE ((List.range n).flatMap chunk) (size * k + off) len = readLE (chunk k) off len :=
  readLE_congr fun i hi => by rw [Nat.add_assoc, byteAt_flatMap_chunks hsize hk (by omega)]

end

end Sys2Proof.Machine
end

section
/-! PROOFS. What the status mirror's snapshot holds at each offset (R99, R164, Tables 10-7 to 10-9). -/

namespace Sys2Proof.Machine

theorem mirrorGroup_length (r : Group) : (mirrorGroup r).length = 8 := layOut_length _ _ _

/-- Entry `c` of the mirror's carrier array; entry 0 is all zero. -/
def carrierEntry (s : State) (c : Nat) : List Byte :=
  if c = 0 then layOut 0 64 [] else mirrorCarrier (s.carrier c) (s.settlement c)

theorem carrierEntry_length (s : State) (c : Nat) : (carrierEntry s c).length = 64 := by
  unfold carrierEntry mirrorCarrier
  split <;> exact layOut_length _ _ _

/-- The header and the group array, which stand before the carrier array. -/
def mirrorHead (pe : Tick) (s : State) : List Byte :=
  layOut 4 124 (mirrorHeader pe s) ++ (List.range 1024).flatMap (fun g => mirrorGroup (s.group g))

theorem mirrorContent_eq (pe : Tick) (s : State) :
    mirrorContent pe s = mirrorHead pe s ++ (List.range 256).flatMap (carrierEntry s) := rfl

theorem mirrorHead_length (pe : Tick) (s : State) : (mirrorHead pe s).length = 8316 := by
  rw [mirrorHead, List.length_append, layOut_length, length_flatMap_chunks fun _ => mirrorGroup_length _]

theorem mirrorContent_length (pe : Tick) (s : State) : (mirrorContent pe s).length = 24700 := by
  rw [mirrorContent_eq, List.length_append, mirrorHead_length, length_flatMap_chunks (carrierEntry_length s)]

/-- The fields of the mirror from offset `off` on, which counts from the generation field. -/
abbrev mirrorRead (pe : Tick) (s : State) (off size : Nat) : Nat := readLE (mirrorContent pe s) (off - 4) size

section
variable {pe : Tick} {s : State} {off size : Nat}

theorem mirrorRead_header (hend : off - 4 + size ≤ 124) :
    mirrorRead pe s off size = readLE (layOut 4 124 (mirrorHeader pe s)) (off - 4) size := by
  rw [mirrorRead, mirrorContent_eq, readLE_append_of_le (by rw [mirrorHead_length]; omega), mirrorHead,
    readLE_append_of_le (by rw [layOut_length]; exact hend)]

theorem mirrorRead_group {g : Nat} (hg : g < 1024) (hend : off + size ≤ 8) :
    mirrorRead pe s (128 + 8 * g + off) size = readLE (mirrorGroup (s.group g)) off size := by
  have hplace : 128 + 8 * g + off - 4 = (layOut 4 124 (mirrorHeader pe s)).length + (8 * g + off) := by
    rw [layOut_length]; omega
  rw [mirrorRead, mirrorContent_eq, readLE_append_of_le (by rw [mirrorHead_length]; omega), mirrorHead, hplace,
    readLE_append_length_add, readLE_flatMap_chunks (fun _ => mirrorGroup_length _) hg hend]

theorem mirrorRead_carrier {k : Nat} (hk : k < 256) (hend : off + size ≤ 64) :
    mirrorRead pe s (8320 + 64 * k + off) size = readLE (carrierEntry s k) off size := by
  have hplace : 8320 + 64 * k + off - 4 = (mirrorHead pe s).length + (64 * k + off) := by rw [mirrorHead_length]; omega
  rw [mirrorRead, mirrorContent_eq, hplace, readLE_append_length_add,
    readLE_flatMap_chunks (carrierEntry_length s) hk hend]

end

/-! ### The header (Table 10-7) -/

theorem mirrorHeader_apart (pe : Tick) (s : State) : (mirrorHeader pe s).Pairwise Field.Apart := by
  simp [mirrorHeader, Field.Apart]

theorem mirrorHeader_range {pe : Tick} {s : State} {f : Field} (hf : f ∈ mirrorHeader pe s) :
    4 ≤ f.off ∧ f.off + f.size ≤ 28 := by
  simp only [mirrorHeader, List.mem_cons, List.not_mem_nil, or_false] at hf
  rcases hf with rfl | rfl | rfl | rfl | rfl | rfl | rfl | rfl | rfl | rfl | rfl <;> simp

theorem mirrorRead_of_mem {pe : Tick} {s : State} {f : Field} (hf : f ∈ mirrorHeader pe s) :
    mirrorRead pe s f.off f.size = f.value % 256 ^ f.size := by
  obtain ⟨hstart, hend⟩ := mirrorHeader_range hf
  rw [mirrorRead_header (by omega), readLE_layOut_of_mem (mirrorHeader_apart pe s) hf hstart (by omega)]

/-- The header's calendar stands byte by byte at offset 4. -/
theorem mirrorRead_calendar (pe : Tick) (s : State) {i : Nat} (hi : i < 8) :
    mirrorRead pe s (4 + i) 1 = s.backup.calendar.value / 256 ^ i % 256 := by
  have hf : (⟨4, 8, s.backup.calendar.value⟩ : Field) ∈ mirrorHeader pe s := by simp [mirrorHeader]
  rw [mirrorRead_header (by omega), readLE_one, Nat.add_sub_cancel_left]
  have hbyte := byteAt_layOut_of_mem (len := 124) (mirrorHeader_apart pe s) hf hi (Nat.le_refl 4)
    (show 4 + 8 ≤ 4 + 124 by decide)
  rwa [Nat.sub_self, Nat.zero_add] at hbyte

/-- The bytes of a calendar are its components. -/
theorem calendar_bytes {c : Calendar} (h : c.Legal) :
    c.value % 256 = c.year ∧ c.value / 256 ^ 1 % 256 = c.month ∧ c.value / 256 ^ 2 % 256 = c.day ∧
    c.value / 256 ^ 3 % 256 = c.weekday ∧ c.value / 256 ^ 4 % 256 = c.hour ∧ c.value / 256 ^ 5 % 256 = c.minute ∧
    c.value / 256 ^ 6 % 256 = c.second ∧ c.value / 256 ^ 7 % 256 = c.tenth := by
  unfold Calendar.Legal at h
  unfold Calendar.value
  omega

/-! ### A group's entry (Table 10-8) -/

theorem readLE_mirrorGroup (r : Group) :
    readLE (mirrorGroup r) 0 1 = r.congestion.code % 256 ^ 1 ∧ readLE (mirrorGroup r) 1 1 = bit r.changed % 256 ^ 1 ∧
    readLE (mirrorGroup r) 2 2 = r.occupancy % 256 ^ 2 ∧ readLE (mirrorGroup r) 4 2 = r.free % 256 ^ 2 := by
  have hread := fun (f : Field) hf hend => readLE_layOut_of_mem (start := 0) (len := 8) (f := f)
    (fields := [⟨0, 1, r.congestion.code⟩, ⟨1, 1, bit r.changed⟩, ⟨2, 2, r.occupancy⟩, ⟨4, 2, r.free⟩])
    (by simp [Field.Apart]) hf (Nat.zero_le _) hend
  refine ⟨hread ⟨0, 1, r.congestion.code⟩ ?_ ?_, hread ⟨1, 1, bit r.changed⟩ ?_ ?_,
    hread ⟨2, 2, r.occupancy⟩ ?_ ?_, hread ⟨4, 2, r.free⟩ ?_ ?_⟩ <;> simp

/-! ### A carrier's entry (Table 10-9) -/

theorem byteAt_carrierEntry_zero (s : State) {i : Nat} : byteAt (carrierEntry s 0) i = 0 := by
  rw [carrierEntry, if_pos rfl, byteAt_layOut]
  split <;> rfl

/-- The fields of a carrier's entry. -/
def carrierFields (r : Carrier) (t : Settlement) : List Field :=
  [⟨0, 8, t.sums.receivable⟩, ⟨8, 8, t.sums.payable⟩, ⟨16, 4, t.sums.inCount⟩, ⟨20, 4, t.sums.outCount⟩,
   ⟨24, 4, r.refusals⟩, ⟨28, 2, t.openHandovers⟩, ⟨30, 2, t.sums.unsettled⟩, ⟨32, 1, t.sums.marks⟩,
   ⟨33, 1, presenceMarks r⟩]

theorem mirrorCarrier_eq (r : Carrier) (t : Settlement) : mirrorCarrier r t = layOut 0 64 (carrierFields r t) := rfl

theorem carrierFields_apart (r : Carrier) (t : Settlement) : (carrierFields r t).Pairwise Field.Apart := by
  simp [carrierFields, Field.Apart]

theorem carrierFields_end {r : Carrier} {t : Settlement} {f : Field} (hf : f ∈ carrierFields r t) :
    f.off + f.size ≤ 64 := by
  simp only [carrierFields, List.mem_cons, List.not_mem_nil, or_false] at hf
  rcases hf with rfl | rfl | rfl | rfl | rfl | rfl | rfl | rfl | rfl <;> simp

theorem mirrorRead_carrier_of_mem {pe : Tick} {s : State} {k : Nat} {f : Field} (hlow : 1 ≤ k) (hk : k ≤ 255)
    (hf : f ∈ carrierFields (s.carrier k) (s.settlement k)) :
    mirrorRead pe s (8320 + 64 * k + f.off) f.size = f.value % 256 ^ f.size := by
  have hend := carrierFields_end hf
  rw [mirrorRead_carrier (by omega) hend, carrierEntry, if_neg (by omega), mirrorCarrier_eq]
  exact readLE_layOut_of_mem (start := 0) (carrierFields_apart _ _) hf (Nat.zero_le _) (by omega)

/-! ### The snapshot -/

section
variable (pe : Tick) (v : State)

theorem mirrorContent_holds_header (hlegal : v.backup.calendar.Legal) :
    let holds (offset size x : Nat) : Prop := mirrorRead pe v offset size = x % 256 ^ size
    let cal := v.backup.calendar
    holds 4 1 cal.year ∧ holds 5 1 cal.month ∧ holds 6 1 cal.day ∧ holds 7 1 cal.weekday ∧ holds 8 1 cal.hour ∧
      holds 9 1 cal.minute ∧ holds 10 1 cal.second ∧ holds 11 1 cal.tenth ∧ holds 12 1 (bit v.backup.clockSet) ∧
      holds 13 1 v.clock.reference.code ∧ holds 14 1 v.regs.engine.code ∧ holds 15 1 v.plan.active.code ∧
      holds 16 1 v.regs.startKind.code ∧ holds 17 1 v.backup.epoch ∧ holds 18 2 v.supervision.gaps.length ∧
      holds 20 2 (liveCount v) ∧ holds 22 2 v.contexts.expired.length ∧ holds 24 4 pe.toNat := by
  intro holds cal
  have hbyte : ∀ i < 8, ∀ x, cal.value / 256 ^ i % 256 = x → holds (4 + i) 1 x := fun i hi x hx => by
    have hread := mirrorRead_calendar pe v hi
    change cal.value / 256 ^ i % 256 = x at hx
    change _ = x % 256 ^ 1
    rw [hread]
    change cal.value / 256 ^ i % 256 = x % 256 ^ 1
    omega
  have hfield : ∀ f : Field, f ∈ mirrorHeader pe v → holds f.off f.size f.value := fun f hf => mirrorRead_of_mem hf
  obtain ⟨hyear, hmonth, hday, hweekday, hhour, hminute, hsecond, htenth⟩ := calendar_bytes hlegal
  refine ⟨hbyte 0 (by omega) _ (by simpa using hyear), hbyte 1 (by omega) _ hmonth, hbyte 2 (by omega) _ hday,
    hbyte 3 (by omega) _ hweekday, hbyte 4 (by omega) _ hhour, hbyte 5 (by omega) _ hminute,
    hbyte 6 (by omega) _ hsecond, hbyte 7 (by omega) _ htenth, hfield ⟨12, 1, bit v.backup.clockSet⟩ ?_,
    hfield ⟨13, 1, v.clock.reference.code⟩ ?_, hfield ⟨14, 1, v.regs.engine.code⟩ ?_,
    hfield ⟨15, 1, v.plan.active.code⟩ ?_, hfield ⟨16, 1, v.regs.startKind.code⟩ ?_,
    hfield ⟨17, 1, v.backup.epoch⟩ ?_, hfield ⟨18, 2, v.supervision.gaps.length⟩ ?_,
    hfield ⟨20, 2, liveCount v⟩ ?_, hfield ⟨22, 2, v.contexts.expired.length⟩ ?_, hfield ⟨24, 4, pe.toNat⟩ ?_⟩ <;>
    simp [mirrorHeader]

theorem mirrorContent_holds_group {g : Nat} (hg : g < 1024) :
    let holds (offset size x : Nat) : Prop := mirrorRead pe v offset size = x % 256 ^ size
    let r := v.group g
    holds (128 + 8 * g) 1 r.congestion.code ∧ holds (128 + 8 * g + 1) 1 (bit r.changed) ∧
      holds (128 + 8 * g + 2) 2 r.occupancy ∧ holds (128 + 8 * g + 4) 2 r.free := by
  intro holds r
  obtain ⟨hcongestion, hchanged, hoccupancy, hfree⟩ := readLE_mirrorGroup r
  exact ⟨(mirrorRead_group (off := 0) hg (by decide)).trans hcongestion,
    (mirrorRead_group hg (by decide)).trans hchanged, (mirrorRead_group hg (by decide)).trans hoccupancy,
    (mirrorRead_group hg (by decide)).trans hfree⟩

theorem mirrorContent_zero_carrier {i : Nat} (hi : i < 64) : mirrorRead pe v (8320 + i) 1 = 0 := by
  rw [mirrorRead_carrier (k := 0) (by decide) (by omega), readLE_one, byteAt_carrierEntry_zero]

theorem mirrorContent_holds_carrier {k : Nat} (hlow : 1 ≤ k) (hk : k ≤ 255) :
    let holds (offset size x : Nat) : Prop := mirrorRead pe v offset size = x % 256 ^ size
    let r := v.carrier k
    let w := (v.settlement k).sums
    let entry := 8320 + 64 * k
    holds entry 8 w.receivable ∧ holds (entry + 8) 8 w.payable ∧ holds (entry + 16) 4 w.inCount ∧
      holds (entry + 20) 4 w.outCount ∧ holds (entry + 24) 4 r.refusals ∧ holds (entry + 28) 2 (v.openHandovers k) ∧
      holds (entry + 30) 2 w.unsettled ∧ holds (entry + 32) 1 w.marks ∧ holds (entry + 33) 1 (presenceMarks r) := by
  intro holds r w entry
  have hfield : ∀ f : Field, f ∈ carrierFields r (v.settlement k) → holds (entry + f.off) f.size f.value :=
    fun f hf => mirrorRead_carrier_of_mem hlow hk hf
  refine ⟨hfield ⟨0, 8, w.receivable⟩ ?_, hfield ⟨8, 8, w.payable⟩ ?_, hfield ⟨16, 4, w.inCount⟩ ?_,
    hfield ⟨20, 4, w.outCount⟩ ?_, hfield ⟨24, 4, r.refusals⟩ ?_, hfield ⟨28, 2, v.openHandovers k⟩ ?_,
    hfield ⟨30, 2, w.unsettled⟩ ?_, hfield ⟨32, 1, w.marks⟩ ?_, hfield ⟨33, 1, presenceMarks r⟩ ?_⟩ <;>
    simp [carrierFields, w, State.openHandovers]

end

end Sys2Proof.Machine
end

section
/-! PROOFS. The stages of a mirror write: its start at a period end, its bursts and its end (R43, R163, R164, R170). -/

namespace Sys2Proof.Machine

/-! ### What the start of a mirror write reads -/

/-- The snapshot reads these blocks alone. -/
theorem mirrorContent_congr {u s : State} (hgroups : u.groups = s.groups) (hcarriers : u.carriers = s.carriers)
    (hbackup : u.backup = s.backup) (hclock : u.clock = s.clock) (hregs : u.regs = s.regs) (hplan : u.plan = s.plan)
    (hsupervision : u.supervision = s.supervision) (hcontexts : u.contexts = s.contexts) (pe : Tick) :
    mirrorContent pe u = mirrorContent pe s := by
  simp only [mirrorContent, mirrorHeader, liveCount, State.group, State.carrier, State.settlement, hgroups, hcarriers,
    hbackup, hclock, hregs, hplan, hsupervision, hcontexts]

theorem ask_port_congr {u s : State} (hport : u.port = s.port) (hburst : u.regs.burst = s.regs.burst) (r : Requester)
    (t : Transfer) : (ask r t u).port = (ask r t s).port := by
  simp only [ask, burstInForce, hport, hburst, State.setPort_port]

theorem mirrorWrite_congr {u s : State} (hbase : u.regs.base = s.regs.base) (hsize : u.regs.sizeExp = s.regs.sizeExp)
    (p : Purpose) (offset : Nat) (bytes : List Byte) : mirrorWrite u p offset bytes = mirrorWrite s p offset bytes := by
  simp only [mirrorWrite, hbase, hsize]

theorem askGeneration_eq (p : Purpose) (s : State) :
    askGeneration p s = ask .mirror (mirrorWrite s p 0 (generationBytes s.mirror.generation)) s := rfl

/-- A cause leaves the engine's state and the registers that place the exchange area. -/
theorem raiseBit_exchange (b : AttentionBit) (s : State) : (raiseBit b s).regs.engine = s.regs.engine ∧
    (raiseBit b s).regs.base = s.regs.base ∧ (raiseBit b s).regs.sizeExp = s.regs.sizeExp ∧
    (raiseBit b s).regs.burst = s.regs.burst := by
  unfold raiseBit
  split
  · simp
  · cases b <;> exact ⟨rfl, rfl, rfl, rfl⟩

theorem evaluateGroups_exchange (s : State) : (evaluateGroups s).regs.engine = s.regs.engine ∧
    (evaluateGroups s).regs.base = s.regs.base ∧ (evaluateGroups s).regs.sizeExp = s.regs.sizeExp ∧
    (evaluateGroups s).regs.burst = s.regs.burst := by
  obtain ⟨-, -, -, -, -, hturned, hsame, -, -⟩ := evaluateGroups_spec s
  by_cases hturns : ∃ g < 1024, (s.group g).turns = true
  · rw [hturned hturns]
    exact raiseBit_exchange _ _
  · have hquiet : ∀ g < 1024, (s.group g).turns = false := fun g hg =>
      Bool.eq_false_iff.2 fun hturn => hturns ⟨g, hg, hturn⟩
    rw [hsame hquiet]
    exact ⟨rfl, rfl, rfl, rfl⟩

/-! ### The period end at the Mirror Writer -/

section
variable {pe : Tick} {s : State}

theorem startMirror_of_stopped (h : s.regs.engine = .halted ∨ s.regs.engine = .faulted) : startMirror pe s = s :=
  if_neg fun ⟨hengine, _⟩ => by rcases h with h | h <;> rcases hengine with hengine | hengine <;> simp [h] at hengine

theorem startMirror_of_writing {gs : List Nat} (h : s.mirror.marks = some gs) : startMirror pe s = s :=
  if_neg fun ⟨_, hmarks⟩ => by simp [h] at hmarks

theorem startMirror_of_idle (hengine : s.regs.engine = .running ∨ s.regs.engine = .draining)
    (hmarks : s.mirror.marks = none) :
    startMirror pe s = ask .mirror (mirrorWrite s .mirrorBody 4 (mirrorContent pe s))
      (ask .mirror (mirrorWrite s .mirrorOpen 0 (generationBytes (s.mirror.generation + 1#32)))
        (s.setMirror { generation := s.mirror.generation + 1#32, marks := some (changedGroups s) })) :=
  if_pos ⟨hengine, hmarks⟩

end

/-- The machine with its groups evaluated, when the period end signals the Mirror Writer. -/
def beforeMirror (pe : Tick) (s : State) : State :=
  (gapUpkeep pe s).setSupervision { (gapUpkeep pe s).supervision with
    periodEnd := pe + BitVec.ofNat 32 (10 * (gapUpkeep pe s).supervision.period) }

theorem startPeriod_gapUpkeep (pe : Tick) (s : State) :
    startPeriod pe (gapUpkeep pe s) = startMirror pe (beforeMirror pe s) := rfl

theorem endPeriod_eq_startPeriod (s : State) : endPeriod s =
    startPeriod s.supervision.periodEnd (gapUpkeep s.supervision.periodEnd (evaluateGroups s)) := by
  simp only [endPeriod]

theorem endPeriod_eq_startMirror (s : State) : endPeriod s =
    startMirror s.supervision.periodEnd (beforeMirror s.supervision.periodEnd (evaluateGroups s)) :=
  (endPeriod_eq_startPeriod s).trans (startPeriod_gapUpkeep _ _)

theorem beforeMirror_keeps (pe : Tick) (s : State) : (beforeMirror pe s).regs = s.regs ∧
    (beforeMirror pe s).mirror = s.mirror ∧ (beforeMirror pe s).port = s.port := by
  simp [beforeMirror]

theorem exec_periodEnd_of_due {s : State} (hup : s.up = true) (hdue : (s.now - s.supervision.periodEnd).toNat < 2 ^ 31) :
    exec .periodEnd s = .next (endPeriod s) := by
  have hperiod : periodDue s = true := reached_iff.2 hdue
  change execPeriodEnd s = _
  rw [execPeriodEnd, if_pos ⟨hup, hperiod⟩]

theorem mirror_congr {m n : Mirror} (hgeneration : m.generation = n.generation) (hmarks : m.marks = n.marks) : m = n := by
  cases m; cases n
  simp_all

/-- The Mirror Writer signalled, as seen from an earlier machine `s` of the same port, exchange area and generation count. -/
theorem startMirror_asks {b s : State} {pe : Tick} (hengine : b.regs.engine = .running ∨ b.regs.engine = .draining)
    (hmarks : b.mirror.marks = none) (hgen : b.mirror.generation = s.mirror.generation) (hport : b.port = s.port)
    (hbase : b.regs.base = s.regs.base) (hsize : b.regs.sizeExp = s.regs.sizeExp) (hburst : b.regs.burst = s.regs.burst) :
    (startMirror pe b).mirror.generation = s.mirror.generation + 1#32 ∧
    (startMirror pe b).mirror.marks = some (changedGroups (startMirror pe b)) ∧
    (startMirror pe b).port = (ask .mirror (mirrorWrite s .mirrorBody 4 (mirrorContent pe (startMirror pe b)))
      (ask .mirror (mirrorWrite s .mirrorOpen 0 (generationBytes (startMirror pe b).mirror.generation)) s)).port := by
  have hmirror : (startMirror pe b).mirror =
      { generation := s.mirror.generation + 1#32, marks := some (changedGroups b) } := by
    rw [startMirror_of_idle hengine hmarks, ← hgen]
    simp
  have hgroups : changedGroups (startMirror pe b) = changedGroups b := by simp [changedGroups]
  have hcontent : mirrorContent pe (startMirror pe b) = mirrorContent pe b := by
    apply mirrorContent_congr <;> simp
  refine ⟨by rw [hmirror], by rw [hmirror, hgroups], ?_⟩
  rw [hcontent, hmirror, startMirror_of_idle hengine hmarks, hgen, mirrorWrite_congr hbase hsize,
    mirrorWrite_congr hbase hsize]
  exact ask_port_congr (ask_port_congr hport hburst _ _) (by simp [hburst]) _ _

theorem endPeriod_mirror_of_stopped {s : State} (hengine : s.regs.engine = .halted ∨ s.regs.engine = .faulted)
    (hmarks : s.mirror.marks = none) : (endPeriod s).mirror = s.mirror ∧ (endPeriod s).port = s.port := by
  obtain ⟨hregs, hmirror, hport⟩ := beforeMirror_keeps s.supervision.periodEnd (evaluateGroups s)
  obtain ⟨heng, -, -, -⟩ := evaluateGroups_exchange s
  obtain ⟨-, -, -, -, -, -, -, hgen, hnoted⟩ := evaluateGroups_spec s
  rw [hmarks, Option.map_none, ← hmarks] at hnoted
  have hsame : (evaluateGroups s).mirror = s.mirror := mirror_congr hgen hnoted
  rw [endPeriod_eq_startMirror, startMirror_of_stopped (by rwa [hregs, heng])]
  exact ⟨hmirror.trans hsame, hport.trans (by simp)⟩

/-- A group leaves the marks of a mirror write in progress when its state changes (R163, step 5). -/
theorem endPeriod_mirror_of_writing {s : State} {gs : List Nat} (hmarks : s.mirror.marks = some gs) :
    (endPeriod s).port = s.port ∧ (endPeriod s).mirror.generation = s.mirror.generation ∧
    ∃ hs, (endPeriod s).mirror.marks = some hs ∧
      ∀ g, g ∈ hs ↔ g ∈ gs ∧ (g < 1024 → ((endPeriod s).group g).congestion = (s.group g).congestion) := by
  obtain ⟨-, hmirror, hport⟩ := beforeMirror_keeps s.supervision.periodEnd (evaluateGroups s)
  obtain ⟨-, -, -, -, -, -, -, hgen, hnoted⟩ := evaluateGroups_spec s
  rw [hmarks, Option.map_some, ← hmirror] at hnoted
  have hend := (endPeriod_eq_startMirror s).trans (startMirror_of_writing hnoted)
  refine ⟨by rw [hend, hport]; simp, by rw [hend, hmirror, hgen], _, by rw [hend, hnoted], fun g => ?_⟩
  rw [List.mem_filter, endPeriod_group]
  refine and_congr_right fun _ => ?_
  by_cases hg : g < 1024 <;> simp [hg, Group.turns]

theorem endPeriod_mirror_of_idle {s : State} (hengine : s.regs.engine = .running ∨ s.regs.engine = .draining)
    (hmarks : s.mirror.marks = none) :
    (endPeriod s).mirror.generation = s.mirror.generation + 1#32 ∧
    (endPeriod s).mirror.marks = some (changedGroups (endPeriod s)) ∧
    (endPeriod s).port = (ask .mirror (mirrorWrite s .mirrorBody 4 (mirrorContent s.supervision.periodEnd (endPeriod s)))
      (ask .mirror (mirrorWrite s .mirrorOpen 0 (generationBytes (endPeriod s).mirror.generation)) s)).port := by
  obtain ⟨hregs, hmirror, hport⟩ := beforeMirror_keeps s.supervision.periodEnd (evaluateGroups s)
  obtain ⟨heng, hbase, hsize, hburst⟩ := evaluateGroups_exchange s
  obtain ⟨-, -, -, -, -, -, -, hgen, hnoted⟩ := evaluateGroups_spec s
  rw [hmarks, Option.map_none, ← hmirror] at hnoted
  rw [← hmirror] at hgen
  rw [← hregs] at heng hbase hsize hburst
  have hport' := hport.trans (show (evaluateGroups s).port = s.port by simp)
  rw [endPeriod_eq_startMirror]
  exact startMirror_asks (by rwa [heng]) hnoted hgen hport' hbase hsize hburst

/-! ### The bursts of a mirror write -/

theorem afterTransfer_mirror (r : Requester) (t : Transfer) (ts : List Transfer) (s : State) :
    (afterTransfer r t ts s).mirror = s.mirror ∧ (afterTransfer r t ts s).groups = s.groups := by
  simp [afterTransfer]

theorem mirrorBodyWritten_eq {s v : State} (hmirror : v.mirror = s.mirror) (hregs : v.regs = s.regs) :
    mirrorBodyWritten v = ask .mirror (mirrorWrite s .mirrorClose 0 (generationBytes (s.mirror.generation + 1#32)))
      (v.setMirror { s.mirror with generation := s.mirror.generation + 1#32 }) := by
  rw [mirrorBodyWritten, askGeneration_eq, hmirror]
  exact congrArg (ask .mirror · _) (mirrorWrite_congr (by simp [hregs]) (by simp [hregs]) _ _ _)

theorem clearMarks_group (gs : List Nat) (s : State) (g : Nat) :
    (clearMarks gs s).group g = if g ∈ gs then { s.group g with changed := false } else s.group g := by
  induction gs generalizing s with
  | nil => simp [clearMarks]
  | cons h hs ih =>
    rw [clearMarks, ih, group_putGroup]
    by_cases hg : g = h
    · subst hg; simp
    · simp [hg]

/-- A DRAINING engine's way to HALTED at the end of a mirror write, as the engine's state after it (R170). -/
theorem checkHalt_of_written {v : State} (hmarks : v.mirror.marks = none) :
    checkHalt v = v.setRegs { v.regs with
      engine := if v.regs.engine = .draining ∧ v.intake.inHand = [] ∧ v.intake.sweep.active = false then .halted
        else v.regs.engine } := by
  simp only [checkHalt, hmarks, true_and]
  split <;> rfl

theorem mirrorClosed_eq {v : State} {gs : List Nat} (hmarks : v.mirror.marks = some gs) :
    mirrorClosed v = ((v.setGroups (clearMarks gs v).groups).setMirror { v.mirror with marks := none }).setRegs
      { v.regs with engine := if v.regs.engine = .draining ∧ v.intake.inHand = [] ∧ v.intake.sweep.active = false
        then .halted else v.regs.engine } := by
  have hcleared : clearMarks gs v = v.setGroups (clearMarks gs v).groups := by
    apply State.eq_of_blocks <;> simp
  have hclosed : mirrorClosed v = checkHalt ((clearMarks gs v).setMirror { v.mirror with marks := none }) := by
    simp [mirrorClosed, hmarks]
  rw [hclosed, checkHalt_of_written rfl, hcleared]
  rfl

/-- Settles O37: the snapshot by its layouts, the period end by what signals the Mirror Writer, and the bursts by what the
completed transfer was for. -/
theorem periodEndSnapshotsTheMirror : Obligations.PeriodEndSnapshotsTheMirror := by
  refine ⟨fun pe v hlegal => ?_, fun s u hup hdue hexec => ?_, fun s t ts hcompletes _ => ?_⟩
  · intro content holds cal flag
    refine ⟨?_, fun g hg => ?_, fun i hi => mirrorContent_zero_carrier pe v hi, fun k hlow hk => ?_⟩
    · obtain ⟨hyear, hmonth, hday, hweekday, hhour, hminute, hsecond, htenth, hset, hreference, hengine, hactive, hstart,
        hepoch, hgaps, hlive, hexpired, htick⟩ := mirrorContent_holds_header pe v hlegal
      refine ⟨hyear, hmonth, hday, hweekday, hhour, hminute, hsecond, htenth, hset, ?_, ?_, ?_, ?_, hepoch, hgaps, ?_,
        hexpired, htick⟩
      · convert hreference using 1
        cases v.clock.reference <;> rfl
      · convert hengine using 1
        cases v.regs.engine <;> rfl
      · convert hactive using 1
        cases v.plan.active <;> rfl
      · convert hstart using 1
        cases v.regs.startKind <;> rfl
      · convert hlive using 1
        exact congrArg (contextsIn v) (funext fun c => by cases c <;> rfl)
    · obtain ⟨hcongestion, hchanged, hoccupancy, hfree⟩ := mirrorContent_holds_group pe v hg
      exact ⟨hcongestion, hchanged, hoccupancy, hfree⟩
    · exact mirrorContent_holds_carrier pe v hlow hk
  · rw [exec_periodEnd_of_due hup hdue] at hexec
    obtain rfl := Host.Outcome.next.inj hexec
    refine ⟨endPeriod_mirror_of_stopped, fun gs => endPeriod_mirror_of_writing, fun hengine hmarks => ?_⟩
    obtain ⟨hgen, hnoted, hport⟩ := endPeriod_mirror_of_idle hengine hmarks
    exact ⟨hgen, hnoted, hport, mirrorContent_length _ _⟩
  · intro v count
    obtain ⟨hintake, hregs⟩ : v.intake = s.intake ∧ v.regs = s.regs := afterTransfer_intake_regs ..
    obtain ⟨hmirror, hgroups⟩ : v.mirror = s.mirror ∧ v.groups = s.groups := afterTransfer_mirror ..
    have hdone : exec (.memoryBurstDone (.done [])) s = .next (serveNext .mirror (completed t.purpose (t.data ++ []) v)) :=
      exec_memoryBurstDone_of_completes hcompletes
    refine ⟨fun hpurpose => ?_, fun hpurpose => ?_, fun gs hpurpose hmarks => ?_⟩ <;> rw [hdone, hpurpose]
    · rfl
    · exact congrArg (fun w => Host.Outcome.next (serveNext .mirror w)) (mirrorBodyWritten_eq hmirror hregs)
    · have hclosed := mirrorClosed_eq (v := v) (hmirror ▸ hmarks)
      refine ⟨mirrorClosed v, rfl, fun g => ?_, ?_⟩
      · rw [hclosed, ← group_congr hgroups g, ← clearMarks_group]
        rfl
      · rw [hclosed, hmirror, hregs, hintake]
        rfl

end Sys2Proof.Machine
end

section
/-! PROOFS. The tick advance: what is due at the tick that ends is taken first, by the commands it stands for, and then the
tick counter rises (R52, R89, R96, R100, R112, notes/assumptions/6.md). -/

namespace Sys2Proof.Machine

/-! ### Commands one after another -/

theorem Runs.append {cs ds : List Instr} {s t v : State} (hfirst : Runs cs s t) (hthen : Runs ds t v) :
    Runs (cs ++ ds) s v := by
  induction cs generalizing s with
  | nil =>
    obtain rfl : t = s := hfirst
    exact hthen
  | cons c cs ih =>
    obtain ⟨w, hexec, hrest⟩ := hfirst
    exact ⟨w, hexec, ih hrest⟩

/-- Items treated in turn: those that `p` selects by a command each, and treating any other changes nothing. -/
theorem runs_of_filter {α : Type} {treat : α → State → State} {command : α → Instr} {p : α → Bool} {Inv : State → Prop}
    {xs : List α} (hkeep : ∀ x t, Inv t → Inv (treat x t))
    (htaken : ∀ x ∈ xs, p x = true → ∀ t, Inv t → exec (command x) t = .next (treat x t))
    (hpassed : ∀ x ∈ xs, p x = false → ∀ t, Inv t → treat x t = t) {s : State} (hs : Inv s) :
    Runs ((xs.filter p).map command) s (xs.foldl (fun t x => treat x t) s) := by
  induction xs generalizing s with
  | nil => rfl
  | cons x xs ih =>
    have hrest := @ih (fun y hy => htaken y (by simp [hy])) (fun y hy => hpassed y (by simp [hy]))
    rw [List.foldl_cons]
    cases hp : p x with
    | true =>
      rw [List.filter_cons_of_pos hp, List.map_cons]
      exact ⟨treat x s, htaken x (by simp) hp s hs, hrest (hkeep x s hs)⟩
    | false =>
      rw [List.filter_cons_of_neg (by simp [hp]), hpassed x (by simp) hp s hs]
      exact hrest hs

/-- What treating any item keeps, treating a list of them keeps. -/
theorem foldl_keeps {α : Type} {treat : α → State → State} {Inv : State → Prop}
    (hkeep : ∀ x t, Inv t → Inv (treat x t)) (xs : List α) {s : State} (hs : Inv s) :
    Inv (xs.foldl (fun t x => treat x t) s) := by
  induction xs generalizing s with
  | nil => exact hs
  | cons x xs ih => exact ih (hkeep x s hs)

/-! ### Gap entries that have lapsed (R52) -/

theorem wellFormedCode_of_legal {code : List Nat} (h : CodeLegal code) : wellFormedCode code = true := by
  obtain ⟨hlow, hhigh, hdigits⟩ := h
  simp only [wellFormedCode, Bool.and_eq_true, decide_eq_true_iff, List.all_eq_true]
  exact ⟨⟨hlow, hhigh⟩, hdigits⟩

theorem exec_gapEntryLapse_of_only {s : State} {pre post : List GapEntry} {e : GapEntry} (hup : s.up = true)
    (hcode : CodeLegal e.code) (hgaps : s.supervision.gaps = pre ++ e :: post)
    (hother : ∀ x ∈ pre ++ post, x.code ≠ e.code) (hlapsed : e.lapsed = true) :
    exec (.gapEntryLapse e.code) s = .next (s.setSupervision { s.supervision with gaps := pre ++ post }) := by
  have hwell : (Instr.gapEntryLapse e.code).wellFormed = true := wellFormedCode_of_legal hcode
  change execGapEntryLapse e.code s = _
  rw [execGapEntryLapse, if_neg (by simp [hwell]), gapWithCode_of_only hgaps hother, ← removeGap_of_only hgaps hother]
  exact congrArg Host.Outcome.next (if_pos ⟨hup, hlapsed⟩)

theorem removeLapsed_of_none {s : State} (h : ∀ e ∈ s.supervision.gaps, e.lapsed = false) : removeLapsed s = s := by
  have hall : s.supervision.gaps.filter (fun e => !e.lapsed) = s.supervision.gaps :=
    List.filter_eq_self.2 fun e he => by simp [h e he]
  rw [removeLapsed, hall]
  rfl

/-- The lapsed entries of `rest` are removed one by one, those before it having been looked at. -/
theorem runs_lapses {s : State} {pre rest : List GapEntry} (hup : s.up = true)
    (hgaps : s.supervision.gaps = pre ++ rest) (hpre : ∀ e ∈ pre, e.lapsed = false)
    (hcodes : (s.supervision.gaps.map GapEntry.code).Nodup) (hlegal : ∀ e ∈ s.supervision.gaps, CodeLegal e.code) :
    Runs ((rest.filter GapEntry.lapsed).map (fun e => .gapEntryLapse e.code)) s (removeLapsed s) := by
  induction rest generalizing s pre with
  | nil =>
    rw [List.append_nil] at hgaps
    exact removeLapsed_of_none (hgaps ▸ hpre)
  | cons e rest ih =>
    cases hlapsed : e.lapsed with
    | false =>
      rw [List.filter_cons_of_neg (by simp [hlapsed])]
      refine ih (pre := pre ++ [e]) hup (by simpa using hgaps) (fun x hx => ?_) hcodes hlegal
      rcases List.mem_append.1 hx with hx | hx
      · exact hpre x hx
      · rw [List.mem_singleton.1 hx, hlapsed]
    | true =>
      have hother : ∀ x ∈ pre ++ rest, x.code ≠ e.code := fun x hx hsame => by
        rw [hgaps, List.map_append, List.map_cons, List.nodup_middle, ← List.map_append] at hcodes
        exact (List.nodup_cons.1 hcodes).1 (List.mem_map.2 ⟨x, hx, hsame⟩)
      have hsub : (pre ++ rest).Sublist (pre ++ e :: rest) := (List.Sublist.refl pre).append (List.sublist_cons_self e rest)
      have hrest := ih (s := s.setSupervision { s.supervision with gaps := pre ++ rest }) hup rfl hpre
        ((hgaps ▸ hcodes).sublist (hsub.map _)) fun x hx => hlegal x (hgaps ▸ hsub.subset hx)
      have hsame : removeLapsed (s.setSupervision { s.supervision with gaps := pre ++ rest }) = removeLapsed s := by
        simp [removeLapsed, putGaps, hgaps, hlapsed]
        rfl
      rw [List.filter_cons_of_pos hlapsed, List.map_cons]
      exact ⟨_, exec_gapEntryLapse_of_only hup (hlegal e (by simp [hgaps])) hgaps hother hlapsed, hsame ▸ hrest⟩

/-! ### Sets handed over (R112) -/

/-- The pending set of a carrier and direction has been handed over by a compare. -/
def handedOver (s : State) (x : Nat × Direction) : Bool := ((s.carrier x.1).tariffs x.2).pending.any PendingSet.handed

theorem handedOver_iff {s : State} {x : Nat × Direction} : handedOver s x = true ↔
    ∃ p, ((s.carrier x.1).tariffs x.2).pending = some p ∧ p.handed = true := by
  rw [handedOver, Option.any_eq_true]

/-- The sets of some carriers, each carrier's inbound set before its outbound set. -/
def setsOf (cs : List Nat) : List (Nat × Direction) := cs.flatMap fun c => [(c, .inbound), (c, .outbound)]

theorem mem_setsOf {cs : List Nat} {x : Nat × Direction} : x ∈ setsOf cs ↔ x.1 ∈ cs := by
  obtain ⟨k, d⟩ := x
  cases d <;> simp [setsOf]

theorem takeAllHanded_eq_foldl (cs : List Nat) (s : State) :
    takeAllHanded cs s = (setsOf cs).foldl (fun t x => takeHanded x.1 x.2 t) s := by
  induction cs generalizing s with
  | nil => rfl
  | cons c cs ih => exact ih _

theorem takeHanded_of_not_handed {s : State} {x : Nat × Direction} (h : handedOver s x = false) :
    takeHanded x.1 x.2 s = s := by
  unfold takeHanded
  split
  next p hp =>
    have hnot : p.handed = false := by simpa [handedOver, hp] using h
    rw [hnot]
    rfl
  next => rfl

theorem takeHanded_of_handed {s : State} {x : Nat × Direction} (h : handedOver s x = true) :
    ∃ p, takeHanded x.1 x.2 s = activate x.1 x.2 { active := some p, pending := Option.none } s := by
  obtain ⟨p, hpending, hhanded⟩ := handedOver_iff.1 h
  exact ⟨p.records, by rw [takeHanded, hpending]; exact if_pos hhanded⟩

theorem handedOver_congr {s t : State} (h : t.carriers = s.carriers) (x : Nat × Direction) :
    handedOver t x = handedOver s x := by
  rw [handedOver, handedOver, carrier_congr h]

/-- An activation hands nothing over. -/
theorem handedOver_of_takeHanded {s : State} {x y : Nat × Direction}
    (h : handedOver (takeHanded x.1 x.2 s) y = true) : handedOver s y = true := by
  cases hx : handedOver s x with
  | false => rwa [takeHanded_of_not_handed hx] at h
  | true =>
    obtain ⟨p, hp⟩ := takeHanded_of_handed hx
    have hcarriers : (activate x.1 x.2 { active := some p, pending := Option.none } s).carriers =
        (putTariffs x.1 x.2 { active := some p, pending := Option.none } s).carriers := by simp [activate]
    rw [hp, handedOver_congr hcarriers] at h
    simp only [handedOver, putTariffs, carrier_putCarrier] at h
    split at h
    next hk =>
      rw [tariffs_setTariffs] at h
      split at h
      next => simp at h
      next => rwa [handedOver, hk]
    next => exact h

theorem exec_tariffActivation {s : State} {x : Nat × Direction} (hup : s.up = true) (hlow : 1 ≤ x.1) (hhigh : x.1 ≤ 255) :
    exec (.tariffActivation x.1 x.2) s = .next (takeHanded x.1 x.2 s) := by
  have hwell : (Instr.tariffActivation x.1 x.2).wellFormed = true := by simp [Instr.wellFormed, hlow, hhigh]
  change execTariffActivation x.1 x.2 s = _
  rw [execTariffActivation, if_neg (by simp [hwell]), if_pos hup]

/-- A carrier with a pending set is listed. -/
theorem mem_carriers_of_handed {s : State} {x : Nat × Direction} (h : handedOver s x = true) :
    x.1 ∈ s.carriers.map (fun e => e.1) := by
  refine List.mem_map.2 ⟨(x.1, s.carrier x.1), Table.mem_of_read_ne (t := s.carriers) (d := Carrier.reset) fun he => ?_, rfl⟩
  change s.carrier x.1 = _ at he
  rw [handedOver, he] at h
  cases hd : x.2 <;> rw [hd] at h <;> exact absurd h (by decide)

theorem runs_takeAllHanded {s : State} (hup : s.up = true) (hlegal : s.TariffsLegal) (cs : List Nat) :
    Runs (((setsOf cs).filter (handedOver s)).map (fun x => .tariffActivation x.1 x.2)) s (takeAllHanded cs s) := by
  rw [takeAllHanded_eq_foldl]
  refine runs_of_filter (Inv := fun t => t.up = true ∧ ∀ x, handedOver t x = true → handedOver s x = true)
    (fun x t ⟨htup, ht⟩ => ⟨?_, fun y hy => ht y (handedOver_of_takeHanded hy)⟩) (fun x _ hx t ⟨htup, _⟩ => ?_)
    (fun x _ hx t ⟨_, ht⟩ => ?_) ⟨hup, fun _ h => h⟩
  · rw [← htup]
    exact State.up_congr (by simp)
  · obtain ⟨-, hpending, -⟩ := hlegal
    obtain ⟨p, hp, -⟩ := handedOver_iff.1 hx
    obtain ⟨hlow, hhigh, -⟩ := hpending x.1 x.2 p hp
    exact exec_tariffActivation htup hlow hhigh
  · refine takeHanded_of_not_handed (Bool.eq_false_iff.2 fun h => ?_)
    rw [ht x h] at hx
    exact Bool.noConfusion hx

/-! ### The ticks at which a context falls due (R89, R96) -/

/-- The deadline of a PROVISIONAL context. -/
def CallState.expiryTick : CallState → Option Tick
  | .provisional _ deadline => some deadline
  | _ => none

/-- The tick of the long-call mark that an ANSWERED context has still to come to. -/
def CallState.longTick : CallState → Option Tick
  | .answered _ a => if a.long then none else some (a.tick + BitVec.ofNat 32 longCall)
  | _ => none

/-- The expiry of context `i` is due. -/
def expiryDue (s : State) (i : Nat) : Bool := (s.context i).state.expiryTick.any (reached s.now)

/-- The long-call mark of context `i` is due and not made. -/
def markDue (s : State) (i : Nat) : Bool := (s.context i).state.longTick.any (reached s.now)

theorem expiryTick_eq_some_iff {c : CallState} {t : Tick} :
    c.expiryTick = some t ↔ ∃ call deadline, c = .provisional call deadline ∧ deadline = t := by
  cases c <;> simp [CallState.expiryTick]

theorem longTick_eq_some_iff {c : CallState} {t : Tick} :
    c.longTick = some t ↔ ∃ call a, c = .answered call a ∧ a.long = false ∧ a.tick + BitVec.ofNat 32 longCall = t := by
  cases c <;> simp [CallState.longTick]

theorem expiryDue_iff {s : State} {i : Nat} : expiryDue s i = true ↔
    ∃ call deadline, (s.context i).state = .provisional call deadline ∧ (s.now - deadline).toNat < 2 ^ 31 := by
  simp only [expiryDue, Option.any_eq_true, reached_iff, expiryTick_eq_some_iff]
  constructor
  · rintro ⟨_, ⟨call, deadline, hstate, rfl⟩, hreached⟩
    exact ⟨call, deadline, hstate, hreached⟩
  · rintro ⟨call, deadline, hstate, hreached⟩
    exact ⟨_, ⟨call, deadline, hstate, rfl⟩, hreached⟩

theorem markDue_iff {s : State} {i : Nat} : markDue s i = true ↔
    ∃ call a, (s.context i).state = .answered call a ∧ a.long = false ∧
      (s.now - (a.tick + 864000#32)).toNat < 2 ^ 31 := by
  simp only [markDue, Option.any_eq_true, reached_iff, longTick_eq_some_iff]
  constructor
  · rintro ⟨_, ⟨call, a, hstate, hlong, rfl⟩, hreached⟩
    exact ⟨call, a, hstate, hlong, hreached⟩
  · rintro ⟨call, a, hstate, hlong, hreached⟩
    exact ⟨_, ⟨call, a, hstate, hlong, rfl⟩, hreached⟩

theorem expiryDue_congr {s t : State} {i : Nat} (hnow : t.now = s.now)
    (htick : (t.context i).state.expiryTick = (s.context i).state.expiryTick) : expiryDue t i = expiryDue s i := by
  rw [expiryDue, expiryDue, hnow, htick]

theorem markDue_congr {s t : State} {i : Nat} (hnow : t.now = s.now)
    (htick : (t.context i).state.longTick = (s.context i).state.longTick) : markDue t i = markDue s i := by
  rw [markDue, markDue, hnow, htick]

/-- A context that is due is listed. -/
theorem mem_contexts_of_ne_free {s : State} {i : Nat} (h : (s.context i).state ≠ .free) :
    i ∈ s.contexts.table.map (fun e => e.1) := by
  refine List.mem_map.2 ⟨(i, s.context i), Table.mem_of_read_ne (t := s.contexts.table) (d := Context.reset) fun he => h ?_, rfl⟩
  change s.context i = _ at he
  rw [he]
  rfl

theorem ne_free_of_expiryDue {s : State} {i : Nat} (h : expiryDue s i = true) : (s.context i).state ≠ .free := by
  obtain ⟨call, deadline, hstate, -⟩ := expiryDue_iff.1 h
  simp [hstate]

theorem ne_free_of_markDue {s : State} {i : Nat} (h : markDue s i = true) : (s.context i).state ≠ .free := by
  obtain ⟨call, a, hstate, -⟩ := markDue_iff.1 h
  simp [hstate]

/-! ### An activation moves no due tick -/

theorem addSegment_keeps (g : Segment) (a : Answered) :
    (addSegment g a).tick = a.tick ∧ (addSegment g a).long = a.long := by
  unfold addSegment
  split
  · exact ⟨rfl, rfl⟩
  · split_ifs <;> exact ⟨rfl, rfl⟩

theorem boundaryOn_ticks (s : State) (reaches : Call → Bool) (c : Context) :
    (boundaryOn s reaches c).state.expiryTick = c.state.expiryTick ∧
    (boundaryOn s reaches c).state.longTick = c.state.longTick := by
  unfold boundaryOn
  split
  next call a hc =>
    obtain ⟨htick, hlong⟩ := addSegment_keeps (segmentNow s call) a
    split
    · simp [hc, CallState.expiryTick, CallState.longTick, htick, hlong]
    · exact ⟨rfl, rfl⟩
  next => exact ⟨rfl, rfl⟩

theorem takeHanded_ticks (x : Nat × Direction) (s : State) (i : Nat) :
    ((takeHanded x.1 x.2 s).context i).state.expiryTick = (s.context i).state.expiryTick ∧
    ((takeHanded x.1 x.2 s).context i).state.longTick = (s.context i).state.longTick := by
  cases hx : handedOver s x with
  | false => rw [takeHanded_of_not_handed hx]; exact ⟨rfl, rfl⟩
  | true =>
    obtain ⟨p, hp⟩ := takeHanded_of_handed hx
    rw [hp, activate, context_boundaryEvent]
    have hbefore : (statusEvent (putTariffs x.1 x.2 { active := some p, pending := Option.none } s)).context i = s.context i :=
      context_congr (by simp) i
    rw [hbefore]
    exact boundaryOn_ticks _ _ _

theorem takeAllHanded_ticks (cs : List Nat) (s : State) (i : Nat) :
    ((takeAllHanded cs s).context i).state.expiryTick = (s.context i).state.expiryTick ∧
    ((takeAllHanded cs s).context i).state.longTick = (s.context i).state.longTick := by
  rw [takeAllHanded_eq_foldl]
  refine foldl_keeps (Inv := fun t => (t.context i).state.expiryTick = (s.context i).state.expiryTick ∧
    (t.context i).state.longTick = (s.context i).state.longTick) (fun x t ⟨hexpiry, hlong⟩ => ?_) _ ⟨rfl, rfl⟩
  obtain ⟨hexpiry', hlong'⟩ := takeHanded_ticks x t i
  exact ⟨hexpiry'.trans hexpiry, hlong'.trans hlong⟩

/-! ### Expiries (R89) -/

theorem expireAll_eq_foldl (is : List Nat) (s : State) : expireAll is s = is.foldl (fun t i => expire i t) s := by
  induction is generalizing s with
  | nil => rfl
  | cons i is ih => exact ih _

theorem expire_of_passed {s : State} {i : Nat} (h : expiryDue s i = false) : expire i s = s := by
  unfold expire
  split
  next call deadline hi => exact if_neg (by simpa [expiryDue, hi, CallState.expiryTick] using h)
  next => rfl

/-- A context after an expiry: freed, EXPIRED, or as it was. -/
theorem context_expire_cases {s : State} {i j : Nat} (h : ((expire i s).context j) ≠ s.context j) :
    ((expire i s).context j).state.expiryTick = none ∧ ((expire i s).context j).state.longTick = none ∧
    (j ∈ s.contexts.expired ∨ ∃ call deadline, (s.context j).state = .provisional call deadline) := by
  cases hdue : expiryDue s i with
  | false => exact absurd (by rw [expire_of_passed hdue]) h
  | true =>
    obtain ⟨call, deadline, hstate, hreached⟩ := expiryDue_iff.1 hdue
    have hi : s.context i = { generation := (s.context i).generation, state := .provisional call deadline } := by
      rw [← hstate]
    obtain ⟨-, hcontext, -⟩ := expire_spec hi (reached_iff.2 hreached)
    rw [hcontext] at h ⊢
    split at h
    next hfreed =>
      rw [if_pos hfreed]
      refine ⟨rfl, rfl, ?_⟩
      rcases List.mem_append.1 (List.mem_of_mem_take hfreed) with hj | hj
      · exact .inl hj
      · exact .inr ⟨call, deadline, by rw [List.mem_singleton.1 hj, hstate]⟩
    next hkept =>
      rw [if_neg hkept]
      split at h
      next hj =>
        rw [if_pos hj]
        exact ⟨rfl, rfl, .inr ⟨call, deadline, by rw [hj, hstate]⟩⟩
      next => exact absurd rfl h

theorem expiryDue_of_expire {s : State} {i j : Nat} (h : expiryDue (expire i s) j = true) : expiryDue s j = true := by
  have hnow : (expire i s).now = s.now := by simp [State.now]
  by_cases hsame : (expire i s).context j = s.context j
  · rwa [expiryDue_congr hnow (by rw [hsame])] at h
  · obtain ⟨hnone, -⟩ := context_expire_cases hsame
    rw [expiryDue, hnone] at h
    exact Bool.noConfusion h

/-- An expiry leaves every ANSWERED context, for the expired list holds none. -/
theorem longTick_expire {s : State} (h : s.Conserved) (i j : Nat) :
    ((expire i s).context j).state.longTick = (s.context j).state.longTick := by
  by_cases hsame : (expire i s).context j = s.context j
  · rw [hsame]
  · obtain ⟨-, hnone, hbefore⟩ := context_expire_cases hsame
    obtain ⟨-, -, -, -, -, -, -, hexpired⟩ := h
    rw [hnone]
    rcases hbefore with hj | ⟨call, deadline, hstate⟩
    · have hstate := (hexpired j).1 hj
      cases hc : (s.context j).state <;> rw [hc] at hstate <;> simp_all [CallState.isExpired, CallState.longTick]
    · rw [hstate]
      rfl

theorem runs_expireAll {s : State} (hup : s.up = true) (is : List Nat) (hindex : ∀ i ∈ is, i < 16384) :
    Runs ((is.filter (expiryDue s)).map .confirmationExpiry) s (expireAll is s) := by
  rw [expireAll_eq_foldl]
  refine runs_of_filter (Inv := fun t => t.up = true ∧ ∀ j, expiryDue t j = true → expiryDue s j = true)
    (fun i t ⟨htup, ht⟩ => ⟨?_, fun j hj => ht j (expiryDue_of_expire hj)⟩)
    (fun i hi _ t ⟨htup, _⟩ => exec_confirmationExpiry htup (hindex i hi)) (fun i _ hi t ⟨_, ht⟩ => ?_) ⟨hup, fun _ h => h⟩
  · rw [← htup]
    exact State.up_congr (by simp)
  · refine expire_of_passed (Bool.eq_false_iff.2 fun h => ?_)
    rw [ht i h] at hi
    exact Bool.noConfusion hi

theorem longTick_expireAll {s : State} (h : s.Conserved) (is : List Nat) (j : Nat) :
    ((expireAll is s).context j).state.longTick = (s.context j).state.longTick := by
  rw [expireAll_eq_foldl]
  refine (foldl_keeps (Inv := fun t => t.Conserved ∧ (t.context j).state.longTick = (s.context j).state.longTick)
    (fun i t ⟨ht, hlong⟩ => ⟨(upholds_expire i t).conserved ht, (longTick_expire ht i j).trans hlong⟩) is ⟨h, rfl⟩).2

/-! ### Long-call marks (R96) -/

theorem Table.insert_of_above {α : Type} {t : Table α} {k : Nat} (h : Table.above k t) (v : α) :
    Table.insert t k v = (k, v) :: t := by
  cases t with
  | nil => rfl
  | cons e t => exact if_pos (h e (by simp))

/-- What a table of rising indices reads, written again, changes nothing. -/
theorem Table.write_of_find {α : Type} [DecidableEq α] {t : Table α} {d v : α} {k : Nat} (h : Table.rising t = true)
    (hfind : Table.find t k = some v) (hne : v ≠ d) : Table.write t d k v = t := by
  have hput : Table.insert (Table.remove t k) k v = t := by
    induction t with
    | nil => simp at hfind
    | cons e t ih =>
      obtain ⟨j, w⟩ := e
      obtain ⟨habove, hrising⟩ := (Table.rising_cons _ _ _).1 h
      rw [Table.find] at hfind
      by_cases hj : j = k
      · subst hj
        rw [if_pos rfl, Option.some.injEq] at hfind
        rw [Table.remove, if_pos rfl, Table.remove_of_above habove, Table.insert_of_above habove, hfind]
      · rw [if_neg hj] at hfind
        have hlt : j < k := habove (k, v) (Table.mem_of_find hfind)
        rw [Table.remove, if_neg hj, Table.insert, if_neg (by omega), ih hrising hfind]
  rw [Table.write, if_neg hne]
  exact hput

theorem putContext_context {s : State} {i : Nat} (h : Table.rising s.contexts.table = true)
    (hi : (s.context i).state ≠ .free) : putContext i (s.context i) s = s := by
  have hne : s.context i ≠ Context.reset := fun he => hi (by rw [he]; rfl)
  have hfind : Table.find s.contexts.table i = some (s.context i) :=
    Table.find_of_mem h (Table.mem_of_read_ne (t := s.contexts.table) (d := Context.reset) hne)
  rw [putContext, Table.write_of_find h hfind hne]
  rfl

theorem markAllLong_eq_foldl (is : List Nat) (s : State) : markAllLong is s = is.foldl (fun t i => markLong i t) s := by
  induction is generalizing s with
  | nil => rfl
  | cons i is ih => exact ih _

/-- A context that no mark is due on is at most written again as it stands. -/
theorem markLong_of_passed {s : State} {i : Nat} (h : markDue s i = false) :
    markLong i s = s ∨ (s.context i).state ≠ .free ∧ markLong i s = putContext i (s.context i) s := by
  unfold markLong
  split
  next call a hi =>
    split
    next hreached =>
      have hlong : a.long = true := by
        by_contra hnot
        have hdue : markDue s i = true :=
          markDue_iff.2 ⟨call, a, hi, Bool.eq_false_iff.2 hnot, reached_iff.1 hreached⟩
        exact Bool.noConfusion (h.symm.trans hdue)
      have hsame : ({ generation := (s.context i).generation, state := .answered call { a with long := true } } : Context) =
          s.context i := by rw [← hlong, ← hi]
      exact .inr ⟨by simp [hi], by rw [hsame]⟩
    next => exact .inl rfl
  next => exact .inl rfl

theorem markLong_eq_of_passed {s : State} {i : Nat} (hrising : Table.rising s.contexts.table = true)
    (h : markDue s i = false) : markLong i s = s := by
  rcases markLong_of_passed h with hsame | ⟨hfree, hsame⟩
  · exact hsame
  · rw [hsame, putContext_context hrising hfree]

theorem context_markLong_of_passed {s : State} {i : Nat} (h : markDue s i = false) (j : Nat) :
    (markLong i s).context j = s.context j := by
  rcases markLong_of_passed h with hsame | ⟨-, hsame⟩
  · rw [hsame]
  · rw [hsame, context_putContext]
    split
    next hj => rw [hj]
    next => rfl

theorem markDue_of_markLong {s : State} {i j : Nat} (h : markDue (markLong i s) j = true) : markDue s j = true := by
  have hnow : (markLong i s).now = s.now := by simp [State.now]
  by_cases hj : j = i
  · subst hj
    obtain ⟨call, a, hstate, hlong, hreached⟩ := markDue_iff.1 h
    exact absurd ⟨call, a, hstate, hlong, reached_iff.2 hreached⟩ (not_longDue_markLong j s)
  · rwa [markDue_congr hnow (by rw [context_markLong_of_ne hj])] at h

theorem runs_markAllLong {s : State} (hup : s.up = true) (h : s.Conserved) (is : List Nat) (hindex : ∀ i ∈ is, i < 16384) :
    Runs ((is.filter (markDue s)).map .longCallMark) s (markAllLong is s) := by
  rw [markAllLong_eq_foldl]
  refine runs_of_filter (Inv := fun t => t.up = true ∧ t.Conserved ∧ ∀ j, markDue t j = true → markDue s j = true)
    (fun i t ⟨htup, hconserved, ht⟩ => ⟨?_, (upholds_markLong i t).conserved hconserved,
      fun j hj => ht j (markDue_of_markLong hj)⟩)
    (fun i hi _ t ⟨htup, _⟩ => exec_longCallMark htup (hindex i hi)) (fun i _ hi t ⟨_, ⟨hrising, _⟩, ht⟩ => ?_)
    ⟨hup, h, fun _ h => h⟩
  · rw [← htup]
    exact State.up_congr (by simp)
  · refine markLong_eq_of_passed hrising (Bool.eq_false_iff.2 fun h => ?_)
    rw [ht i h] at hi
    exact Bool.noConfusion hi

/-- With no mark due, treating every context leaves what the Context Table reads. -/
theorem markAllLong_of_none {s : State} (h : ∀ i, markDue s i = false) (is : List Nat) :
    (∀ j, (markAllLong is s).context j = s.context j) ∧
    markAllLong is s = s.setContexts { s.contexts with table := (markAllLong is s).contexts.table } := by
  rw [markAllLong_eq_foldl]
  refine foldl_keeps (Inv := fun t => (∀ j, t.context j = s.context j) ∧
    t = s.setContexts { s.contexts with table := t.contexts.table }) (fun i t ⟨hcontext, hframe⟩ => ?_) is ⟨fun _ => rfl, rfl⟩
  have hnow : t.now = s.now := by rw [hframe]; rfl
  have hpassed : markDue t i = false := (markDue_congr hnow (by rw [hcontext])).trans (h i)
  refine ⟨fun j => (context_markLong_of_passed hpassed j).trans (hcontext j), ?_⟩
  rcases markLong_of_passed hpassed with hsame | ⟨-, hsame⟩
  · rw [hsame]; exact hframe
  · rw [hsame]
    conv_lhs => rw [hframe]
    rfl

/-! ### The period end and the rise of the counter (R40, R52, R100) -/

/-- The period end, if it is due. -/
def endDuePeriod (s : State) : State := if periodDue s then endPeriod s else s

theorem exec_periodEnd_of_up {s : State} (hup : s.up = true) : exec .periodEnd s = .next (endDuePeriod s) := by
  change execPeriodEnd s = _
  simp only [execPeriodEnd, hup, true_and, endDuePeriod]

/-- Every set handed over is activated, carrier by carrier. -/
def takeEveryHanded (s : State) : State := takeAllHanded (s.carriers.map (fun e => e.1)) s

/-- Every expiry that is due is made, by index. -/
def expireEvery (s : State) : State := expireAll (s.contexts.table.map (fun e => e.1)) s

/-- Every long-call mark that is due is made, by index. -/
def markEvery (s : State) : State := markAllLong (s.contexts.table.map (fun e => e.1)) s

theorem settleTick_eq (s : State) :
    settleTick s = endDuePeriod (markEvery (expireEvery (takeEveryHanded (removeLapsed s)))) := rfl

theorem tickRise_eq {s v : State} (hclock : v.clock = s.clock) : tickRise v =
    (v.setClock { v.clock with tick := s.clock.tick + 1#32, tickDivider := 0 }).setSupervision { v.supervision with
      gaps := v.supervision.gaps.map GapEntry.countDown } := by
  rw [tickRise, countDownGaps, putGaps, hclock]
  rfl

theorem exec_tickAdvance_of_due {s : State} (hup : s.up = true) (hdue : 800 ≤ s.clock.tickDivider) :
    exec .tickAdvance s = .next (tickRise (settleTick s)) := by
  have htick : tickDue s = true := decide_eq_true hdue
  change execTickAdvance s = _
  rw [execTickAdvance, if_pos ⟨hup, htick⟩, advanceTick]

theorem exec_tickAdvance_of_not_due {s : State} (hdue : s.clock.tickDivider < 800) : exec .tickAdvance s = .next s := by
  have htick : tickDue s = false := decide_eq_false (by omega)
  change execTickAdvance s = _
  rw [execTickAdvance, if_neg (by simp [htick])]

/-! ### A tick with nothing due -/

theorem takeEveryHanded_of_none {s : State} (h : ∀ x, handedOver s x = false) : takeEveryHanded s = s := by
  rw [takeEveryHanded, takeAllHanded_eq_foldl]
  exact List.foldl_fixed' (fun x => takeHanded_of_not_handed (h x)) _

theorem expireEvery_of_none {s : State} (h : ∀ i, expiryDue s i = false) : expireEvery s = s := by
  rw [expireEvery, expireAll_eq_foldl]
  exact List.foldl_fixed' (fun i => expire_of_passed (h i)) _

theorem settleTick_of_none {s : State} (hlapsed : ∀ e ∈ s.supervision.gaps, e.lapsed = false)
    (hhanded : ∀ x, handedOver s x = false) (hexpiry : ∀ i, expiryDue s i = false) (hmark : ∀ i, markDue s i = false)
    (hperiod : periodDue s = false) :
    ∃ t, settleTick s = s.setContexts { s.contexts with table := t } ∧ ∀ i, Table.read t Context.reset i = s.context i := by
  obtain ⟨hcontext, hframe⟩ := markAllLong_of_none hmark (s.contexts.table.map (fun e => e.1))
  have hquiet : periodDue (markEvery s) = false := by
    rw [markEvery, hframe]
    exact hperiod
  have hsettled : settleTick s = markEvery s := by
    rw [settleTick_eq, removeLapsed_of_none hlapsed, takeEveryHanded_of_none hhanded, expireEvery_of_none hexpiry,
      endDuePeriod, if_neg (by simp [hquiet])]
  exact ⟨(markEvery s).contexts.table, hsettled.trans hframe, hcontext⟩

/-! ### A tick with events due -/

theorem rising_dueIndices {s : State} (h : s.Conserved) (p : Nat → Bool) :
    ((s.contexts.table.map (fun e => e.1)).filter p).Pairwise (· < ·) :=
  (Table.rising_iff_pairwise.1 h.1).filter p

theorem index_of_listed {s : State} (h : s.Conserved) {i : Nat} (hi : i ∈ s.contexts.table.map (fun e => e.1)) :
    i < 16384 := by
  obtain ⟨e, he, rfl⟩ := List.mem_map.1 hi
  exact h.2.1 e he

/-- The events due at the tick that ends, as the commands that stand for them, in the order they are taken. -/
theorem runs_settleTick {s : State} (hup : s.up = true) (hsupervision : s.supervision.Legal) (hconserved : s.Conserved)
    (hcalls : s.CallsLegal) (htariffs : s.TariffsLegal) :
    ∃ (lapses : List (List Nat)) (sets : List (Nat × Direction)) (expiries marks : List Nat),
      (∀ code, code ∈ lapses ↔ ∃ e ∈ s.supervision.gaps, e.code = code ∧ e.lapsed = true) ∧
      (∀ x, x ∈ sets ↔ handedOver s x = true) ∧ (∀ i, i ∈ expiries ↔ expiryDue s i = true) ∧
      (∀ i, i ∈ marks ↔ markDue s i = true) ∧ expiries.Pairwise (· < ·) ∧ marks.Pairwise (· < ·) ∧
      Runs (lapses.map .gapEntryLapse ++ sets.map (fun x => .tariffActivation x.1 x.2) ++
        expiries.map .confirmationExpiry ++ marks.map .longCallMark ++ [.periodEnd]) s (settleTick s) := by
  obtain ⟨-, -, -, -, -, -, hcodes, -⟩ := hsupervision
  let s1 := removeLapsed s
  let s2 := takeEveryHanded s1
  let s3 := expireEvery s2
  let s4 := markEvery s3
  have hup1 : s1.up = true := (State.up_congr (by simp [s1])).trans hup
  have hup2 : s2.up = true := (State.up_congr (by simp [s2, takeEveryHanded])).trans hup1
  have hup3 : s3.up = true := (State.up_congr (by simp [s3, expireEvery])).trans hup2
  have hup4 : s4.up = true := (State.up_congr (by simp [s4, markEvery])).trans hup3
  have hconserved2 : s2.Conserved :=
    (upholds_takeAllHanded _ s1).conserved ((upholds_removeLapsed s).conserved hconserved)
  have hconserved3 : s3.Conserved := (upholds_expireAll _ s2).conserved hconserved2
  have htariffs1 : s1.TariffsLegal := htariffs
  have hexpiry : ∀ i, expiryDue s2 i = expiryDue s i := fun i =>
    have hnow : (takeEveryHanded s1).now = s.now := by simp [takeEveryHanded, s1, State.now]
    expiryDue_congr hnow (takeAllHanded_ticks _ s1 i).1
  have hmark : ∀ i, markDue s3 i = markDue s i := fun i => by
    have htick := (longTick_expireAll hconserved2 (s2.contexts.table.map (fun e => e.1)) i).trans
      (takeAllHanded_ticks _ s1 i).2
    exact markDue_congr (by simp [s3, expireEvery, s2, takeEveryHanded, s1, State.now]) htick
  have hlapses := runs_lapses (pre := []) hup rfl (by simp) hcodes hcalls.codes.1
  have hsets := runs_takeAllHanded hup1 htariffs1 (s1.carriers.map (fun e => e.1))
  have hexpiries := runs_expireAll hup2 _ fun i hi => index_of_listed hconserved2 hi
  have hmarks := runs_markAllLong hup3 hconserved3 _ fun i hi => index_of_listed hconserved3 hi
  have hperiod : Runs [.periodEnd] s4 (settleTick s) := ⟨_, exec_periodEnd_of_up hup4, settleTick_eq s⟩
  refine ⟨(s.supervision.gaps.filter GapEntry.lapsed).map GapEntry.code, _, _, _, fun code => ?_, fun x => ?_, fun i => ?_,
    fun i => ?_, rising_dueIndices hconserved2 (expiryDue s2), rising_dueIndices hconserved3 (markDue s3),
    (((((List.map_map (f := GapEntry.code) (g := Instr.gapEntryLapse) ▸ hlapses).append hsets).append hexpiries).append
      hmarks).append hperiod)⟩
  · simp only [List.mem_map, List.mem_filter]
    exact exists_congr fun e => by rw [and_assoc, and_comm (a := e.lapsed = true)]
  · rw [List.mem_filter, mem_setsOf]
    exact ⟨fun ⟨_, hx⟩ => hx, fun hx => ⟨mem_carriers_of_handed hx, hx⟩⟩
  · rw [List.mem_filter, ← hexpiry]
    exact ⟨fun ⟨_, hi⟩ => hi, fun hi => ⟨mem_contexts_of_ne_free (ne_free_of_expiryDue hi), hi⟩⟩
  · rw [List.mem_filter, ← hmark]
    exact ⟨fun ⟨_, hi⟩ => hi, fun hi => ⟨mem_contexts_of_ne_free (ne_free_of_markDue hi), hi⟩⟩

/-- Settles O45: a tick with nothing due leaves the machine for the rise of the counter, and any other takes what is due by
the commands that stand for it. -/
theorem tickAdvanceRaisesTheCounter : Obligations.TickAdvanceRaisesTheCounter := by
  intro s hup
  have hclock : (settleTick s).clock = s.clock := by simp
  refine ⟨exec_tickAdvance_of_not_due, fun hdue => ⟨_, exec_tickAdvance_of_due hup hdue, ?_, ?_⟩, fun hdue hsupervision
    hconserved hcalls htariffs => ?_⟩
  · rw [tickRise_eq hclock, ← hclock]
    rfl
  · intro hlapsed hhanded hexpiry hmark hperiod
    have hnoSet : ∀ x, handedOver s x = false := fun x => Bool.eq_false_iff.2 fun h => by
      obtain ⟨p, hp, hset⟩ := handedOver_iff.1 h
      simp [hhanded x.1 x.2 p hp] at hset
    have hnoExpiry : ∀ i, expiryDue s i = false := fun i => Bool.eq_false_iff.2 fun h => by
      obtain ⟨call, deadline, hstate, hreached⟩ := expiryDue_iff.1 h
      exact Nat.not_lt.2 (hexpiry i call deadline hstate) hreached
    have hnoMark : ∀ i, markDue s i = false := fun i => Bool.eq_false_iff.2 fun h => by
      obtain ⟨call, a, hstate, hlong, hreached⟩ := markDue_iff.1 h
      rcases hmark i call a hstate with hset | hlater
      · simp [hset] at hlong
      · exact Nat.not_lt.2 hlater hreached
    have hnoPeriod : periodDue s = false := Bool.eq_false_iff.2 fun h => Nat.not_lt.2 hperiod (reached_iff.1 h)
    obtain ⟨t, ht, hcontext⟩ := settleTick_of_none hlapsed hnoSet hnoExpiry hnoMark hnoPeriod
    rw [ht]
    exact ⟨rfl, hcontext, rfl, rfl⟩
  · obtain ⟨lapses, sets, expiries, marks, hlapses, hsets, hexpiries, hmarks, hexpiryOrder, hmarkOrder, hruns⟩ :=
      runs_settleTick hup hsupervision hconserved hcalls htariffs
    refine ⟨lapses, sets, expiries, marks, settleTick s, hlapses, fun k d => ?_, fun i => ?_, fun i => ?_, hexpiryOrder,
      hmarkOrder, hruns, ?_⟩
    · rw [hsets, handedOver_iff]
    · rw [hexpiries, expiryDue_iff]
    · rw [hmarks, markDue_iff]
    · rw [exec_tickAdvance_of_due hup hdue, tickRise_eq hclock]
      rfl

end Sys2Proof.Machine
end

section
/-! PROOFS. Call-handle requests that find no call in a state of theirs: UNKNOWN_CALL, WRONG_STATE and TOO_LATE (R72, R82 to R85,
R90, R91). -/

namespace Sys2Proof.Machine

/-! ### The handle (R82, R83) -/

theorem matchHandle_eq_none_iff {s : State} {h : Handle} : matchHandle s h = none ↔
    h.epoch ≠ s.backup.epoch ∨ 16384 ≤ h.index ∨ (s.context h.index).state = .free ∨
      h.generation ≠ (s.context h.index).generation := by
  simp only [matchHandle, ite_eq_right_iff, reduceCtorEq, imp_false]
  rw [not_and_or, not_and_or, not_and_or, not_lt, not_not]

theorem service_eq_callRequest {k : Kind}
    (hk : k = .confirm ∨ k = .answer ∨ k = .release ∨ k = .crankback ∨ k = .queryCall) :
    ∃ rule, k.service = callRequest k rule := by
  rcases hk with rfl | rfl | rfl | rfl | rfl
  · exact ⟨confirmRule, rfl⟩
  · exact ⟨answerRule, rfl⟩
  · exact ⟨releaseRule, rfl⟩
  · exact ⟨crankbackRule, rfl⟩
  · exact ⟨queryRule, rfl⟩

section
variable {k : Kind} {rule : Nat → List Byte → Nat → Context → State → State} {s : State} {slot : Nat} {req : List Byte}

theorem exec_command_of_unmatched (hrule : k.service = callRequest k rule) (hserved : served k s = some (slot, req))
    (hclear : reservedClear k req = true) (hmatch : matchHandle s (handleOf req) = none) :
    exec k.command s = .next (reply slot req .unknownCall 0 [] s) := by
  rw [exec_command_of_served hserved, hrule, callRequest, if_neg (by simp [hclear]), hmatch]

theorem exec_command_of_names {i : Nat} {c : Context} (hrule : k.service = callRequest k rule)
    (hserved : served k s = some (slot, req)) (hclear : reservedClear k req = true) (hnames : Names s req i c)
    (hc : c.state ≠ .free) : exec k.command s = .next (rule slot req i c s) := by
  rw [exec_command_of_served hserved, hrule, callRequest_of_names hclear hnames hc]

end

/-! ### Calls in another state (R72, R84, R85) -/

/-- The states of a context that a request on a live call is refused in, by its kind. -/
def RefusedIn (k : Kind) (state : CallState) (call : Call) : Prop :=
  state = .confirmed call ∧ (k = .confirm ∨ k = .crankback) ∨
  (∃ a, state = .answered call a) ∧ (k = .confirm ∨ k = .answer ∨ k = .crankback) ∨
  (∃ deadline, state = .provisional call deadline) ∧ k = .answer

theorem exec_command_of_refusedIn {k : Kind} {s : State} {slot i : Nat} {req : List Byte} {c : Context} {call : Call}
    (hserved : served k s = some (slot, req)) (hclear : reservedClear k req = true) (hnames : Names s req i c)
    (hrefused : RefusedIn k c.state call) : exec k.command s = .next (reply slot req .wrongState 0 [] s) := by
  obtain ⟨generation, state⟩ := c
  rcases hrefused with ⟨rfl, rfl | rfl⟩ | ⟨⟨a, rfl⟩, rfl | rfl | rfl⟩ | ⟨⟨deadline, rfl⟩, rfl⟩
  · exact exec_command_of_names (rule := confirmRule) rfl hserved hclear hnames (by simp)
  · exact exec_command_of_names (rule := crankbackRule) rfl hserved hclear hnames (by simp)
  · exact exec_command_of_names (rule := confirmRule) rfl hserved hclear hnames (by simp)
  · exact exec_command_of_names (rule := answerRule) rfl hserved hclear hnames (by simp)
  · exact exec_command_of_names (rule := crankbackRule) rfl hserved hclear hnames (by simp)
  · exact exec_command_of_names (rule := answerRule) rfl hserved hclear hnames (by simp)

/-! ### EXPIRED calls (R90, R91) -/

theorem exec_command_of_expired {k : Kind} {s : State} {slot i generation : Nat} {req : List Byte} {call : Call}
    {deadline : Tick} (hk : k = .confirm ∨ k = .answer ∨ k = .release ∨ k = .crankback)
    (hserved : served k s = some (slot, req)) (hclear : reservedClear k req = true)
    (hnames : Names s req i { generation := generation, state := .expired call deadline }) :
    exec k.command s = .next (tooLate slot req i call deadline s) := by
  rcases hk with rfl | rfl | rfl | rfl
  · exact exec_command_of_names (rule := confirmRule) rfl hserved hclear hnames (by simp)
  · exact exec_command_of_names (rule := answerRule) rfl hserved hclear hnames (by simp)
  · exact exec_command_of_names (rule := releaseRule) rfl hserved hclear hnames (by simp)
  · exact exec_command_of_names (rule := crankbackRule) rfl hserved hclear hnames (by simp)

theorem context_dropExpired (i j : Nat) (s : State) : (dropExpired i s).context j = s.context j := rfl

/-- What the freeing of an EXPIRED context leaves: nothing but that context and the expired list differs. -/
theorem freeContext_dropExpired_spec (i : Nat) (s : State) :
    (freeContext i (dropExpired i s)).context i = { s.context i with state := .free } ∧
    (∀ j, j ≠ i → (freeContext i (dropExpired i s)).context j = s.context j) ∧
    (freeContext i (dropExpired i s)).contexts.expired = s.contexts.expired.filter (fun j => decide (j ≠ i)) ∧
    freeContext i (dropExpired i s) = s.setContexts { s.contexts with
      table := (freeContext i (dropExpired i s)).contexts.table,
      expired := (freeContext i (dropExpired i s)).contexts.expired } := by
  refine ⟨?_, fun j hj => ?_, rfl, rfl⟩
  · rw [context_freeContext, if_pos rfl, context_dropExpired]
  · rw [context_freeContext, if_neg hj, context_dropExpired]

/-- Settles O28, by whether the handle matches and by the state of the context it names. -/
theorem handlesOfOtherStates : Obligations.HandlesOfOtherStates := by
  refine ⟨fun k s slot req hk hserved hclear => ⟨fun hunmatched => ?_, fun i c call hnames hrefused => ?_⟩,
    fun k s slot req i generation call deadline hk hserved hclear hnames => ?_⟩
  · obtain ⟨rule, hrule⟩ := service_eq_callRequest hk
    exact exec_command_of_unmatched hrule hserved hclear (matchHandle_eq_none_iff.2 hunmatched)
  · exact exec_command_of_refusedIn hserved hclear hnames hrefused
  · obtain ⟨hfree, hother, hlist, hframe⟩ := freeContext_dropExpired_spec i s
    have ⟨_, _, _, _, hcontext⟩ := hnames
    rw [hcontext] at hfree
    exact ⟨_, exec_command_of_expired hk hserved hclear hnames, hfree, hother, hlist, hframe⟩

end Sys2Proof.Machine
end

section
/-! PROOFS. ANSWER on a confirmed call, QUERY CALL, and SET CALL TIMERS (R80, R82, R85, R86, R88, R91, R92, R97). -/

namespace Sys2Proof.Machine

/-! ### The terms snapshot and the first segment (R86, R97) -/

/-- The terms of a band record, the null terms where there is none (R86). -/
def termsOfRecord (r : Option BandRecord) : Terms :=
  { setup := (r.map BandRecord.setup).getD 0, minimum := (r.map BandRecord.minimum).getD 0,
    initial := (r.map BandRecord.initial).getD 1, subsequent := (r.map BandRecord.subsequent).getD 1,
    surcharge := (r.map BandRecord.surcharge).getD 0 }

theorem termsOf_eq (s : State) (k : Nat) (d : Direction) :
    termsOf s k d = if decide (k ≠ 0) then some (termsOfRecord (s.bandRecord k d s.clock.band)) else none := by
  by_cases hk : k = 0
  · simp [termsOf, hk]
  · cases hr : s.bandRecord k d s.clock.band <;> simp [termsOf, hk, hr, termsOfRecord, Terms.null]

theorem termsOf_isSome (s : State) (k : Nat) (d : Direction) : (termsOf s k d).isSome = decide (k ≠ 0) := by
  rw [termsOf_eq]
  cases decide (k ≠ 0) <;> rfl

theorem rateInForce_eq (s : State) (k : Nat) (d : Direction) : rateInForce s k d =
    if decide (k ≠ 0) then ((s.bandRecord k d s.clock.band).map BandRecord.rate).getD 0 else 0 := by
  by_cases hk : k = 0 <;> simp [rateInForce, hk]

theorem decide_ne_locked (r : Reference) : decide (r ≠ .locked) = decide (r = .freeRunning) := by
  cases r <;> rfl

theorem answerRule_of_confirmed (slot : Nat) (req : List Byte) (i generation : Nat) (call : Call) (s : State) :
    answerRule slot req i { generation := generation, state := .confirmed call } s = reply slot req .ok 0
      [⟨72, 4, s.now.toNat⟩, ⟨76, 1, s.clock.band⟩,
       ⟨77, 1, bit (termsOf s call.origin .inbound).isSome + 2 * bit (termsOf s (callOwner s call) .outbound).isSome⟩,
       ⟨78, 1, bit (!s.backup.clockSet) + 2 * bit (decide (s.clock.reference ≠ .locked))⟩]
      (putContext i { generation := generation, state := .answered call (answeredNow s call) } s) := rfl

/-- Settles O21: the snapshot and the segment are read from the records of the current band. -/
theorem answerTakesTermsAndFirstSegment : Obligations.AnswerTakesTermsAndFirstSegment := by
  intro s slot req i generation call hserved hclear hnames owner inRecord outRecord terms inPriced outPriced freeRunning
  have hexec : exec .answer s = .next _ :=
    exec_command_of_names (k := .answer) (rule := answerRule) rfl hserved hclear hnames (by simp)
  rw [hexec, answerRule_of_confirmed, answeredNow, segmentNow_eq, decide_ne_locked, termsOf_isSome, termsOf_isSome,
    termsOf_eq, termsOf_eq, rateInForce_eq, rateInForce_eq]
  rfl

/-! ### QUERY CALL (R88) -/

theorem CallState.call?_eq_none_iff {c : CallState} : c.call? = none ↔ c = .free := by
  cases c <;> simp [CallState.call?]

/-- A handle that matches a context names it (R82). -/
theorem names_of_matchHandle {s : State} {req : List Byte} {c : Context} (h : matchHandle s (handleOf req) = some c) :
    Names s req (handleOf req).index c ∧ c.state ≠ .free := by
  obtain ⟨⟨hepoch, hindex, hfree, hgeneration⟩, hc⟩ := Option.ite_none_right_eq_some.1 h
  cases hc
  exact ⟨⟨hepoch, rfl, hindex, hgeneration, rfl⟩, hfree⟩

theorem matchHandle_of_no_call {s : State} {req : List Byte}
    (h : ∀ i c call, Names s req i c → c.state.call? ≠ some call) : matchHandle s (handleOf req) = none := by
  refine Option.eq_none_iff_forall_ne_some.2 fun c hc => ?_
  obtain ⟨hnames, hfree⟩ := names_of_matchHandle hc
  obtain ⟨call, hcall⟩ := Option.ne_none_iff_exists'.1 (mt CallState.call?_eq_none_iff.1 hfree)
  exact h _ c call hnames hcall

theorem ticksUntil_eq (now deadline : Tick) :
    ticksUntil now deadline = if (now - deadline).toNat < 2 ^ 31 then 0 else (deadline - now).toNat :=
  if_congr reached_iff rfl rfl

theorem mul_bit (n : Nat) (b : Bool) : n * bit b = if b then n else 0 := by
  cases b <;> simp [bit]

theorem queryAnswered_eq (s : State) (a : Answered) : queryAnswered s a =
    [⟨88, 4, if a.long then 864000 else (s.now - a.tick).toNat⟩, ⟨93, 1, a.segments.length⟩,
     ⟨94, 1, (if a.merged then 1 else 0) + (if a.long then 2 else 0) + (if a.timeUnset then 4 else 0) +
       (if a.freeRunning then 8 else 0)⟩] := by
  rw [queryAnswered, mul_bit, mul_bit, mul_bit]
  rfl

theorem queryRule_of_provisional {c : Context} {call : Call} {deadline : Tick} (hc : c.state = .provisional call deadline)
    (slot : Nat) (req : List Byte) (i : Nat) (s : State) : queryRule slot req i c s = reply slot req .ok 0
      (queryFields s 1 (if (s.now - deadline).toNat < 2 ^ 31 then 0 else (deadline - s.now).toNat) call) s := by
  rw [← ticksUntil_eq, queryRule, hc]

theorem queryRule_of_answered {c : Context} {call : Call} {a : Answered} (hc : c.state = .answered call a)
    (slot : Nat) (req : List Byte) (i : Nat) (s : State) : queryRule slot req i c s =
      reply slot req .ok 0 (queryFields s 3 0 call ++ queryAnswered s a) s := by
  rw [queryRule, hc]

/-- Settles O27, by whether the handle matches and by the state of the context it names. -/
theorem queryCallChangesNothing : Obligations.QueryCallChangesNothing := by
  refine fun s slot req hserved hclear => ⟨fun hnone => ?_, fun i c call hnames hcall => ?_⟩
  · exact exec_command_of_unmatched (k := .queryCall) (rule := queryRule) rfl hserved hclear (matchHandle_of_no_call hnone)
  · have hfree : c.state ≠ .free := fun hfree => by rw [CallState.call?_eq_none_iff.2 hfree] at hcall; cases hcall
    have hexec : exec .queryCall s = .next (queryRule slot req i c s) :=
      exec_command_of_names (k := .queryCall) (rule := queryRule) rfl hserved hclear hnames hfree
    intro code timer
    rw [hexec]
    clear hexec hnames
    obtain ⟨generation, state⟩ := c
    cases state with
    | free => exact absurd rfl hfree
    | provisional call' deadline =>
      cases hcall
      rw [queryRule_of_provisional rfl]
      rfl
    | confirmed call' => cases hcall; rfl
    | answered call' a =>
      cases hcall
      rw [queryRule_of_answered rfl, queryAnswered_eq]
      rfl
    | expired call' deadline => cases hcall; rfl

/-! ### SET CALL TIMERS (R92) -/

/-- Settles O29: the timers are stored, and the expired list is trimmed to the limit just stored. -/
theorem callTimersTrimTheExpiredList : Obligations.CallTimersTrimTheExpiredList := by
  intro s slot req hserved window limit n
  have hexec : exec .setCallTimers s = .next (serveSetCallTimers slot req s) := exec_command_of_served hserved
  rw [hexec]
  refine ⟨fun hformat => ?_, fun hclear _ => ?_⟩
  · rw [serveSetCallTimers, if_pos hformat]
  · obtain ⟨hexpired, hcontext, hframe⟩ :=
      trimExpired_spec (s.setContexts { s.contexts with window := window, limit := limit })
    refine ⟨trimExpired (s.setContexts { s.contexts with window := window, limit := limit }), ?_, ?_, ?_, hexpired, hcontext, ?_⟩
    · rw [serveSetCallTimers, if_neg (by simp [hclear])]
    · rw [hframe]; rfl
    · rw [hframe]; rfl
    · rw [hframe]; rfl

end Sys2Proof.Machine
end

section
/-! PROOFS. Activations of tariff sets and their comparison with the calendar: TARIFF_ACTIVATION, CANCEL TARIFF, and a complete
tariff block (R93 to R95, R111 to R113, R121, R123 to R126). -/

namespace Sys2Proof.Machine

/-! ### The comparison of an effective time (R111) -/

theorem fieldsReached_iff {xs ys : List Nat} (h : xs.length = ys.length) :
    fieldsReached xs ys = true ↔ xs < ys ∨ xs = ys := by
  induction xs generalizing ys with
  | nil =>
    obtain rfl := List.length_eq_zero_iff.1 h.symm
    simp [fieldsReached]
  | cons x xs ih =>
    cases ys with
    | nil => simp at h
    | cons y ys =>
      rw [fieldsReached, List.cons_lt_cons_iff, List.cons.injEq]
      split
      next hxy => simp [ih (by simpa using h), hxy]
      next hxy => simp [hxy]

/-- An effective time is reached when its fields come before the calendar's or equal them. Core and Mathlib each give lists an
order `≤`; where a statement speaks of one, its `le_iff_lt_or_eq` brings it to this form. -/
theorem timeReached_iff {t : EffectiveTime} {c : Calendar} :
    timeReached t c = true ↔ t.fields < c.fields ∨ t.fields = c.fields :=
  fieldsReached_iff rfl

/-! ### Boundary events and the machines around them (R93 to R96) -/

/-- A boundary event is one of any two machines that agree with its own in what it reads and leaves: the contexts, the tick and
the groups' owners before it, the contexts, the band and the rates after it. -/
theorem TakesBoundary.congr {s t u v : State} {p : Call → Prop} (h : TakesBoundary t v p) (hcontexts : s.contexts = t.contexts)
    (hnow : s.now = t.now) (hgroup : ∀ g, s.group g = t.group g) (hafter : u.contexts = v.contexts)
    (hband : u.clock.band = v.clock.band) (hrate : ∀ k d, rateInForce u k d = rateInForce v k d) : TakesBoundary s u p := by
  have hs : ∀ i, s.context i = t.context i := context_congr (by rw [hcontexts])
  have hu : ∀ i, u.context i = v.context i := context_congr (by rw [hafter])
  simpa only [TakesBoundary, hs, hu, hnow, hgroup, hband, hrate, hcontexts, hafter] using h

theorem rateInForce_congr {s t : State} {k : Nat} {d : Direction}
    (hactive : ((s.carrier k).tariffs d).active = ((t.carrier k).tariffs d).active) (hband : s.clock.band = t.clock.band) :
    rateInForce s k d = rateInForce t k d := by
  simp only [rateInForce, State.bandRecord, hactive, hband]

/-! ### A direction's sets replaced, and activations (R125) -/

/-- The sets of one direction are put in their place, and nothing else changes. -/
theorem putTariffs_frame (k : Nat) (d : Direction) (t : Tariffs) (s : State) :
    (putTariffs k d t s).carrier k = (s.carrier k).setTariffs d t ∧
      (∀ j, j ≠ k → (putTariffs k d t s).carrier j = s.carrier j) ∧
      putTariffs k d t s = s.setCarriers (putTariffs k d t s).carriers := by
  refine ⟨?_, fun j hj => ?_, rfl⟩
  · rw [putTariffs, carrier_putCarrier, if_pos rfl]
  · rw [putTariffs, carrier_putCarrier, if_neg hj]

theorem statusEvent_eq (s : State) : statusEvent s = s.setRegs (statusEvent s).regs := by
  unfold statusEvent raiseBit
  split <;> rfl

/-- An activation is a boundary event on the machine with the sets replaced and EVENTS raised; neither moves what selects the
calls that it reaches. -/
theorem activate_eq (k : Nat) (d : Direction) (t : Tariffs) (s : State) : activate k d t s =
    boundaryEvent (activationReaches s k d) ((s.setCarriers (putTariffs k d t s).carriers).setRegs (statusEvent s).regs) := by
  have hraised : statusEvent (putTariffs k d t s) =
      (s.setCarriers (putTariffs k d t s).carriers).setRegs (statusEvent s).regs := by
    rw [statusEvent_eq, statusEvent_regs_congr (s := putTariffs k d t s) (t := s) rfl]
    rfl
  rw [activate, hraised]
  rfl

/-- What an activation leaves (R93, R125). -/
theorem activated_activate (k : Nat) (d : Direction) (active : List BandRecord) (pending : Option PendingSet) (s : State) :
    Activated s (activate k d { active := some active, pending := pending } s) k d active pending := by
  obtain ⟨hcarrier, hother, -⟩ := putTariffs_frame k d { active := some active, pending := pending } s
  rw [activate_eq]
  refine ⟨hcarrier, hother, rfl, raiseBit_sets .events s, ?_, rfl⟩
  refine (takesBoundary_boundaryEvent (reaches := activationReaches s k d) (fun call => ?_) ((s.setCarriers
    (putTariffs k d { active := some active, pending := pending } s).carriers).setRegs (statusEvent s).regs)).congr
    rfl rfl (fun _ => rfl) rfl rfl fun _ _ => rfl
  cases d <;> exact decide_eq_true_iff.symm

theorem handedOver_eq_false {s : State} {k : Nat} {d : Direction}
    (h : ∀ p, ((s.carrier k).tariffs d).pending = some p → p.handed = false) : handedOver s (k, d) = false := by
  rw [Bool.eq_false_iff, Ne, handedOver_iff]
  rintro ⟨p, hp, hset⟩
  rw [h p hp] at hset
  cases hset

/-- With no set handed over, nothing is activated. -/
theorem takeHanded_of_waiting {s : State} {k : Nat} {d : Direction}
    (h : ∀ p, ((s.carrier k).tariffs d).pending = some p → p.handed = false) : takeHanded k d s = s :=
  takeHanded_of_not_handed (x := (k, d)) (handedOver_eq_false h)

/-- A set handed over is activated. -/
theorem activated_takeHanded {s : State} {k : Nat} {d : Direction} {p : PendingSet}
    (hp : ((s.carrier k).tariffs d).pending = some p) (hhanded : p.handed = true) :
    Activated s (takeHanded k d s) k d p.records none := by
  have htaken : takeHanded k d s = activate k d { active := some p.records, pending := none } s := by
    rw [takeHanded, hp]
    exact if_pos hhanded
  rw [htaken]
  exact activated_activate k d p.records none s

theorem Activated.pending_eq {s u : State} {k : Nat} {d : Direction} {active : List BandRecord} {pending : Option PendingSet}
    (h : Activated s u k d active pending) : ((u.carrier k).tariffs d).pending = pending := by
  rw [h.1, tariffs_setTariffs, if_pos rfl]

/-! ### TARIFF_ACTIVATION and CANCEL TARIFF (R112, R113, R125, R126) -/

section
variable {slot : Nat} {req : List Byte} {s : State} (hclear : reservedClear .cancelTariff req = true)
include hclear

theorem serveCancelTariff_of_range (h : byteAt req 8 = 0 ∨ 1 < byteAt req 9) :
    serveCancelTariff slot req s = reply slot req .range 0 [] s := by
  rw [serveCancelTariff, if_neg (by simp [hclear]), if_pos h]

section
variable (hcarrier : byteAt req 8 ≠ 0) (hdirection : byteAt req 9 ≤ 1) {v : State}
  (hv : takeHanded (byteAt req 8) (directionOf req) s = v)
include hcarrier hdirection hv

theorem serveCancelTariff_of_none (h : ((v.carrier (byteAt req 8)).tariffs (directionOf req)).pending = none) :
    serveCancelTariff slot req s = reply slot req .notPending 0 [] v := by
  subst hv
  rw [serveCancelTariff, if_neg (by simp [hclear]), if_neg (by omega)]
  simp only [h]

theorem serveCancelTariff_of_pending {p : PendingSet}
    (h : ((v.carrier (byteAt req 8)).tariffs (directionOf req)).pending = some p) :
    serveCancelTariff slot req s = reply slot req .ok 0 [⟨72, 6, p.time.value⟩]
      (putTariffs (byteAt req 8) (directionOf req)
        { active := ((v.carrier (byteAt req 8)).tariffs (directionOf req)).active, pending := none } v) := by
  subst hv
  rw [serveCancelTariff, if_neg (by simp [hclear]), if_neg (by omega)]
  simp only [h]

end

end

/-- Settles O48, by whether a compare has handed the pending set over. -/
theorem pendingSetsAreActivatedOrCancelled : Obligations.PendingSetsAreActivatedOrCancelled := by
  refine ⟨fun s k d hup hlow hhigh => ?_, fun s slot req hserved => ?_⟩
  · rw [exec_tariffActivation (x := (k, d)) hup hlow hhigh]
    exact ⟨fun p hp hhanded => ⟨_, rfl, activated_takeHanded hp hhanded⟩,
      fun hwaiting => congrArg _ (takeHanded_of_waiting hwaiting)⟩
  · intro k d t
    have hexec : exec .cancelTariff s = .next (serveCancelTariff slot req s) := exec_command_of_served hserved
    rw [hexec]
    refine ⟨fun hformat => ?_, fun hclear => ⟨fun hrange => ?_, fun hcarrier hdirection =>
      ⟨fun hnone => ?_, fun p hp hwaiting => ?_, fun p hp hhanded => ?_⟩⟩⟩
    · rw [serveCancelTariff, if_pos hformat]
    · rw [serveCancelTariff_of_range hclear hrange]
    · have hv : takeHanded k d s = s := takeHanded_of_waiting fun p hp => by rw [hnone] at hp; cases hp
      rw [serveCancelTariff_of_none hclear hcarrier hdirection hv hnone]
    · have hv : takeHanded k d s = s := takeHanded_of_waiting fun q hq => by
        obtain rfl : p = q := Option.some.inj (hp.symm.trans hq)
        exact hwaiting
      exact ⟨_, congrArg _ (serveCancelTariff_of_pending hclear hcarrier hdirection hv hp), putTariffs_frame k d _ s⟩
    · have hactivated := activated_takeHanded hp hhanded
      exact ⟨_, congrArg _ (serveCancelTariff_of_none hclear hcarrier hdirection rfl hactivated.pending_eq), hactivated⟩

/-! ### A complete tariff block (R121, R123, R124) -/

theorem badTariffRecord_of_reserved {r : List Byte} (h : ∃ i < 14, byteAt r (18 + i) ≠ 0) :
    badTariffRecord r = some .format := if_pos (zeroBytes_eq_false_iff.2 h)

theorem badTariffRecord_of_not_reserved {r : List Byte} (h : ¬ ∃ i < 14, byteAt r (18 + i) ≠ 0) :
    badTariffRecord r = none := if_neg (mt zeroBytes_eq_false_iff.1 h)

/-- Marks as the sum of the powers of two at their places. -/
theorem markBits_eq_sum (ms : List Bool) {n : Nat} (h : ms.length ≤ n) :
    markBits ms = ((List.range n).map (fun i => if ms[i]? = some true then 2 ^ i else 0)).sum := by
  induction ms generalizing n with
  | nil => simp [markBits]
  | cons m ms ih =>
    cases n with
    | zero => simp at h
    | succ n =>
      have hrest : ∀ i, (if (m :: ms)[i + 1]? = some true then 2 ^ (i + 1) else 0) =
          2 * (if ms[i]? = some true then 2 ^ i else 0) := fun i => by
        rw [List.getElem?_cons_succ, mul_ite, pow_succ', mul_zero]
      have hfirst : (if (m :: ms)[0]? = some true then 2 ^ 0 else 0) = bit m := by cases m <;> rfl
      rw [markBits, ih (Nat.le_of_succ_le_succ h), List.range_succ_eq_map, List.map_cons, List.sum_cons, List.map_map, hfirst,
        ← List.sum_map_mul_left]
      exact congrArg (fun l => bit m + List.sum l) (List.map_congr_left fun i _ => (hrest i).symm)

theorem flatMap_clampMarks_length (ws : List BandRecord) : (ws.flatMap clampMarks).length = 6 * ws.length := by
  induction ws with
  | nil => rfl
  | cons w ws ih =>
    rw [List.flatMap_cons, List.length_append, ih, List.length_cons, Nat.mul_succ, Nat.add_comm]
    rfl

theorem EffectiveTime.value_eq (t : EffectiveTime) : t.value =
    t.year + 256 * t.month + 256 ^ 2 * t.day + 256 ^ 3 * t.hour + 256 ^ 4 * t.minute + 256 ^ 5 * t.second := by
  rw [EffectiveTime.value]
  ring

theorem tariffAnswer_of_now (held : Bool) (marks : List Bool) : tariffAnswer 0 none held marks =
    [⟨72, 1, 0⟩, ⟨73, 1, if held then 2 else 0⟩, ⟨74, 1, marks.count true⟩, ⟨76, 6, 0⟩, ⟨82, 6, markBits marks⟩] := by
  cases held <;> rfl

theorem tariffAnswer_of_later (held : Option PendingSet) (marks : List Bool) :
    tariffAnswer 1 (held.map PendingSet.time) true marks =
      [⟨72, 1, 1⟩, ⟨73, 1, if held.isSome then 3 else 2⟩, ⟨74, 1, marks.count true⟩,
       ⟨76, 6, (held.map (fun p => p.time.value)).getD 0⟩, ⟨82, 6, markBits marks⟩] := by
  cases held <;> rfl

section
variable {slot : Nat} {req : List Byte} {records : List BandRecord} {marks : List Bool} {s v : State}
  (hv : takeHanded (byteAt req 8) (directionOf req) s = v)
include hv

/-- A set that is activated at once leaves the pending set as it is. -/
theorem applyTariff_of_now
    (hnow : isTimed req = false ∨ timeReached (effectiveTimeOf req) v.backup.calendar = true) :
    applyTariff slot req records marks s = reply slot req .ok 0
      (tariffAnswer 0 none ((v.carrier (byteAt req 8)).tariffs (directionOf req)).pending.isSome marks)
      (activate (byteAt req 8) (directionOf req)
        { active := some records, pending := ((v.carrier (byteAt req 8)).tariffs (directionOf req)).pending } v) := by
  subst hv
  rw [applyTariff]
  exact if_pos hnow

/-- A set for later takes the place of the pending set. -/
theorem applyTariff_of_later
    (hlater : ¬ (isTimed req = false ∨ timeReached (effectiveTimeOf req) v.backup.calendar = true)) :
    applyTariff slot req records marks s = reply slot req .ok 0
      (tariffAnswer 1 (((v.carrier (byteAt req 8)).tariffs (directionOf req)).pending.map PendingSet.time) true marks)
      (putTariffs (byteAt req 8) (directionOf req)
        { active := ((v.carrier (byteAt req 8)).tariffs (directionOf req)).active,
          pending := some { time := effectiveTimeOf req, records := records, handed := false } } v) := by
  subst hv
  rw [applyTariff]
  exact if_neg hlater

end

section
variable {slot : Nat} {req bytes : List Byte} {s : State} (hjob : s.carrierJob = some (.tariff slot req))
include hjob

theorem tariffBlockRead_of_bad {c : Code} {n : Nat} (h : firstBad badTariffRecord 1 (recordsOf 32 8 bytes) = some (c, n)) :
    tariffBlockRead bytes s = reply slot req c n [] (s.setCarrierJob none) := by
  rw [tariffBlockRead, hjob]
  simp only [h]

theorem tariffBlockRead_of_good (h : ∀ r ∈ recordsOf 32 8 bytes, badTariffRecord r = none) :
    tariffBlockRead bytes s = applyTariff slot req ((recordsOf 32 8 bytes).map (fun r => (writtenRecord r).clamped))
      ((recordsOf 32 8 bytes).flatMap (fun r => clampMarks (writtenRecord r))) (s.setCarrierJob none) := by
  rw [tariffBlockRead, hjob]
  simp only [(firstBad_eq_none_iff 1).2 h, List.map_map, List.flatMap_map]
  rfl

end

/-- The last burst of a tariff block: the block is checked and applied (R123). -/
theorem exec_of_tariffBlock {s : State} {t : Transfer} {ts : List Transfer} {data : List Byte}
    (h : Completes s .carrier t ts data) (hwrite : t.write = false) (hpurpose : t.purpose = .tariffBlock) :
    exec (.memoryBurstDone (.done data)) s =
      .next (serveNext .carrier (tariffBlockRead (t.data ++ data) (setTransfers .carrier ts s))) := by
  rw [exec_memoryBurstDone_of_completes h, hpurpose, afterTransfer_of_read hwrite]
  rfl

/-- Settles O47, by whether a record is bad, a set is handed over, and the new set's time is reached. -/
theorem tariffBlockIsAppliedOrHeld : Obligations.TariffBlockIsAppliedOrHeld := by
  intro s t ts data slot req hcompletes hwrite hpurpose hjob k d records reserved written stored set marks markField time
    timeField s1 now
  have hjob1 : (setTransfers .carrier ts s).carrierJob = some (.tariff slot req) := hjob
  have hmarks : markBits marks = markField := by
    refine markBits_eq_sum marks ?_
    have hlength := flatMap_clampMarks_length (records.map writtenRecord)
    rw [List.flatMap_map, List.length_map, recordsOf_length] at hlength
    exact hlength.le
  have htimeField : ∀ held : Option PendingSet, held.map (fun p => p.time.value) = held.map (fun p => timeField p.time) :=
    fun held => congrArg (Option.map · held) (funext fun p => p.time.value_eq)
  rw [exec_of_tariffBlock hcompletes hwrite hpurpose]
  refine ⟨fun n r hr hbad hfirst => ?_, fun hgood => ?_⟩
  · have hfound := firstBad_of_first 1 hr (badTariffRecord_of_reserved hbad)
      fun m hm q hq => badTariffRecord_of_not_reserved (hfirst m hm q hq)
    rw [tariffBlockRead_of_bad hjob1 hfound, Nat.add_comm 1 n]
  · rw [tariffBlockRead_of_good hjob1 fun r hr => badTariffRecord_of_not_reserved (hgood r hr)]
    have hcalendar : (takeHanded k d s1).backup.calendar = s.backup.calendar := by simp [s1, setTransfers]
    have hnow : (isTimed req = false ∨ timeReached (effectiveTimeOf req) (takeHanded k d s1).backup.calendar = true) ↔ now := by
      rw [hcalendar]
      refine or_congr decide_eq_false_iff_not ?_
      simp only [timeReached_iff, le_iff_lt_or_eq, List.le_iff_lt_or_eq]
      rfl
    refine ⟨takeHanded k d s1, takeHanded_of_waiting (s := s1), fun p hp => activated_takeHanded (s := s1) hp, ?_⟩
    refine ⟨fun h => ⟨_, activated_activate k d set _ _, ?_⟩, fun h => ?_⟩
    · rw [applyTariff_of_now rfl (hnow.2 h), tariffAnswer_of_now, ← hmarks]
      rfl
    · obtain ⟨hcarrier, hother, hframe⟩ := putTariffs_frame k d
        { active := (((takeHanded k d s1).carrier k).tariffs d).active,
          pending := some { time := time, records := set, handed := false } } (takeHanded k d s1)
      refine ⟨_, hcarrier, hother, hframe, ?_⟩
      rw [applyTariff_of_later rfl (mt hnow.1 h), tariffAnswer_of_later, htimeField, ← hmarks]
      rfl

end Sys2Proof.Machine
end

section
/-! PROOFS. SET CALENDAR and ALIGN MINUTE: the checks, the minute that is nearest, the calendar moved with its band and compare,
and the sets that the compare finds due (R101, R105 to R108, R111, R112). -/

namespace Sys2Proof.Machine

/-! ### Fields and their ranges (R105) -/

/-- The fields of a request as their values with their ranges. -/
def fieldValues (req : List Byte) (ranges : List (Nat × Nat × Nat)) : List (Nat × Nat × Nat) :=
  ranges.map (fun f => (byteAt req f.1, f.2))

/-- The first field outside its range, numbered from `n`. -/
theorem firstOutOfRange_of_first {req : List Byte} {pre post : List (Nat × Nat × Nat)} {f : Nat × Nat × Nat} (n : Nat)
    (hpre : ∀ h ∈ pre, h.2.1 ≤ byteAt req h.1 ∧ byteAt req h.1 ≤ h.2.2)
    (hf : ¬ (f.2.1 ≤ byteAt req f.1 ∧ byteAt req f.1 ≤ f.2.2)) :
    firstOutOfRange n (fieldValues req (pre ++ f :: post)) = n + pre.length := by
  induction pre generalizing n with
  | nil => exact if_neg hf
  | cons h pre ih =>
    obtain ⟨hhead, htail⟩ := List.forall_mem_cons.1 hpre
    have hrest := ih (n + 1) htail
    rw [List.length_cons, Nat.add_comm pre.length 1, ← Nat.add_assoc, ← hrest]
    exact if_pos hhead

theorem firstOutOfRange_of_all {req : List Byte} {ranges : List (Nat × Nat × Nat)} (n : Nat)
    (h : ∀ f ∈ ranges, f.2.1 ≤ byteAt req f.1 ∧ byteAt req f.1 ≤ f.2.2) : firstOutOfRange n (fieldValues req ranges) = 0 := by
  induction ranges generalizing n with
  | nil => rfl
  | cons f ranges ih =>
    obtain ⟨hhead, htail⟩ := List.forall_mem_cons.1 h
    rw [← ih (n + 1) htail]
    exact if_pos hhead

theorem calendarField_eq (req : List Byte) : calendarField req = firstOutOfRange 1
    (fieldValues req [(8, 0, 99), (9, 1, 12), (10, 1, 31), (11, 0, 6), (12, 0, 23), (13, 0, 59), (14, 0, 59)]) := rfl

theorem Calendar.value_eq (c : Calendar) : c.value =
    c.year + 256 * c.month + 256 ^ 2 * c.day + 256 ^ 3 * c.weekday + 256 ^ 4 * c.hour + 256 ^ 5 * c.minute +
      256 ^ 6 * c.second + 256 ^ 7 * c.tenth := by
  rw [Calendar.value]
  ring

theorem bit_decide_ne (a b : Nat) : bit (decide (a ≠ b)) = if a = b then 0 else 1 := by
  by_cases h : a = b <;> simp [bit, h]

/-! ### The nearest minute (R106) -/

theorem minuteCarry_second_tenth (c : Calendar) :
    (minuteCarry c).second = c.second ∧ (minuteCarry c).tenth = c.tenth := by
  have hday : ∀ b : Calendar, (dayCarry b).second = b.second ∧ (dayCarry b).tenth = b.tenth := fun b => by
    unfold dayCarry
    dsimp only
    split
    · exact ⟨rfl, rfl⟩
    · split <;> exact ⟨rfl, rfl⟩
  unfold minuteCarry
  split
  · split
    · exact hday _
    · exact ⟨rfl, rfl⟩
  · exact ⟨rfl, rfl⟩

theorem alignedMinute_of_early {c : Calendar} (h : c.second < 30) : alignedMinute c = { c with second := 0, tenth := 0 } :=
  if_pos h

/-- From second 30 on, the alignment is the carry out of the minute's last tenth. -/
theorem alignedMinute_of_late {c : Calendar} (h : 30 ≤ c.second) :
    alignedMinute c = addTenth { c with second := 59, tenth := 9 } :=
  if_neg (Nat.not_lt.2 h)

theorem alignedMinute_second_tenth (c : Calendar) : (alignedMinute c).second = 0 ∧ (alignedMinute c).tenth = 0 := by
  unfold alignedMinute
  split
  · exact ⟨rfl, rfl⟩
  · exact minuteCarry_second_tenth _

/-! ### The sets found due (R105, R111, R112) -/

/-- The pending set of a carrier and direction is one that a compare with `cal` finds due. -/
def setDue (cal : Calendar) (s : State) (x : Nat × Direction) : Bool := pendingDue cal ((s.carrier x.1).tariffs x.2)

theorem setDue_iff {cal : Calendar} {s : State} {x : Nat × Direction} : setDue cal s x = true ↔
    ∃ p, ((s.carrier x.1).tariffs x.2).pending = some p ∧ p.handed = false ∧ timeReached p.time cal = true := by
  unfold setDue pendingDue
  split
  next p hp => simp [hp]
  next hnone => simp [hnone]

/-- The sets that a compare with `cal` finds due, carrier by carrier. -/
def dueSets (cal : Calendar) (s : State) : List (Nat × Direction) :=
  (setsOf (s.carriers.map (fun e => e.1))).filter (setDue cal s)

theorem setsOf_nodup {cs : List Nat} (h : cs.Nodup) : (setsOf cs).Nodup := by
  refine List.nodup_flatMap.2 ⟨fun c _ => by simp, h.imp fun {a b} hne x ha hb => ?_⟩
  simp only [List.mem_cons, List.not_mem_nil, or_false] at ha hb
  rcases ha with rfl | rfl <;> rcases hb with hb | hb <;> exact hne (congrArg Prod.fst hb)

theorem dueSets_nodup {s : State} (h : Table.rising s.carriers = true) (cal : Calendar) : (dueSets cal s).Nodup :=
  (setsOf_nodup ((Table.rising_iff_pairwise.1 h).imp Nat.ne_of_lt)).filter _

/-- A carrier with a set that is due is listed. -/
theorem mem_dueSets {cal : Calendar} {s : State} {x : Nat × Direction} : x ∈ dueSets cal s ↔ setDue cal s x = true := by
  rw [dueSets, List.mem_filter, mem_setsOf]
  refine ⟨And.right, fun hdue => ⟨List.mem_map.2 ⟨(x.1, s.carrier x.1), ?_, rfl⟩, hdue⟩⟩
  refine Table.mem_of_read_ne (t := s.carriers) (d := Carrier.reset) fun hreset => ?_
  change s.carrier x.1 = _ at hreset
  rw [setDue, hreset] at hdue
  cases hd : x.2 <;> rw [hd] at hdue <;> exact absurd hdue Bool.false_ne_true

theorem length_filter_setsOf (p : Nat × Direction → Bool) (cs : List Nat) : ((setsOf cs).filter p).length =
    (cs.map (fun c => bit (p (c, .inbound)) + bit (p (c, .outbound)))).sum := by
  induction cs with
  | nil => rfl
  | cons c cs ih =>
    have hone : ∀ x, ([x].filter p).length = bit (p x) := fun x => by cases hp : p x <;> simp [hp, bit]
    rw [List.map_cons, List.sum_cons, ← ih, ← hone, ← hone, ← List.length_append, ← List.length_append, ← List.filter_append,
      ← List.filter_append]
    rfl

/-- The count in the answer is the number of sets found due. -/
theorem dueAt_eq_length {s : State} (h : Table.rising s.carriers = true) (cal : Calendar) :
    dueAt cal s = (dueSets cal s).length := by
  rw [dueSets, length_filter_setsOf, List.map_map]
  refine congrArg List.sum (List.map_congr_left fun e he => ?_)
  have hread : s.carrier e.1 = e.2 := by rw [State.carrier, Table.read, Table.find_of_mem h he]; rfl
  simp only [Function.comp, setDue, hread]
  rfl

/-! ### The compare (R112) -/

theorem handOver_active (cal : Calendar) (t : Tariffs) : (handOver cal t).active = t.active := by
  unfold handOver
  split
  · split <;> rfl
  · rfl

theorem handOver_pending (cal : Calendar) (t : Tariffs) : (handOver cal t).pending =
    t.pending.map (fun p => if timeReached p.time cal then { p with handed := true } else p) := by
  unfold handOver
  split
  next p hp =>
    rw [hp, Option.map_some]
    split
    · rfl
    · exact hp
  next hnone => rw [hnone]; rfl

theorem carrier_compareTariffs (s : State) (k : Nat) : (compareTariffs s).carrier k = { s.carrier k with
    inbound := handOver s.backup.calendar (s.carrier k).inbound
    outbound := handOver s.backup.calendar (s.carrier k).outbound } :=
  Table.read_mapValues _ _ _ _ rfl

theorem tariffs_compareTariffs (s : State) (k : Nat) (d : Direction) :
    ((compareTariffs s).carrier k).tariffs d = handOver s.backup.calendar ((s.carrier k).tariffs d) := by
  rw [carrier_compareTariffs]
  cases d <;> rfl

theorem compared_compareTariffs (s : State) : Compared s (compareTariffs s) := by
  intro k d
  rw [tariffs_compareTariffs, handOver_active, handOver_pending, carrier_compareTariffs]
  refine ⟨rfl, rfl, rfl, congrArg (Option.map · _) (funext fun p => if_congr ?_ rfl rfl)⟩
  simp only [timeReached_iff, le_iff_lt_or_eq, List.le_iff_lt_or_eq]
  rfl

/-- A compare moves no rate. -/
theorem rateInForce_compareTariffs (s : State) (k : Nat) (d : Direction) :
    rateInForce (compareTariffs s) k d = rateInForce s k d :=
  rateInForce_congr (by rw [tariffs_compareTariffs, handOver_active]) rfl

theorem bandEvaluated_compareTariffs {s t : State} (h : BandEvaluated s t) : BandEvaluated s (compareTariffs t) := by
  obtain ⟨hband, hsame, hchanged⟩ := h
  exact ⟨hband, hsame, fun hne => (hchanged hne).congr rfl rfl (fun _ => rfl) rfl rfl (rateInForce_compareTariffs t)⟩

/-! ### The calendar moved (R105, R106) -/

theorem calendarMoved_moveCalendar (cal : Calendar) (s : State) : CalendarMoved s (moveCalendar cal s) cal := by
  let s1 := (s.setBackup { s.backup with calendar := cal, clockSet := true }).setClock { s.clock with calDivider := 0 }
  obtain ⟨hband, hframe⟩ := evaluateBand_spec s1
  have hmoved : moveCalendar cal s = compareTariffs (evaluateBand s1) := rfl
  have hcarriers : (evaluateBand s1).carriers = s.carriers := by rw [hframe]; rfl
  rw [hmoved]
  refine ⟨?_, ?_, ?_, fun k d => ?_, ?_⟩
  · rw [hframe]; rfl
  · rw [hframe]; rfl
  · obtain ⟨hcell, hsame, hchanged⟩ := bandEvaluated_compareTariffs hband
    exact ⟨hcell, hsame, fun hne => (hchanged hne).congr rfl rfl (fun _ => rfl) rfl rfl fun _ _ => rfl⟩
  · rw [← carrier_congr hcarriers]
    exact compared_compareTariffs _ k d
  · rw [hframe]; rfl

/-! ### SET CALENDAR and ALIGN MINUTE (R105, R106) -/

section
variable {slot : Nat} {req : List Byte} {s : State}

theorem serveSetCalendar_of_range (hclear : reservedClear .setCalendar req = true) (h : calendarField req ≠ 0) :
    serveSetCalendar slot req s = reply slot req .range (calendarField req) [] s := by
  rw [serveSetCalendar, if_neg (by simp [hclear]), if_pos h]

theorem serveSetCalendar_of_inRange (hclear : reservedClear .setCalendar req = true) (h : calendarField req = 0) :
    serveSetCalendar slot req s = reply slot req .ok 0
      [⟨72, 8, (calendarOf req).value⟩, ⟨80, 1, bit s.backup.clockSet⟩,
       ⟨81, 1, (moveCalendar (calendarOf req) s).clock.band⟩,
       ⟨82, 1, bit (decide ((moveCalendar (calendarOf req) s).clock.band ≠ s.clock.band))⟩,
       ⟨84, 2, dueAt (calendarOf req) s⟩] (moveCalendar (calendarOf req) s) := by
  rw [serveSetCalendar, if_neg (by simp [hclear]), if_neg (not_not.2 h)]

theorem serveAlignMinute_of_unset (hclear : reservedClear .alignMinute req = true) (h : s.backup.clockSet = false) :
    serveAlignMinute slot req s = reply slot req .wrongState 0 [] s := by
  rw [serveAlignMinute, if_neg (by simp [hclear]), if_pos h]

theorem serveAlignMinute_of_set (hclear : reservedClear .alignMinute req = true) (h : s.backup.clockSet = true) :
    serveAlignMinute slot req s = reply slot req .ok 0
      [⟨72, 8, (alignedMinute s.backup.calendar).value⟩, ⟨80, 1, s.backup.calendar.second⟩,
       ⟨81, 1, (moveCalendar (alignedMinute s.backup.calendar) s).clock.band⟩,
       ⟨82, 1, bit (decide ((moveCalendar (alignedMinute s.backup.calendar) s).clock.band ≠ s.clock.band))⟩,
       ⟨84, 2, dueAt (alignedMinute s.backup.calendar) s⟩] (moveCalendar (alignedMinute s.backup.calendar) s) := by
  rw [serveAlignMinute, if_neg (by simp [hclear]), if_neg (by simp [h])]

end

/-- Settles O42: both requests move the calendar, by whether their fields and the clock allow it. -/
theorem calendarIsSetOrAligned : Obligations.CalendarIsSetOrAligned := by
  unfold Obligations.CalendarIsSetOrAligned
  intro bytes findsDue
  have hfinds : ∀ (s : State) (cal : Calendar), s.Canonical →
      findsDue s cal (dueSets cal s) ∧ dueAt cal s = (dueSets cal s).length := by
    rintro s cal ⟨-, -, -, hcanonical, -⟩
    have hrising := (Table.canonical_iff.1 hcanonical).1
    refine ⟨⟨dueSets_nodup hrising cal, fun k d => ?_⟩, dueAt_eq_length hrising cal⟩
    simp only [mem_dueSets, setDue_iff, timeReached_iff, le_iff_lt_or_eq, List.le_iff_lt_or_eq]
  refine ⟨fun s slot req hserved hclear => ?_, fun s slot req hserved hclear => ?_⟩
  · intro ranges inRange cal
    have hexec : exec .setCalendar s = .next (serveSetCalendar slot req s) := exec_command_of_served hserved
    rw [hexec]
    refine ⟨fun pre f post hranges hpre hf => ?_, fun hall hcanonical => ?_⟩
    · have hfield : calendarField req = pre.length + 1 := by
        rw [calendarField_eq, Nat.add_comm]
        change firstOutOfRange 1 (fieldValues req ranges) = _
        rw [hranges]
        exact firstOutOfRange_of_first 1 hpre hf
      rw [serveSetCalendar_of_range hclear (by omega), hfield]
    · obtain ⟨hdue, hcount⟩ := hfinds s cal hcanonical
      refine ⟨_, _, calendarMoved_moveCalendar cal s, hdue, ?_⟩
      rw [serveSetCalendar_of_inRange hclear (firstOutOfRange_of_all 1 hall), bit_decide_ne, Calendar.value_eq, ← hcount]
      rfl
  · have hexec : exec .alignMinute s = .next (serveAlignMinute slot req s) := exec_command_of_served hserved
    rw [hexec]
    refine ⟨fun hunset => by rw [serveAlignMinute_of_unset hclear hunset], fun hset _ hcanonical => ?_⟩
    obtain ⟨hdue, hcount⟩ := hfinds s (alignedMinute s.backup.calendar) hcanonical
    obtain ⟨hsecond, htenth⟩ := alignedMinute_second_tenth s.backup.calendar
    refine ⟨_, _, _, calendarMoved_moveCalendar (alignedMinute s.backup.calendar) s, hdue, hsecond, htenth,
      alignedMinute_of_early, alignedMinute_of_late, ?_⟩
    rw [serveAlignMinute_of_set hclear hset, bit_decide_ne, Calendar.value_eq, ← hcount]

end Sys2Proof.Machine
end

section
/-! PROOFS. Frame slots and the reference monitor: what earlier slots made due is taken by the commands it stands for, and the
slot is then counted; the loss and the lock of the reference (R97, R100, R109, R110, R114, notes/assumptions/6.md). -/

namespace Sys2Proof.Machine

/-! ### The commands that a slot can find due (R100, R101, R109, R110) -/

/-- The reference is lost, if that is due. -/
def loseDueReference (s : State) : State := if lossDue s then loseReference s else s

/-- The reference is locked, if that is due. -/
def lockDueReference (s : State) : State := if lockDue s then changeReference .locked s else s

/-- The tick advance, if it is due. -/
def advanceDueTick (s : State) : State := if tickDue s then advanceTick s else s

/-- The tenth advance, if it is due. -/
def advanceDueTenth (s : State) : State := if tenthDue s then advanceTenth s else s

theorem exec_tenthAdvance_of_counting {s : State} (h : s.up = true ∨ s.resetCounting = true) :
    exec .tenthAdvance s = .next (advanceDueTenth s) := by
  change execTenthAdvance s = _
  simp only [execTenthAdvance, h, true_and, advanceDueTenth]

section
variable {s : State} (hup : s.up = true)
include hup

theorem exec_referenceLoss_of_up : exec .referenceLoss s = .next (loseDueReference s) := by
  change execReferenceLoss s = _
  simp only [execReferenceLoss, hup, true_and, loseDueReference]

theorem exec_referenceLock_of_up : exec .referenceLock s = .next (lockDueReference s) := by
  change execReferenceLock s = _
  simp only [execReferenceLock, hup, true_and, lockDueReference]

theorem exec_tickAdvance_of_up : exec .tickAdvance s = .next (advanceDueTick s) := by
  change execTickAdvance s = _
  simp only [execTickAdvance, hup, true_and, advanceDueTick]

theorem exec_frameSlot_of_up (present : Bool) : exec (.frameSlot present) s = .next (countSlot present (settleSlot s)) := by
  change execFrameSlot present s = _
  rw [execFrameSlot, if_pos hup]

end

theorem up_loseDueReference (s : State) : (loseDueReference s).up = s.up := by
  unfold loseDueReference
  split
  · exact State.up_congr (by simp)
  · rfl

theorem up_lockDueReference (s : State) : (lockDueReference s).up = s.up := by
  unfold lockDueReference
  split
  · exact State.up_congr (by simp)
  · rfl

theorem up_advanceDueTick (s : State) : (advanceDueTick s).up = s.up := by
  unfold advanceDueTick
  split
  · exact State.up_congr (by simp)
  · rfl

/-! ### The reference changed (R109, R110) -/

theorem lossDue_iff {s : State} : lossDue s = true ↔ s.clock.reference = .locked ∧ 8 ≤ s.clock.missingRun :=
  decide_eq_true_iff

theorem lockDue_iff {s : State} : lockDue s = true ↔ s.clock.reference = .freeRunning ∧ 64 ≤ s.clock.presentRun :=
  decide_eq_true_iff

theorem loseDueReference_of_not_due {s : State} (h : ¬ (s.clock.reference = .locked ∧ 8 ≤ s.clock.missingRun)) :
    loseDueReference s = s := if_neg (mt lossDue_iff.1 h)

theorem lockDueReference_of_not_due {s : State} (h : ¬ (s.clock.reference = .freeRunning ∧ 64 ≤ s.clock.presentRun)) :
    lockDueReference s = s := if_neg (mt lockDue_iff.1 h)

theorem changeReference_eq (r : Reference) (s : State) : changeReference r s =
    (s.setClock { s.clock with reference := r, presentRun := 0, missingRun := 0 }).setRegs (statusEvent s).regs := by
  have hregs : (changeReference r s).regs = (statusEvent s).regs := statusEvent_regs_congr rfl
  rw [← hregs]
  exact statusEvent_eq _

theorem context_loseReference (s : State) (i : Nat) : (loseReference s).context i = markFreeRunning (s.context i) := by
  have hcontext : (changeReference .freeRunning s).context i = s.context i := by rw [changeReference_eq]; rfl
  rw [← hcontext]
  exact Table.read_mapValues _ _ _ _ rfl

/-- What the loss of the reference leaves (R110). -/
theorem loseReference_spec (s : State) :
    (loseReference s).clock = { s.clock with reference := .freeRunning, presentRun := 0, missingRun := 0 } ∧
    (loseReference s).regs = (statusEvent s).regs ∧
    (loseReference s).contexts = { s.contexts with table := (loseReference s).contexts.table } ∧
    loseReference s = ((s.setClock (loseReference s).clock).setRegs (loseReference s).regs).setContexts
      (loseReference s).contexts := by
  unfold loseReference
  rw [changeReference_eq]
  exact ⟨rfl, rfl, rfl, rfl⟩

/-- A reference just lost is not locked again in the same slot. -/
theorem lockDueReference_loseReference (s : State) : lockDueReference (loseReference s) = loseReference s := by
  obtain ⟨hclock, -⟩ := loseReference_spec s
  refine lockDueReference_of_not_due ?_
  rw [hclock]
  rintro ⟨-, hrun⟩
  exact absurd hrun (by simp)

/-! ### A slot (R100, R109, R114) -/

theorem settleSlot_eq (s : State) :
    settleSlot s = advanceDueTenth (advanceDueTick (lockDueReference (loseDueReference s))) := by
  have hreference : lockDueReference (loseDueReference s) =
      if lossDue s then loseReference s else if lockDue s then changeReference .locked s else s := by
    unfold loseDueReference
    split
    · exact lockDueReference_loseReference s
    · rfl
  rw [hreference]
  rfl

/-- What earlier slots made due, as the commands that stand for it, in the order it is taken. -/
theorem runs_settleSlot {s : State} (hup : s.up = true) :
    Runs [.referenceLoss, .referenceLock, .tickAdvance, .tenthAdvance] s (settleSlot s) := by
  have hup1 : (loseDueReference s).up = true := (up_loseDueReference s).trans hup
  have hup2 : (lockDueReference (loseDueReference s)).up = true := (up_lockDueReference _).trans hup1
  have hup3 : (advanceDueTick (lockDueReference (loseDueReference s))).up = true := (up_advanceDueTick _).trans hup2
  exact ⟨_, exec_referenceLoss_of_up hup, _, exec_referenceLock_of_up hup1, _, exec_tickAdvance_of_up hup2, _,
    exec_tenthAdvance_of_counting (.inl hup3), settleSlot_eq s⟩

theorem settleSlot_of_none {s : State} (htick : s.clock.tickDivider < 800) (htenth : s.clock.calDivider < 800)
    (hloss : ¬ (s.clock.reference = .locked ∧ 8 ≤ s.clock.missingRun))
    (hlock : ¬ (s.clock.reference = .freeRunning ∧ 64 ≤ s.clock.presentRun)) : settleSlot s = s := by
  have hnoTick : advanceDueTick s = s := if_neg (by simp [tickDue, htick])
  have hnoTenth : advanceDueTenth s = s := if_neg (by simp [tenthDue, htenth])
  rw [settleSlot_eq, loseDueReference_of_not_due hloss, lockDueReference_of_not_due hlock, hnoTick, hnoTenth]

theorem countSlot_eq (present : Bool) (s : State) : countSlot present s = s.setClock { s.clock with
    tickDivider := s.clock.tickDivider + 1
    calDivider := s.clock.calDivider + 1
    missingRun := if s.clock.reference = .locked then (if present then 0 else s.clock.missingRun + 1) else s.clock.missingRun
    presentRun := if s.clock.reference = .locked then s.clock.presentRun else if present then s.clock.presentRun + 1 else 0 } := by
  unfold countSlot judgeSlot
  cases hreference : s.clock.reference <;> cases present <;> simp [hreference]

theorem resetCounting_iff {s : State} :
    s.resetCounting = true ↔ s.power.main = true ∧ (s.power.reset = some .line ∨ s.power.reset = some .soft) := by
  simp [State.resetCounting]

theorem exec_frameSlot_of_counting {s : State} (hdown : s.up = false) (hcounting : s.resetCounting = true) (present : Bool) :
    exec (.frameSlot present) s = .next ((advanceDueTenth s).setClock
      { (advanceDueTenth s).clock with calDivider := (advanceDueTenth s).clock.calDivider + 1 }) := by
  change execFrameSlot present s = _
  rw [execFrameSlot, if_neg (by simp [hdown]), if_pos hcounting]
  rfl

theorem exec_frameSlot_of_not_counting {s : State} (hdown : s.up = false) (hcounting : ¬ s.resetCounting = true)
    (present : Bool) : exec (.frameSlot present) s = .next s := by
  change execFrameSlot present s = _
  rw [execFrameSlot, if_neg (by simp [hdown]), if_neg hcounting]

/-- Settles O44: a slot outside a reset takes what is due by the commands that stand for it, and one in a reset moves the
calendar divider alone. -/
theorem slotsRunTheDividersAndTheMonitor : Obligations.SlotsRunTheDividersAndTheMonitor := by
  unfold Obligations.SlotsRunTheDividersAndTheMonitor
  intro counted
  refine ⟨fun s present hdown => ?_, fun s hup => ?_⟩
  · intro afterReset
    refine ⟨fun hmain hreset => ?_, fun hstill => ?_⟩
    · have hcounting := resetCounting_iff.2 ⟨hmain, hreset⟩
      have hslot := exec_frameSlot_of_counting hdown hcounting present
      refine ⟨fun hbelow => ?_, fun _ => ⟨_, exec_tenthAdvance_of_counting (.inr hcounting), hslot⟩⟩
      have hnoTenth : advanceDueTenth s = s := if_neg (by simp [tenthDue, hbelow])
      rw [hslot, hnoTenth]
    · refine exec_frameSlot_of_not_counting hdown (fun hcounting => ?_) present
      obtain ⟨hmain, hreset⟩ := resetCounting_iff.1 hcounting
      rcases hstill with hoff | hpower
      · rw [hmain] at hoff; cases hoff
      · rw [hpower] at hreset; exact absurd hreset (by simp)
  · intro c
    have hcount : ∀ present, exec (.frameSlot present) s = .next (counted present (settleSlot s)) := fun present => by
      rw [exec_frameSlot_of_up hup, countSlot_eq]
    rw [exec_referenceLoss_of_up hup, exec_referenceLock_of_up hup]
    refine ⟨fun present => ⟨_, runs_settleSlot hup, hcount present⟩, fun present htick htenth hloss hlock => ?_,
      fun hnot => ?_, fun hnot => ?_, fun hfree hrun => ?_, fun hlocked hrun => ?_⟩
    · rw [hcount, settleSlot_of_none htick htenth (fun ⟨h, hrun⟩ => Nat.not_lt.2 hrun (hloss h))
        fun ⟨h, hrun⟩ => Nat.not_lt.2 hrun (hlock h)]
    · refine congrArg _ (loseDueReference_of_not_due fun ⟨hlocked, hrun⟩ => ?_)
      rcases hnot with hfree | hbelow
      · rw [hlocked] at hfree; cases hfree
      · exact Nat.not_lt.2 hrun hbelow
    · refine congrArg _ (lockDueReference_of_not_due fun ⟨hfree, hrun⟩ => ?_)
      rcases hnot with hlocked | hbelow
      · rw [hfree] at hlocked; cases hlocked
      · exact Nat.not_lt.2 hrun hbelow
    · exact congrArg _ (if_pos (lockDue_iff.2 ⟨hfree, hrun⟩))
    · obtain ⟨hclock, hregs, hcontexts, hframe⟩ := loseReference_spec s
      refine ⟨loseReference s, congrArg _ (if_pos (lossDue_iff.2 ⟨hlocked, hrun⟩)), hclock, hregs, fun i => ?_, hcontexts, hframe⟩
      exact context_loseReference s i

end Sys2Proof.Machine
end

section
/-! PROOFS. The tenth advance: a tenth added with its carries up to the date, the band and the compare that it makes due, and
what it leaves (R100 to R102, R107, R112, R114, R115). -/

namespace Sys2Proof.Machine

/-! ### Time of day and date after some tenths (R101, R102) -/

/-- Two calendars of the same date. -/
def SameDate (c d : Calendar) : Prop := d.year = c.year ∧ d.month = c.month ∧ d.day = c.day ∧ d.weekday = c.weekday

/-- `d` has the date of the day after `c`: the weekday rises by one, and the day, the month and the year carry (R102). -/
def NextDate (c d : Calendar) : Prop :=
  d.weekday = (c.weekday + 1) % 7 ∧
  (c.day < monthLength c.year c.month → d.day = c.day + 1 ∧ d.month = c.month ∧ d.year = c.year) ∧
  (monthLength c.year c.month ≤ c.day → d.day = 1 ∧ (c.month < 12 → d.month = c.month + 1 ∧ d.year = c.year) ∧
    (c.month = 12 → d.month = 1 ∧ d.year = (c.year + 1) % 100))

/-- `d` comes `n` tenths after `c`, at most a day: the time of day goes round at midnight, and the date is the next one then
and the same otherwise. -/
def Advances (n : Nat) (c d : Calendar) : Prop :=
  d.tenths = (c.tenths + n) % 864000 ∧ (c.tenths + n < 864000 → SameDate c d) ∧ (864000 ≤ c.tenths + n → NextDate c d)

/-- Tenths of the same day may be counted from an earlier or a later time of it. -/
theorem Advances.counted_from {m n : Nat} {b c d : Calendar} (h : Advances m b d) (hdate : SameDate c b)
    (htime : b.tenths + m = c.tenths + n) : Advances n c d := by
  obtain ⟨hyear, hmonth, hday, hweekday⟩ := hdate
  simpa only [Advances, SameDate, NextDate, hyear, hmonth, hday, hweekday, htime] using h

theorem Advances.same_day {n : Nat} {c d : Calendar} (hdate : SameDate c d) (htime : d.tenths = c.tenths + n)
    (hday : c.tenths + n < 864000) : Advances n c d :=
  ⟨by omega, fun _ => hdate, fun h => by omega⟩

theorem dayCarry_time (c : Calendar) : (dayCarry c).hour = c.hour ∧ (dayCarry c).minute = c.minute ∧
    (dayCarry c).second = c.second ∧ (dayCarry c).tenth = c.tenth := by
  unfold dayCarry
  dsimp only
  split
  · exact ⟨rfl, rfl, rfl, rfl⟩
  · split <;> exact ⟨rfl, rfl, rfl, rfl⟩

theorem dayCarry_tenths (c : Calendar) : (dayCarry c).tenths = c.tenths := by
  obtain ⟨hhour, hminute, hsecond, htenth⟩ := dayCarry_time c
  rw [Calendar.tenths, hhour, hminute, hsecond, htenth, Calendar.tenths]

theorem nextDate_dayCarry {c : Calendar} (h : c.Legal) : NextDate c (dayCarry c) := by
  obtain ⟨hyear, -, hmonth, -, -, hweekday, -⟩ := h
  have hrise : (if c.weekday = 6 then 0 else c.weekday + 1) = (c.weekday + 1) % 7 := by split <;> omega
  unfold dayCarry NextDate
  rw [hrise]
  dsimp only
  split
  next hday => exact ⟨rfl, fun _ => ⟨rfl, rfl, rfl⟩, fun hlast => by omega⟩
  next hday =>
    split
    next hdecember =>
      have hcentury : (if c.year = 99 then 0 else c.year + 1) = (c.year + 1) % 100 := by split <;> omega
      exact ⟨rfl, fun hlow => absurd hlow hday, fun _ => ⟨rfl, fun hless => by omega, fun _ => ⟨rfl, hcentury⟩⟩⟩
    next hother =>
      exact ⟨rfl, fun hlow => absurd hlow hday, fun _ => ⟨rfl, fun _ => ⟨rfl, rfl⟩, fun he => absurd he hother⟩⟩

theorem minuteCarry_advances {c : Calendar} (h : c.Legal) : Advances 600 c (minuteCarry c) := by
  obtain ⟨-, -, -, -, -, -, hhour, hminute, hsecond, htenth⟩ := id h
  unfold minuteCarry
  split
  · split
    · have htime : c.tenths + 600 = 864000 + (dayCarry { c with minute := 0, hour := 0 }).tenths := by
        rw [dayCarry_tenths]
        simp only [Calendar.tenths]
        omega
      have hdate : NextDate c (dayCarry { c with minute := 0, hour := 0 }) :=
        nextDate_dayCarry (h.withMinute (Nat.zero_le 23) (Nat.zero_le 59))
      have hearly : (dayCarry { c with minute := 0, hour := 0 }).tenths < 864000 := by
        rw [dayCarry_tenths]
        simp only [Calendar.tenths]
        omega
      exact ⟨by omega, fun _ => by omega, fun _ => hdate⟩
    · exact .same_day ⟨rfl, rfl, rfl, rfl⟩ (by simp only [Calendar.tenths]; omega) (by simp only [Calendar.tenths]; omega)
  · exact .same_day ⟨rfl, rfl, rfl, rfl⟩ (by simp only [Calendar.tenths]; omega) (by simp only [Calendar.tenths]; omega)

theorem secondCarry_advances {c : Calendar} (h : c.Legal) : Advances 10 c (secondCarry c) := by
  obtain ⟨-, -, -, -, -, -, hhour, hminute, hsecond, htenth⟩ := id h
  unfold secondCarry
  split
  · exact (minuteCarry_advances (h.withSecond (Nat.zero_le 59) htenth)).counted_from ⟨rfl, rfl, rfl, rfl⟩
      (by simp only [Calendar.tenths]; omega)
  · exact .same_day ⟨rfl, rfl, rfl, rfl⟩ (by simp only [Calendar.tenths]; omega) (by simp only [Calendar.tenths]; omega)

theorem addTenth_advances {c : Calendar} (h : c.Legal) : Advances 1 c (addTenth c) := by
  obtain ⟨-, -, -, -, -, -, hhour, hminute, hsecond, htenth⟩ := id h
  unfold addTenth
  split
  · exact (secondCarry_advances (h.withSecond hsecond (Nat.zero_le 9))).counted_from ⟨rfl, rfl, rfl, rfl⟩
      (by simp only [Calendar.tenths]; omega)
  · exact .same_day ⟨rfl, rfl, rfl, rfl⟩ (by simp only [Calendar.tenths]; omega) (by simp only [Calendar.tenths]; omega)

/-- A tenth that begins a half-hour is a half-hour carry: the second is at its last tenth, and the minute comes to 0 or 30. -/
theorem isHalfHourCarry_iff {c : Calendar} (h : c.Legal) : isHalfHourCarry c = true ↔ c.tenths % 18000 = 17999 := by
  obtain ⟨htime, -⟩ := addTenth_advances h
  obtain ⟨-, -, -, -, -, -, -, hminute, hsecond, htenth⟩ := h.addTenth
  obtain ⟨-, -, -, -, -, -, -, -, hsecondBefore, htenthBefore⟩ := h
  have hzero : c.tenth = 9 → c.second = 59 → (addTenth c).second = 0 ∧ (addTenth c).tenth = 0 := fun hlast hlastSecond => by
    rw [addTenth, if_pos hlast, secondCarry, if_pos hlastSecond]
    exact minuteCarry_second_tenth _
  rw [isHalfHourCarry, decide_eq_true_iff]
  simp only [Calendar.tenths] at htime ⊢
  constructor
  · rintro ⟨hlast, hlastSecond, hhalf⟩
    obtain ⟨hsecondZero, htenthZero⟩ := hzero hlast hlastSecond
    omega
  · intro hhalf
    obtain ⟨hlast, hlastSecond⟩ : c.tenth = 9 ∧ c.second = 59 := by omega
    obtain ⟨hsecondZero, htenthZero⟩ := hzero hlast hlastSecond
    exact ⟨hlast, hlastSecond, by omega⟩

theorem isSecondCarry_iff {c : Calendar} : isSecondCarry c = true ↔ c.tenth = 9 := decide_eq_true_iff

/-! ### TENTH_ADVANCE (R101, R107, R112, R114) -/

theorem monthLength_eq (c : Calendar) : monthLength c.year c.month =
    if c.month = 2 then (if c.year % 4 = 0 then 29 else 28) else if c.month ∈ [4, 6, 9, 11] then 30 else 31 := by
  simp only [monthLength, List.mem_cons, List.not_mem_nil, or_false]

/-- A band evaluation begins from the band and the calls alone. -/
theorem BandEvaluated.congr {s t v : State} (h : BandEvaluated t v) (hband : s.clock.band = t.clock.band)
    (hcontexts : s.contexts = t.contexts) (hnow : s.now = t.now) (hgroup : ∀ g, s.group g = t.group g) :
    BandEvaluated s v := by
  obtain ⟨hcell, hsame, hchanged⟩ := h
  rw [← hband] at hsame hchanged
  exact ⟨hcell, fun he => (hsame he).trans hcontexts.symm,
    fun hne => (hchanged hne).congr hcontexts hnow hgroup rfl rfl fun _ _ => rfl⟩

/-- A compare begins from the carriers alone. -/
theorem Compared.congr {s t v : State} (h : Compared t v) (hcarriers : s.carriers = t.carriers) : Compared s v := fun k d => by
  rw [carrier_congr hcarriers]
  exact h k d

/-- The machine with the calendar divider returned and the tenth added, before anything is evaluated (R101). -/
def tenthAdded (s : State) : State :=
  (s.setClock { s.clock with calDivider := 0 }).setBackup { s.backup with calendar := addTenth s.backup.calendar }

/-- The band evaluation of a tenth advance, where the tenth makes a half-hour carry (R107). -/
def bandStep (s : State) : State := if isHalfHourCarry s.backup.calendar then evaluateBand (tenthAdded s) else tenthAdded s

section
variable {s : State}

theorem advanceTenth_of_unset (hunset : s.backup.clockSet = false) :
    advanceTenth s = s.setClock { s.clock with calDivider := 0 } := by
  rw [advanceTenth, hunset]
  rfl

theorem advanceTenth_of_down (hset : s.backup.clockSet = true) (hdown : s.up = false) : advanceTenth s = tenthAdded s := by
  rw [advanceTenth, hset, hdown]
  rfl

theorem advanceTenth_of_up (hset : s.backup.clockSet = true) (hup : s.up = true) : advanceTenth s =
    if isSecondCarry s.backup.calendar then compareTariffs (bandStep s) else bandStep s := by
  rw [advanceTenth, hset, hup]
  rfl

/-- What the tenth added and its band evaluation come to. -/
theorem bandStep_spec (s : State) :
    (isHalfHourCarry s.backup.calendar = true → BandEvaluated s (bandStep s)) ∧
    (¬ isHalfHourCarry s.backup.calendar = true → bandStep s = tenthAdded s) ∧
    bandStep s = (((tenthAdded s).setClock { (tenthAdded s).clock with band := (bandStep s).clock.band }).setContexts
      (bandStep s).contexts) := by
  unfold bandStep
  split
  next hcarry =>
    obtain ⟨hband, hframe⟩ := evaluateBand_spec (tenthAdded s)
    exact ⟨fun _ => hband.congr rfl rfl rfl fun _ => rfl, fun hno => absurd hcarry hno, by rw [hframe]; rfl⟩
  next hcarry => exact ⟨fun h => absurd h hcarry, fun _ => rfl, rfl⟩

end

/-- What the tenth advance of a SET calendar comes to. -/
theorem advanceTenth_spec {s : State} (hset : s.backup.clockSet = true) :
    (advanceTenth s).backup = { s.backup with calendar := addTenth s.backup.calendar } ∧
    (advanceTenth s).clock = { s.clock with calDivider := 0, band := (advanceTenth s).clock.band } ∧
    (s.up = true → isHalfHourCarry s.backup.calendar = true → BandEvaluated s (advanceTenth s)) ∧
    (s.up = false ∨ ¬ isHalfHourCarry s.backup.calendar = true →
      (advanceTenth s).clock.band = s.clock.band ∧ (advanceTenth s).contexts = s.contexts) ∧
    (s.up = true → isSecondCarry s.backup.calendar = true → Compared s (advanceTenth s)) ∧
    (s.up = false ∨ ¬ isSecondCarry s.backup.calendar = true → (advanceTenth s).carriers = s.carriers) ∧
    advanceTenth s = (((s.setBackup (advanceTenth s).backup).setClock (advanceTenth s).clock).setContexts
      (advanceTenth s).contexts).setCarriers (advanceTenth s).carriers := by
  cases hup : s.up with
  | false =>
    rw [advanceTenth_of_down hset hup]
    exact ⟨rfl, rfl, nofun, fun _ => ⟨rfl, rfl⟩, nofun, fun _ => rfl, rfl⟩
  | true =>
    obtain ⟨hband, hstill, hframe⟩ := bandStep_spec s
    have hbackup : (bandStep s).backup = { s.backup with calendar := addTenth s.backup.calendar } := by rw [hframe]; rfl
    have hclock : (bandStep s).clock = { s.clock with calDivider := 0, band := (bandStep s).clock.band } := by
      rw [hframe]; rfl
    have hcarriers : (bandStep s).carriers = s.carriers := by rw [hframe]; rfl
    have hsame : true = false ∨ ¬ isHalfHourCarry s.backup.calendar = true →
        (bandStep s).clock.band = s.clock.band ∧ (bandStep s).contexts = s.contexts := fun h => by
      rw [hstill (h.resolve_left nofun)]
      exact ⟨rfl, rfl⟩
    rw [advanceTenth_of_up hset hup]
    split
    next hcompare =>
      exact ⟨hbackup, hclock, fun _ h => bandEvaluated_compareTariffs (hband h), hsame,
        fun _ _ => (compared_compareTariffs _).congr hcarriers.symm, fun h => absurd hcompare (h.resolve_left nofun),
        by rw [hframe]; rfl⟩
    next hcompare =>
      exact ⟨hbackup, hclock, fun _ => hband, hsame, fun _ h => absurd h hcompare, fun _ => hcarriers, by rw [hframe]; rfl⟩

/-- Settles O43: the carries are those of `addTenth_advances`, and the advance is that of `advanceTenth_spec`. -/
theorem tenthAdvanceCarriesTheCalendar : Obligations.TenthAdvanceCarriesTheCalendar := by
  refine ⟨fun c hlegal => ?_, fun s hcounting => ?_⟩
  · intro length d
    have hlength : monthLength c.year c.month = length := monthLength_eq c
    have hbefore : c.tenths ≤ 863999 := by
      obtain ⟨-, -, -, -, -, -, hhour, hminute, hsecond, htenth⟩ := hlegal
      simp only [Calendar.tenths]
      omega
    obtain ⟨htime, hsame, hnext⟩ := addTenth_advances hlegal
    rw [NextDate, hlength] at hnext
    exact ⟨hlegal.addTenth, htime, fun h => hsame (by omega), fun h => hnext (by omega)⟩
  · intro cal
    have hexec := exec_tenthAdvance_of_counting (hcounting.imp_right resetCounting_iff.2)
    have hdue : 800 ≤ s.clock.calDivider → advanceDueTenth s = advanceTenth s := fun h => if_pos (decide_eq_true h)
    rw [hexec]
    refine ⟨fun hbelow => ?_, fun hreached hunset => ?_, fun hreached hset hlegal => ⟨advanceTenth s, ?_, ?_⟩⟩
    · rw [advanceDueTenth, if_neg (by simp [tenthDue, hbelow])]
    · rw [hdue hreached, advanceTenth_of_unset hunset]
    · rw [hdue hreached]
    · have hspec := advanceTenth_spec hset
      simp only [isHalfHourCarry_iff (c := s.backup.calendar) hlegal, isSecondCarry_iff] at hspec
      exact hspec

end Sys2Proof.Machine
end

section
/-! PROOFS. LOAD TARIFF: its own fields are checked, and the read of its block begins (R111, R122, R123). -/

namespace Sys2Proof.Machine

/-- The fields of a LOAD TARIFF with their ranges; those of the effective time count with TIMED only (R122, Table 10-12). -/
def tariffRanges (req : List Byte) : List (Nat × Nat × Nat) :=
  [(8, 1, 255), (9, 0, 1), (10, 0, 1)] ++
    (if byteAt req 10 = 1 then [(16, 0, 99), (17, 1, 12), (18, 1, 31), (19, 0, 23), (20, 0, 59), (21, 0, 59)] else [])

theorem tariffField_eq (req : List Byte) : tariffField req = firstOutOfRange 1 (fieldValues req (tariffRanges req)) := by
  unfold tariffField tariffRanges isTimed
  by_cases htimed : byteAt req 10 = 1
  · rw [if_pos htimed, if_pos (decide_eq_true htimed)]
    rfl
  · rw [if_neg htimed, if_neg (by simpa using htimed)]
    rfl

theorem isTimed_iff {req : List Byte} : isTimed req = true ↔ byteAt req 10 = 1 := decide_eq_true_iff

section
variable {slot : Nat} {req : List Byte} {s : State} (hclear : reservedClear .loadTariff req = true)
include hclear

theorem serveLoadTariff_of_misaligned (haddr : readLE req 12 4 % 8 ≠ 0) :
    serveLoadTariff slot req s = reply slot req .format 0 [] s := by
  rw [serveLoadTariff, if_neg (by simp [hclear]), if_pos haddr]

theorem serveLoadTariff_of_range (haddr : readLE req 12 4 % 8 = 0) (hfield : tariffField req ≠ 0) :
    serveLoadTariff slot req s = reply slot req .range (tariffField req) [] s := by
  rw [serveLoadTariff, if_neg (by simp [hclear]), if_neg (not_not.2 haddr), if_pos hfield]

theorem serveLoadTariff_of_unset (haddr : readLE req 12 4 % 8 = 0) (hfield : tariffField req = 0)
    (hunset : isTimed req = true ∧ s.backup.clockSet = false) :
    serveLoadTariff slot req s = reply slot req .wrongState 0 [] s := by
  rw [serveLoadTariff, if_neg (by simp [hclear]), if_neg (not_not.2 haddr), if_neg (not_not.2 hfield), if_pos hunset]

theorem serveLoadTariff_of_good (haddr : readLE req 12 4 % 8 = 0) (hfield : tariffField req = 0)
    (hset : isTimed req = true → s.backup.clockSet = true) :
    serveLoadTariff slot req s = ask .carrier (readTransfer .tariffBlock (BitVec.ofNat 32 (readLE req 12 4)) 256)
      (markBegun slot req (s.setCarrierJob (some (.tariff slot req)))) := by
  have hallowed : ¬ (isTimed req = true ∧ s.backup.clockSet = false) := fun ⟨htimed, hunset⟩ => by
    rw [hset htimed] at hunset
    cases hunset
  rw [serveLoadTariff, if_neg (by simp [hclear]), if_neg (not_not.2 haddr), if_neg (not_not.2 hfield), if_neg hallowed]

end

/-- Settles O46: the checks in their order, and the read that follows them. -/
theorem loadTariffChecksAndBegins : Obligations.LoadTariffChecksAndBegins := by
  unfold Obligations.LoadTariffChecksAndBegins
  intro s slot req hserved hclear timed ranges inRange
  have hexec : exec .loadTariff s = .next (serveLoadTariff slot req s) := exec_command_of_served hserved
  have hranges : tariffField req = firstOutOfRange 1 (fieldValues req ranges) := tariffField_eq req
  have hgood : (∀ f ∈ ranges, inRange f) → tariffField req = 0 := fun hall => hranges.trans (firstOutOfRange_of_all 1 hall)
  rw [hexec]
  refine ⟨fun haddr => by rw [serveLoadTariff_of_misaligned hclear haddr], fun haddr =>
    ⟨fun pre f post hsplit hpre hf => ?_, fun hall htimed hunset => ?_, fun hall hset => ?_⟩⟩
  · have hfield : tariffField req = pre.length + 1 := by
      rw [hranges, hsplit, firstOutOfRange_of_first 1 hpre hf, Nat.add_comm]
    rw [serveLoadTariff_of_range hclear haddr (by omega), hfield]
  · rw [serveLoadTariff_of_unset hclear haddr (hgood hall) ⟨isTimed_iff.2 htimed, hunset⟩]
  · rw [serveLoadTariff_of_good hclear haddr (hgood hall) fun h => hset (isTimed_iff.1 h)]
    rfl

end Sys2Proof.Machine
end

section
/-! PROOFS. Warm starts: the close record added back, the open handovers carried, and the blocks outside the Backup Domain in
their reset states (R118, R145, R148, R152, R153, R174, R175). -/

namespace Sys2Proof.Machine

/-! ### Sums added back (R146, R153) -/

theorem Sums.restore_eq (v taken : Sums) : v.restore taken =
    { receivable := min top48 (v.receivable + taken.receivable), payable := min top48 (v.payable + taken.payable),
      inCount := min top32 (v.inCount + taken.inCount), outCount := min top32 (v.outCount + taken.outCount),
      satReceivable := v.satReceivable || taken.satReceivable || decide (top48 < v.receivable + taken.receivable),
      satPayable := v.satPayable || taken.satPayable || decide (top48 < v.payable + taken.payable),
      satInCount := v.satInCount || taken.satInCount || decide (top32 < v.inCount + taken.inCount),
      satOutCount := v.satOutCount || taken.satOutCount || decide (top32 < v.outCount + taken.outCount),
      unsettled := min 65535 (v.unsettled + taken.unsettled) } := by
  simp only [Sums.restore, satAdd_eq, addSat, Bool.or_right_comm]

/-- To add back nothing leaves sums that lie in their ranges. -/
theorem Sums.Legal.restore_zero {v : Sums} (h : v.Legal) : v.restore Sums.zero = v := by
  obtain ⟨hreceivable, hpayable, hin, hout, hunsettled⟩ := h
  simp [Sums.restore_eq, Sums.zero, Nat.not_lt.2, *]

theorem settlement_putSums (c k : Nat) (v : Sums) (s : State) :
    (putSums c v s).settlement k = if k = c then { s.settlement c with sums := v } else s.settlement k := by
  rw [putSums, statusEvents_eq]
  exact settlement_putSettlement c k { s.settlement c with sums := v } s

theorem Table.read_of_not_mem {α : Type} {t : Table α} {k : Nat} (d : α) (h : k ∉ t.map Prod.fst) :
    Table.read t d k = d := by
  by_contra hne
  exact h (List.mem_map.2 ⟨_, Table.mem_of_read_ne hne, rfl⟩)

theorem Table.read_cons {α : Type} (c : Nat) (v d : α) (t : Table α) (k : Nat) :
    Table.read ((c, v) :: t) d k = if k = c then v else Table.read t d k := by
  rw [Table.read, Table.find]
  by_cases hk : k = c
  · rw [if_pos hk.symm, if_pos hk]
    rfl
  · rw [if_neg (Ne.symm hk), if_neg hk]
    rfl

/-- Every carrier that the record names has its sums added back once (R153). -/
theorem settlement_restoreSums {taken : Table Sums} (hnodup : (taken.map Prod.fst).Nodup) {s : State} {k : Nat}
    (hlegal : (s.settlement k).sums.Legal) : (restoreSums taken s).settlement k =
      { s.settlement k with sums := (s.settlement k).sums.restore (Table.read taken Sums.zero k) } := by
  induction taken generalizing s with
  | nil => exact (congrArg (Settlement.mk · _) hlegal.restore_zero).symm
  | cons e taken ih =>
    obtain ⟨c, v⟩ := e
    obtain ⟨hnew, hrest⟩ := List.nodup_cons.1 hnodup
    have hput := settlement_putSums c k ((s.settlement c).sums.restore v) s
    rw [Table.read_cons]
    by_cases hk : k = c
    · subst hk
      rw [if_pos rfl] at hput ⊢
      have hagain := ih hrest (s := putSums k ((s.settlement k).sums.restore v) s) (by rw [hput]; exact Sums.restore_legal _ _)
      rw [Table.read_of_not_mem _ hnew, hput, (Sums.restore_legal _ _).restore_zero] at hagain
      exact hagain
    · rw [if_neg hk] at hput ⊢
      have hagain := ih hrest (s := putSums c ((s.settlement c).sums.restore v) s) (by rw [hput]; exact hlegal)
      rw [hput] at hagain
      exact hagain

/-! ### What a restoration leaves, and the status events it raises (R152, R153) -/

theorem restoreSums_eq (taken : Table Sums) (s : State) : restoreSums taken s = (s.setBackup
    { s.backup with settlements := (restoreSums taken s).backup.settlements }).setRegs (restoreSums taken s).regs := by
  induction taken generalizing s with
  | nil => rfl
  | cons e taken ih =>
    rw [restoreSums, ih, putSums_eq]
    rfl

theorem restoreClose_eq (s : State) : restoreClose s = (s.setBackup { s.backup with
    settlements := (restoreClose s).backup.settlements, closeRecord := none }).setRegs (restoreClose s).regs := by
  unfold restoreClose
  split
  next r hr => exact restoreSums_eq r.taken _
  next hr => rw [← hr]; rfl

/-- The registers are as they were, or one status event has been raised on them. -/
def AtMostEvents (s t : State) : Prop := t.regs = s.regs ∨ t.regs = (statusEvent s).regs

theorem atMostEvents_putSums (c : Nat) (v : Sums) (s : State) : AtMostEvents s (putSums c v s) := by
  unfold AtMostEvents
  rw [putSums, statusEvents_regs]
  split
  · exact .inl rfl
  · exact .inr (statusEvent_regs_congr rfl)

theorem AtMostEvents.trans {s t u : State} (h : AtMostEvents s t) (k : AtMostEvents t u) : AtMostEvents s u := by
  have hraised : (statusEvent t).regs = (statusEvent s).regs := by
    rcases h with h | h
    · exact statusEvent_regs_congr h
    · rw [statusEvent_regs_congr h, statusEvent_statusEvent]
  rcases k with k | k
  · exact h.imp k.trans k.trans
  · exact .inr (k.trans hraised)

theorem atMostEvents_restoreSums (taken : Table Sums) (s : State) : AtMostEvents s (restoreSums taken s) := by
  induction taken generalizing s with
  | nil => exact .inl rfl
  | cons e taken ih => exact (atMostEvents_putSums _ _ s).trans (ih _)

theorem atMostEvents_restoreClose (s : State) : AtMostEvents s (restoreClose s) := by
  unfold restoreClose
  split
  · exact AtMostEvents.trans (t := s.setBackup { s.backup with closeRecord := none }) (.inl rfl) (atMostEvents_restoreSums _ _)
  · exact .inl rfl

/-- What the close record holds of a carrier's sums, zero with none full (R152). -/
def recordedSums (s : State) (k : Nat) : Sums :=
  match s.backup.closeRecord with
  | some r => Table.read r.taken Sums.zero k
  | none => Sums.zero

theorem restoreClose_of_none {s : State} (h : s.backup.closeRecord = none) : restoreClose s = s := by
  rw [restoreClose, h]

theorem restoreClose_of_full {s : State} {r : CloseRecord} (h : s.backup.closeRecord = some r) :
    restoreClose s = restoreSums r.taken (s.setBackup { s.backup with closeRecord := none }) := by
  rw [restoreClose, h]

theorem settlement_restoreClose {s : State} (hlegal : s.backup.Legal) (k : Nat) : (restoreClose s).settlement k =
    { s.settlement k with sums := (s.settlement k).sums.restore (recordedSums s k) } := by
  have hsums : (s.settlement k).sums.Legal := s.sums_legal hlegal k
  obtain ⟨-, -, hrecord, -⟩ := hlegal
  cases hr : s.backup.closeRecord with
  | none =>
    have hnothing : recordedSums s k = Sums.zero := by rw [recordedSums, hr]
    rw [restoreClose_of_none hr, hnothing, hsums.restore_zero]
  | some r =>
    have htaken : recordedSums s k = Table.read r.taken Sums.zero k := by rw [recordedSums, hr]
    obtain ⟨hnodup, -⟩ := hrecord r hr
    rw [restoreClose_of_full hr, htaken]
    exact settlement_restoreSums hnodup (s := s.setBackup { s.backup with closeRecord := none }) hsums

/-! ### A warm start (R148, R174, R175) -/

theorem settlement_carryUnsettled (s : State) (k : Nat) : (carryUnsettled s).settlement k = (s.settlement k).carry :=
  Table.read_mapValues _ _ _ _ rfl

/-- The registers of a reset, on which the restoration may have raised a status event (R174). -/
theorem regs_startWarm (kind : StartKind) (cause : ResetCause) (s : State) :
    (startWarm kind cause s).regs = Regs.reset kind ∨
    (startWarm kind cause s).regs = { Regs.reset kind with events := true, attnLine := true } := by
  have hregs : (startWarm kind cause s).regs = (restoreClose (volatileReset kind s)).regs := by simp [startWarm]
  rw [hregs]
  exact atMostEvents_restoreClose (volatileReset kind s)

theorem regs_startWarm_of_none {s : State} (kind : StartKind) (cause : ResetCause) (h : s.backup.closeRecord = none) :
    (startWarm kind cause s).regs = Regs.reset kind := by
  rw [startWarm, restoreClose_of_none (s := volatileReset kind s) h]
  rfl

theorem settlement_startWarm {s : State} (kind : StartKind) (cause : ResetCause) (hlegal : s.backup.Legal) (k : Nat) :
    (startWarm kind cause s).settlement k =
      Settlement.carry { s.settlement k with sums := (s.settlement k).sums.restore (recordedSums s k) } := by
  have hrestored := settlement_restoreClose (s := volatileReset kind s) hlegal k
  change (carryUnsettled (restoreClose (volatileReset kind s))).settlement k = _
  rw [settlement_carryUnsettled, hrestored]
  rfl

theorem startWarm_eq (kind : StartKind) (cause : ResetCause) (s : State) : startWarm kind cause s = { State.reset with
    backup := { s.backup with settlements := (startWarm kind cause s).backup.settlements, closeRecord := none }
    regs := (startWarm kind cause s).regs, power := { s.power with reset := some cause }, mem := s.mem,
    failures := s.failures, pending := s.pending } := by
  unfold startWarm
  rw [restoreClose_eq]
  rfl

/-- What starts a warm reset, by the command that does. -/
def warmCause (c : Instr) : ResetCause := if c = .powerOn then .power else if c = .softReset then .soft else .line

/-- The machine from which a command starts a warm reset: the main supply is present, and the line is asserted if it is by
that command (R174). -/
def supplied (c : Instr) (s : State) : State :=
  s.setPower { main := true, line := s.power.line || decide (c = .resetLineAsserted), reset := s.power.reset }

/-- The three commands that start a warm reset, with the start kind that they give it (R174, R175). -/
theorem exec_of_warm_start {s : State} {c : Instr} (hstart : (c = .powerOn ∧ s.backup.marker = true) ∨
    (c = .softReset ∧ s.up = true) ∨ (c = .resetLineAsserted ∧ s.power.main = true)) :
    ∃ kind, (s.power.reset = none ∨ c = .powerOn ∨ s.regs.startKind = .warm → kind = .warm) ∧
      exec c s = .next (startWarm kind (warmCause c) (supplied c s)) := by
  rcases hstart with ⟨rfl, hmarker⟩ | ⟨rfl, hup⟩ | ⟨rfl, hmain⟩
  · refine ⟨.warm, fun _ => rfl, ?_⟩
    change execPowerOn s = _
    simp [execPowerOn, hmarker, warmCause, supplied]
  · refine ⟨.warm, fun _ => rfl, ?_⟩
    have hmain : s.power.main = true := Bool.and_elim_left hup
    have hsame : supplied .softReset s = s := by simp [supplied, State.setPower, ← hmain]
    change execSoftReset s = _
    rw [execSoftReset, if_pos hup, hsame]
    rfl
  · refine ⟨laterKind s, fun h => ?_, ?_⟩
    · unfold laterKind
      rcases h with h | h | h
      · simp [h]
      · cases h
      · simp [h]
    · change execResetLineAsserted s = _
      simp [execResetLineAsserted, hmain, warmCause, supplied]

/-- Settles O56: each of the three commands is a warm start, and the rest is what a warm start comes to. -/
theorem warmStartsKeepTheBackupDomain : Obligations.WarmStartsKeepTheBackupDomain := by
  intro s c hlegal hstart taken v
  obtain ⟨kind, hkind, hexec⟩ := exec_of_warm_start hstart
  have hframe := startWarm_eq kind (warmCause c) (supplied c s)
  refine ⟨_, hexec, fun k => ?_, ?_, ?_, fun hnone => ?_, ?_, fun h => ?_, ?_⟩
  · rw [settlement_startWarm (s := supplied c s) kind (warmCause c) hlegal, Sums.restore_eq]
    rfl
  · rw [hframe]; rfl
  · rw [hframe]; rfl
  · rw [regs_startWarm_of_none (s := supplied c s) kind (warmCause c) hnone]
    rfl
  · rcases regs_startWarm kind (warmCause c) _ with hregs | hregs <;> rw [hregs] <;> rfl
  · rw [← hkind h]
    rcases regs_startWarm kind (warmCause c) (supplied c s) with hregs | hregs <;> rw [hregs] <;> rfl
  · rw [hframe]; rfl

end Sys2Proof.Machine
end

section
/-! PROOFS. Cold starts, the losses of the supplies, and the ends of resets (R103, R107, R114, R115, R145, R174, R175). -/

namespace Sys2Proof.Machine

/-! ### Cold starts and supplies (R103, R114, R145, R174) -/

theorem exec_powerOn_of_lost {s : State} (hlost : s.backup.marker = false) :
    exec .powerOn s = .next (startCold (s.setPower { s.power with main := true })) := by
  change execPowerOn s = _
  rw [execPowerOn, hlost]
  rfl

theorem exec_resetLineAsserted_of_absent {s : State} (habsent : s.power.main = false) :
    exec .resetLineAsserted s = .next (s.setPower { s.power with line := true }) := by
  change execResetLineAsserted s = _
  rw [execResetLineAsserted, habsent]
  rfl

theorem exec_mainSupplyLoss_of_present {s : State} (hmain : s.power.main = true) :
    exec .mainSupplyLoss s = .next ((volatileReset s.regs.startKind s).setPower
      { s.power with main := false, reset := none }) := by
  change execMainSupplyLoss s = _
  rw [execMainSupplyLoss, hmain]
  rfl

theorem exec_backupTenthAdvance_of_running {s : State}
    (h : s.power.main = false ∧ s.backup.marker = true ∧ s.backup.clockSet = true) :
    exec .backupTenthAdvance s = .next (s.setBackup { s.backup with calendar := addTenth s.backup.calendar }) := by
  change execBackupTenthAdvance s = _
  rw [execBackupTenthAdvance, if_pos h]

theorem exec_backupTenthAdvance_of_still {s : State}
    (h : ¬ (s.power.main = false ∧ s.backup.marker = true ∧ s.backup.clockSet = true)) :
    exec .backupTenthAdvance s = .next s := by
  change execBackupTenthAdvance s = _
  rw [execBackupTenthAdvance, if_neg h]

theorem exec_backupSupplyFailure_of_absent {s : State} (habsent : s.power.main = false) :
    exec .backupSupplyFailure s = .next (s.setBackup { Backup.cold with marker := false }) := by
  change execBackupSupplyFailure s = _
  rw [execBackupSupplyFailure, habsent]
  rfl

theorem exec_backupSupplyFailure_of_present {s : State} (hmain : s.power.main = true) :
    exec .backupSupplyFailure s = .next s := by
  change execBackupSupplyFailure s = _
  rw [execBackupSupplyFailure, hmain]
  rfl

/-- Settles O57: each start and each loss of a supply by its own equation, the cold values read off the reset state. -/
theorem coldStartsAndSupplies : Obligations.ColdStartsAndSupplies := by
  refine ⟨fun s => ⟨exec_powerOn_of_lost, exec_resetLineAsserted_of_absent, ?_⟩,
    fun s => ⟨exec_mainSupplyLoss_of_present, fun habsent => ⟨fun hmarker hset => ?_, fun _ hunset => ?_, ?_⟩,
      fun hmain => ⟨?_, ?_⟩⟩⟩
  · exact ⟨rfl, rfl, rfl, rfl, rfl, fun _ => rfl, rfl, rfl, rfl, rfl, rfl⟩
  · exact exec_backupTenthAdvance_of_running ⟨habsent, hmarker, hset⟩
  · exact exec_backupTenthAdvance_of_still (by simp [hunset])
  · exact ⟨_, exec_backupSupplyFailure_of_absent habsent, rfl, rfl⟩
  · exact exec_backupTenthAdvance_of_still (by simp [hmain])
  · exact exec_backupSupplyFailure_of_present hmain

/-! ### The ends of resets (R107, R115, R174, R175) -/

theorem exec_resetEnd_of_line {s : State} (hmain : s.power.main = true) (hline : s.power.line = true)
    (hreset : s.power.reset = some .power ∨ s.power.reset = some .soft) :
    exec .resetEnd s = .next (s.setPower { s.power with reset := some .line }) := by
  change execResetEnd s = _
  rw [execResetEnd, if_pos ⟨hmain, hreset⟩, if_pos hline]

theorem exec_resetEnd_of_released {s : State} (hmain : s.power.main = true) (hline : s.power.line = false)
    (hreset : s.power.reset = some .power ∨ s.power.reset = some .soft) : exec .resetEnd s = .next (endReset s) := by
  change execResetEnd s = _
  rw [execResetEnd, if_pos ⟨hmain, hreset⟩, if_neg (by simp [hline])]

theorem exec_resetLineReleased_of_line {s : State} (hmain : s.power.main = true) (hreset : s.power.reset = some .line) :
    exec .resetLineReleased s = .next (endReset (s.setPower { s.power with line := false })) := by
  change execResetLineReleased s = _
  rw [execResetLineReleased, if_pos ⟨hmain, hreset⟩]

theorem exec_resetEnd_of_none {s : State} (hreset : s.power.reset = none) : exec .resetEnd s = .next s := by
  change execResetEnd s = _
  rw [execResetEnd, if_neg (by simp [hreset])]

theorem exec_resetLineReleased_of_none {s : State} (hreset : s.power.reset = none) :
    exec .resetLineReleased s = .next (s.setPower { s.power with line := false }) := by
  change execResetLineReleased s = _
  rw [execResetLineReleased, if_neg (by simp [hreset])]

/-- With an empty band map, as the reset that ends has left it, every band is 0 (R3, R7). -/
theorem bandFound_of_empty {s : State} (hmap : (s.bank s.plan.active).bandMap = []) : bandFound s = 0 := by
  unfold bandFound
  dsimp only
  rw [hmap]
  split <;> rfl

/-- A band evaluation that finds the band in force. -/
theorem evaluateBand_of_same {s : State} (h : bandFound s = s.clock.band) : evaluateBand s = s := by
  rw [evaluateBand]
  dsimp only
  rw [if_pos h, h]
  rfl

/-- The end of a reset whose evaluation finds band 0, which the Calendar Unit stands at after any reset. -/
theorem endReset_of_empty {s : State} (hmap : (s.bank s.plan.active).bandMap = []) : endReset s =
    ((s.setPower { s.power with reset := none }).setClock ClockUnit.reset).setBackup { s.backup with
      epoch := if s.regs.startKind = .warm then nextEpoch s.backup.epoch else s.backup.epoch } := by
  unfold endReset
  dsimp only
  split
  · exact evaluateBand_of_same (bandFound_of_empty hmap)
  · exact evaluateBand_of_same (bandFound_of_empty hmap)

/-- Settles O58: by the command and by what of the line and the reset it finds. -/
theorem resetsEnd : Obligations.ResetsEnd := by
  refine fun s c hmain => ⟨?_, ?_, fun hreset => ⟨exec_resetEnd_of_none hreset, exec_resetLineReleased_of_none hreset⟩⟩
  · rintro rfl hline hreset
    exact exec_resetEnd_of_line hmain hline hreset
  · rintro (⟨rfl, hline, hreset⟩ | ⟨rfl, hreset⟩) hmap
    · rw [exec_resetEnd_of_released hmain hline hreset, endReset_of_empty hmap, ← hline]
      rfl
    · rw [exec_resetLineReleased_of_line hmain hreset, endReset_of_empty (by exact hmap)]
      rfl

end Sys2Proof.Machine
end

section
/-! PROOFS. What no command but those named moves: the tick counter, the calendar, the stores in host memory, the queue and the
carriers' sums (R100, R101, R104, R114, R115, R146, R150, R173). -/

namespace Sys2Proof.Machine

/-! ### Parts of the state, and the commands that move them -/

/-- The parts of the state whose movers are named. -/
inductive Part where
  | tick
  | calendar
  | stores
  | queue
  | sums

/-- The part is in `t` what it is in `s`. -/
def Part.Stays : Part → State → State → Prop
  | .tick, s, t => t.clock.tick = s.clock.tick
  | .calendar, s, t => t.backup.calendar = s.backup.calendar
  | .stores, s, t => t.mem = s.mem ∧ t.failures = s.failures
  | .queue, s, t => t.pending = s.pending
  | .sums, s, t => ∀ k, (t.settlement k).sums = (s.settlement k).sums

/-- The commands among whose effects is a change of a carrier's sums (R145, R146, R148, R150, R153). -/
def movesSums (c : Instr) : Bool :=
  c.isBurst || decide (c ∈ [.release, .closePeriod, .powerOn, .resetLineAsserted, .softReset, .backupSupplyFailure])

/-- The commands that may move a part. -/
def Part.movedBy : Part → Instr → Bool
  | .tick, c => c.movesTick
  | .calendar, c => c.movesCalendar
  | .stores, c => c.isBurst
  | .queue, _ => false
  | .sums, c => movesSums c

/-- A part that a command does not move is none of those that it does. -/
theorem Part.ne_of_unmoved {p q : Part} {c : Instr} (hp : p.movedBy c = false) (hq : q.movedBy c = true) : p ≠ q := by
  rintro rfl
  rw [hp] at hq
  cases hq

section
variable {p : Part}

theorem Part.Stays.refl (s : State) : p.Stays s s := by
  cases p with
  | stores => exact ⟨rfl, rfl⟩
  | sums => exact fun _ => rfl
  | tick | calendar | queue => rfl

theorem Part.Stays.trans {s t u : State} (h : p.Stays s t) (k : p.Stays t u) : p.Stays s u := by
  cases p with
  | stores => exact ⟨k.1.trans h.1, k.2.trans h.2⟩
  | sums => exact fun c => (k c).trans (h c)
  | tick | calendar | queue => exact Eq.trans k h

theorem Part.Stays.ite {c : Prop} [Decidable c] {s t u : State} (h : p.Stays s t) (k : p.Stays s u) :
    p.Stays s (if c then t else u) := by
  split
  · exact h
  · exact k

/-- A machine that has the blocks in which the parts lie, but perhaps another tick. -/
theorem Part.Stays.same_but_tick {s t : State} (htick : p ≠ .tick)
    (h : t.backup = s.backup ∧ t.mem = s.mem ∧ t.failures = s.failures ∧ t.pending = s.pending) : p.Stays s t := by
  obtain ⟨hbackup, hmem, hfailures, hpending⟩ := h
  cases p with
  | tick => exact absurd rfl htick
  | calendar => exact congrArg Backup.calendar hbackup
  | stores => exact ⟨hmem, hfailures⟩
  | queue => exact hpending
  | sums => exact fun k => congrArg Settlement.sums (settlement_congr (congrArg Backup.settlements hbackup) k)

/-- A machine that has the blocks in which the parts lie. -/
theorem Part.Stays.same {s t : State} (h : t.clock.tick = s.clock.tick ∧ t.backup = s.backup ∧ t.mem = s.mem ∧
    t.failures = s.failures ∧ t.pending = s.pending) : p.Stays s t := by
  obtain ⟨htick, hrest⟩ := h
  by_cases hp : p = .tick
  · subst hp; exact htick
  · exact same_but_tick hp hrest

/-- A machine that has them, but perhaps another record of stored bytes. -/
theorem Part.Stays.same_but_stores {s t : State} (hstores : p ≠ .stores)
    (h : t.clock.tick = s.clock.tick ∧ t.backup = s.backup ∧ t.pending = s.pending) : p.Stays s t := by
  obtain ⟨htick, hbackup, hpending⟩ := h
  have hsame : p.Stays s ((t.setMem s.mem).setFailures s.failures) := .same ⟨htick, hbackup, rfl, rfl, hpending⟩
  cases p with
  | stores => exact absurd rfl hstores
  | tick | calendar | queue | sums => exact hsame

/-- What leaves those blocks alone may follow. -/
theorem Part.Stays.andThen {s t u : State} (h : p.Stays s t) (k : u.clock.tick = t.clock.tick ∧ u.backup = t.backup ∧
    u.mem = t.mem ∧ u.failures = t.failures ∧ u.pending = t.pending) : p.Stays s u := h.trans (.same k)

theorem stays_serve {k : Kind} {f : Nat → List Byte → State → State} {s t : State}
    (hf : ∀ slot req, p.Stays s (f slot req s)) (h : serve k f s = .next t) : p.Stays s t := by
  unfold serve at h
  split at h
  · exact Host.Outcome.next.inj h ▸ hf _ _
  · exact Host.Outcome.next.inj h ▸ .refl s

theorem stays_event {c : Prop} [Decidable c] {s t u : State} (hu : p.Stays s u)
    (h : (Host.Outcome.next (if c then u else s) : Result) = .next t) : p.Stays s t :=
  Host.Outcome.next.inj h ▸ .ite hu (.refl s)

theorem stays_callRequest {k : Kind} {rule : Nat → List Byte → Nat → Context → State → State} {s : State}
    (hrule : ∀ slot req i c, p.Stays s (rule slot req i c s)) (slot : Nat) (req : List Byte) :
    p.Stays s (callRequest k rule slot req s) := by
  unfold callRequest
  split
  · exact .same (by simp)
  split
  · exact .same (by simp)
  · exact hrule _ _ _ _

/-! ### Seizures and calls (R28 to R30, R68, R73 to R76, R87, R89, R146) -/

/-- A carrier's record that keeps its sums, where the sums are to stay. -/
theorem stays_putSettlement {c : Nat} {r : Settlement} {s : State} (hsums : p = .sums → r.sums = (s.settlement c).sums) :
    p.Stays s (putSettlement c r s) := by
  cases p with
  | tick | calendar | queue => rfl
  | stores => exact ⟨rfl, rfl⟩
  | sums =>
    intro k
    rw [settlement_putSettlement]
    split
    next hk => rw [hk]; exact hsums rfl
    next => rfl

theorem stays_changeOpen (c : Nat) (f : Nat → Nat) (s : State) : p.Stays s (changeOpen c f s) :=
  .ite (.refl s) (stays_putSettlement fun _ => rfl)

theorem stays_putGroup (g : Nat) (r : Group) (s : State) : p.Stays s (putGroup g r s) := .same (by simp)

theorem stays_returnSeizure (g : Nat) (s : State) : p.Stays s (returnSeizure g s) :=
  (stays_putGroup g _ s).trans (stays_changeOpen (s.group g).owner (fun n => n - 1) _)

theorem stays_grantSeizure (g : Nat) (s : State) : p.Stays s (grantSeizure g s) :=
  (stays_putGroup g _ s).trans (stays_changeOpen (s.group g).owner (fun n => n + 1) _)

theorem stays_seize (history : List Nat) (cs : List Candidate) (s : State) : p.Stays s (seize history cs s).2 := by
  induction cs generalizing s with
  | nil => exact .refl s
  | cons c cs ih =>
    have hcounted : ∀ v, p.Stays s (countVerdict c.group v s) := fun _ => .same (by simp)
    simp only [seize]
    split
    · exact (hcounted _).trans (stays_grantSeizure _ _)
    · exact (hcounted _).trans (ih _)

theorem stays_putSums (hsums : p ≠ .sums) (c : Nat) (v : Sums) (s : State) : p.Stays s (putSums c v s) :=
  (stays_putSettlement (c := c) (r := { s.settlement c with sums := v }) fun h => absurd h hsums).andThen (by simp [putSums])

theorem stays_handTotal (hsums : p ≠ .sums) (c : Nat) (d : Direction) (total : Option Price) (s : State) :
    p.Stays s (handTotal c d total s) := by
  cases total with
  | none => exact .refl s
  | some x => exact stays_putSums hsums _ _ s

theorem stays_releaseRule (hsums : p ≠ .sums) (slot : Nat) (req : List Byte) (i : Nat) (c : Context) (s : State) :
    p.Stays s (releaseRule slot req i c s) := by
  unfold releaseRule
  split
  next call _ _ => exact (stays_returnSeizure call.group s).andThen (by simp)
  next call _ => exact (stays_returnSeizure call.group s).andThen (by simp)
  next call a _ =>
    exact (((stays_returnSeizure call.group s).trans
      (stays_handTotal hsums call.origin .inbound (inboundPrice s.now call a) _)).trans
      (stays_handTotal hsums (callOwner s call) .outbound (outboundPrice s.now call a) _)).andThen (by simp)
  next => exact .same (by simp)
  next => exact .same (by simp)

theorem stays_expire (i : Nat) (s : State) : p.Stays s (expire i s) := by
  unfold expire
  split
  next call _ _ => exact .ite ((stays_returnSeizure call.group s).andThen (by simp)) (.refl s)
  next => exact .refl s

theorem stays_crankContinue (slot : Nat) (req : List Byte) (i : Nat) (call : Call) (s : State) :
    p.Stays s (crankContinue slot req i call s) := by
  have hreturned : p.Stays s (clearOwnRetained call (returnSeizure call.group s)) :=
    (stays_returnSeizure call.group s).andThen (by simp)
  have hseized := hreturned.trans (stays_seize call.history
    (resumedCandidates (clearOwnRetained call (returnSeizure call.group s)) call) _)
  unfold crankContinue
  dsimp only
  split
  · exact hreturned.andThen (by simp)
  split
  next hseize => rw [hseize] at hseized; exact hseized.andThen (by simp)
  next hseize => rw [hseize] at hseized; exact hseized.andThen (by simp)

theorem stays_crankbackRule (slot : Nat) (req : List Byte) (i : Nat) (c : Context) (s : State) :
    p.Stays s (crankbackRule slot req i c s) := by
  unfold crankbackRule
  split
  · exact stays_crankContinue _ _ _ _ s
  · exact .same (by simp)
  · exact .same (by simp)

theorem stays_allocate {s t : State} {i : Nat} (h : allocate s = some (i, t)) : p.Stays s t := by
  obtain ⟨-, -, -, -, hclock, -, -, hbackup, -, -, -, -, -, hmem, hfailures, hpending⟩ := allocate_keeps h
  exact .same ⟨by rw [hclock], hbackup, hmem, hfailures, hpending⟩

theorem stays_walk (job : RouteJob) (through : Option (List Nat × GapOrigin)) (s : State) : p.Stays s (walk job through s) := by
  unfold walk
  split
  next => exact .same (by simp)
  next e dest _ =>
    dsimp only
    split
    · exact .same (by simp)
    split
    · exact .same (by simp)
    next i s1 halloc =>
      have hseized := (stays_allocate halloc).trans (stays_seize (p := p) [] (arrange (rankingRate s1) e.retained
        (candidatesOf ((s.bank s.plan.active).routeList e.routeList))) s1)
      split
      next hseize => rw [hseize] at hseized; exact hseized.andThen (by simp)
      next hseize => rw [hseize] at hseized; exact hseized.andThen (by simp)

/-! ### Time (R19, R40, R100, R101, R105 to R107, R114) -/

theorem stays_evaluateBand (s : State) : p.Stays s (evaluateBand s) := by
  have htick : (evaluateBand s).clock.tick = s.clock.tick := by rw [(evaluateBand_spec s).2]; rfl
  exact .same ⟨htick, by simp⟩

theorem stays_serveSwitchPlan (slot : Nat) (req : List Byte) (s : State) : p.Stays s (serveSwitchPlan slot req s) := by
  have hactive : p.Stays s (s.setPlan { s.plan with active := s.plan.active.other }) := .same (by simp)
  exact .ite (.same (by simp)) (.ite (.same (by simp)) ((hactive.trans (stays_evaluateBand _)).andThen (by simp)))

theorem stays_expireAll (is : List Nat) (s : State) : p.Stays s (expireAll is s) := by
  induction is generalizing s with
  | nil => exact .refl s
  | cons i is ih => exact (stays_expire i s).trans (ih _)

theorem stays_endPeriod (s : State) : p.Stays s (endPeriod s) := .same (by simp)

theorem stays_settleTick (s : State) : p.Stays s (settleTick s) := by
  have htaken : ∀ cs is js : List Nat, p.Stays s (markAllLong js (expireAll is (takeAllHanded cs (removeLapsed s)))) :=
    fun cs is js => ((Part.Stays.same (t := takeAllHanded cs (removeLapsed s)) (by simp)).trans
      (stays_expireAll is _)).andThen (by simp)
  exact .ite ((htaken _ _ _).trans (stays_endPeriod _)) (htaken _ _ _)

theorem stays_advanceTick (htick : p ≠ .tick) (s : State) : p.Stays s (advanceTick s) :=
  (stays_settleTick s).trans (.same_but_tick htick (by simp [advanceTick]))

theorem stays_setClock {x : ClockUnit} {s : State} (h : x.tick = s.clock.tick) : p.Stays s (s.setClock x) := .same (by simp [h])

theorem stays_setCalendar (hcalendar : p ≠ .calendar) (cal : Calendar) (set : Bool) (s : State) :
    p.Stays s (s.setBackup { s.backup with calendar := cal, clockSet := set }) := by
  cases p with
  | calendar => exact absurd rfl hcalendar
  | tick | queue => rfl
  | stores => exact ⟨rfl, rfl⟩
  | sums => exact fun _ => rfl

theorem stays_compareTariffs (s : State) : p.Stays s (compareTariffs s) := .same (by simp)

theorem stays_advanceTenth (hcalendar : p ≠ .calendar) (s : State) : p.Stays s (advanceTenth s) := by
  have hclock : p.Stays s (s.setClock { s.clock with calDivider := 0 }) := stays_setClock rfl
  have hadded := hclock.trans (stays_setCalendar hcalendar (addTenth s.backup.calendar) s.backup.clockSet _)
  have hband := hadded.trans (.ite (c := isHalfHourCarry s.backup.calendar = true) (stays_evaluateBand _) (.refl _))
  exact .ite (.ite (.ite (hband.trans (stays_compareTariffs _)) hband) hadded) hclock

theorem stays_settleSlot (htick : p ≠ .tick) (hcalendar : p ≠ .calendar) (s : State) : p.Stays s (settleSlot s) := by
  have hlost : p.Stays s (loseReference s) := .same_but_tick htick (by simp)
  have hlocked : p.Stays s (changeReference .locked s) := .same_but_tick htick (by simp)
  have hticked : ∀ v, p.Stays v (if tickDue v then advanceTick v else v) := fun v => .ite (stays_advanceTick htick v) (.refl v)
  have htenth : ∀ v, p.Stays v (if tenthDue v then advanceTenth v else v) := fun v =>
    .ite (stays_advanceTenth hcalendar v) (.refl v)
  exact ((Part.Stays.ite hlost (.ite hlocked (.refl s))).trans (hticked _)).trans (htenth _)

theorem stays_slotInReset (hcalendar : p ≠ .calendar) (s : State) : p.Stays s (slotInReset s) :=
  (Part.Stays.ite (c := tenthDue s = true) (stays_advanceTenth hcalendar s) (.refl s)).trans (stays_setClock rfl)

theorem stays_moveCalendar (hcalendar : p ≠ .calendar) (cal : Calendar) (s : State) : p.Stays s (moveCalendar cal s) :=
  (((stays_setCalendar hcalendar cal true s).trans (stays_setClock (x := { s.clock with calDivider := 0 }) rfl)).trans
    (stays_evaluateBand _)).trans (stays_compareTariffs _)

theorem stays_serveSetCalendar (hcalendar : p ≠ .calendar) (slot : Nat) (req : List Byte) (s : State) :
    p.Stays s (serveSetCalendar slot req s) :=
  .ite (.same (by simp)) (.ite (.same (by simp)) ((stays_moveCalendar hcalendar (calendarOf req) s).andThen (by simp)))

theorem stays_serveAlignMinute (hcalendar : p ≠ .calendar) (slot : Nat) (req : List Byte) (s : State) :
    p.Stays s (serveAlignMinute slot req s) :=
  .ite (.same (by simp)) (.ite (.same (by simp))
    ((stays_moveCalendar hcalendar (alignedMinute s.backup.calendar) s).andThen (by simp)))

/-! ### CLOSE PERIOD and the close record (R150 to R153) -/

/-- The settlements and the close record replaced, where the sums need not stay. -/
theorem stays_setSums (hsums : p ≠ .sums) (settlements : Table Settlement) (record : Option CloseRecord) (s : State) :
    p.Stays s (s.setBackup { s.backup with settlements := settlements, closeRecord := record }) := by
  cases p with
  | sums => exact absurd rfl hsums
  | tick | calendar | queue => rfl
  | stores => exact ⟨rfl, rfl⟩

theorem stays_serveClosePeriod (hsums : p ≠ .sums) (slot : Nat) (req : List Byte) (s : State) :
    p.Stays s (serveClosePeriod slot req s) := by
  have hone : ∀ c, p.Stays s (closeOne slot req c s) := fun c =>
    (stays_setSums hsums (putSettlement c (s.settlement c).taken s).backup.settlements
      (some { scope := .one c, taken := [(c, (s.settlement c).sums)] }) s).andThen (by simp [closeOne, putSettlement])
  have hall : ∀ addr, p.Stays s (closeAll slot req addr s) := fun addr =>
    (stays_setSums hsums (takenSettlements s.backup.settlements)
      (some { scope := .all addr, taken := allSums s.backup.settlements }) s).andThen (by simp [closeAll])
  exact .ite (.same (by simp)) (.ite (.same (by simp)) (.ite (.ite (.same (by simp)) (hone _)) (.ite (.same (by simp)) (hall _))))

theorem stays_restoreClose (hsums : p ≠ .sums) (s : State) : p.Stays s (restoreClose s) := by
  rw [restoreClose_eq]
  exact (stays_setSums hsums (restoreClose s).backup.settlements none s).andThen (by simp)

theorem stays_resultFailed (hsums : p ≠ .sums) (s : State) : p.Stays s (resultFailed s) := by
  unfold resultFailed
  split
  · exact (stays_restoreClose hsums s).andThen (by simp)
  · exact .refl s

theorem stays_settleClose (s : State) : p.Stays s (settleClose s) := by
  cases p with
  | tick | calendar | queue => rfl
  | stores => exact ⟨rfl, rfl⟩
  | sums => exact fun _ => rfl

/-! ### Bursts (R161, R173) -/

theorem stays_answeredWritten (slot : Nat) (s : State) : p.Stays s (answeredWritten slot s) := by
  have hraised : p.Stays s (raiseBit .answers s) := .same (by simp)
  have hsettled := hraised.trans (.ite (c := (raiseBit .answers s).intake.isCloseOk slot = true) (stays_settleClose _)
    (.refl _))
  have hdropped : ∀ (k : Intake) (u : State), p.Stays u (checkHalt (proceedAnswers (u.setIntake k))) := fun _ _ =>
    .same (by simp)
  exact hsettled.trans (hdropped _ _)

theorem stays_completed (purpose : Purpose) (bytes : List Byte) (s : State) : p.Stays s (completed purpose bytes s) := by
  cases purpose with
  | answered slot => exact stays_answeredWritten slot s
  | _ => exact .same (by simp [completed])

theorem stays_transferFailed (hsums : p ≠ .sums) (purpose : Purpose) (s : State) : p.Stays s (transferFailed purpose s) := by
  cases purpose with
  | resultBlock => exact stays_resultFailed hsums s
  | _ => exact .same (by simp [transferFailed])

theorem stays_endBurst (hsums : p ≠ .sums) (hstores : p ≠ .stores) (r : Requester) (t : Transfer) (ts : List Transfer)
    (reply : BurstReply) (s : State) : p.Stays s (endBurst r t ts reply s) := by
  cases reply with
  | done data =>
    have hstored : ∀ us, p.Stays s (setTransfers r us (storeBytes t t.burstLength s)) := fun _ =>
      .same_but_stores hstores (by simp)
    exact .ite ((hstored _).trans (stays_completed _ _ _)) (hstored _)
  | busError beat =>
    exact (Part.Stays.same_but_stores hstores (t := setTransfers r ts (storeFailed t beat s)) (by simp)).trans
      (stays_transferFailed hsums _ _)

theorem stays_execMemoryBurstDone (hsums : p ≠ .sums) (hstores : p ≠ .stores) {reply : BurstReply} {s t : State}
    (h : execMemoryBurstDone reply s = .next t) : p.Stays s t := by
  have hnext := next_of_guarded h
  split at hnext
  next => exact Host.Outcome.next.inj hnext ▸ .refl s
  next r x ts _ =>
    split at hnext
    · exact Host.Outcome.next.inj hnext ▸ (stays_endBurst hsums hstores r x ts reply s).andThen (by simp)
    · cases hnext

/-! ### Starts and supplies (R114, R145, R148, R153, R174, R175) -/

theorem stays_setPower (x : Power) (s : State) : p.Stays s (s.setPower x) := .same (by simp)

theorem stays_volatileReset (htick : p ≠ .tick) (kind : StartKind) (s : State) : p.Stays s (volatileReset kind s) :=
  .same_but_tick htick ⟨rfl, rfl, rfl, rfl⟩

theorem stays_carryUnsettled (hsums : p ≠ .sums) (s : State) : p.Stays s (carryUnsettled s) :=
  stays_setSums hsums (Table.mapValues Settlement.carry s.backup.settlements) s.backup.closeRecord s

theorem stays_startWarm (htick : p ≠ .tick) (hsums : p ≠ .sums) (kind : StartKind) (cause : ResetCause) (s : State) :
    p.Stays s (startWarm kind cause s) :=
  (((stays_volatileReset htick kind s).trans (stays_restoreClose hsums _)).trans (stays_carryUnsettled hsums _)).trans
    (stays_setPower _ _)

/-- The Backup Domain replaced, where neither the calendar nor the sums need stay. -/
theorem stays_setBackup (hcalendar : p ≠ .calendar) (hsums : p ≠ .sums) (x : Backup) (s : State) :
    p.Stays s (s.setBackup x) := by
  cases p with
  | calendar => exact absurd rfl hcalendar
  | sums => exact absurd rfl hsums
  | tick | queue => rfl
  | stores => exact ⟨rfl, rfl⟩

theorem stays_startCold (htick : p ≠ .tick) (hcalendar : p ≠ .calendar) (hsums : p ≠ .sums) (s : State) :
    p.Stays s (startCold s) :=
  ((stays_volatileReset htick .cold s).trans (stays_setBackup hcalendar hsums Backup.cold _)).trans (stays_setPower _ _)

theorem stays_setEpoch (n : Nat) (s : State) : p.Stays s (s.setBackup { s.backup with epoch := n }) := by
  cases p with
  | tick | calendar | queue => rfl
  | stores => exact ⟨rfl, rfl⟩
  | sums => exact fun _ => rfl

theorem stays_endReset (htick : p ≠ .tick) (s : State) : p.Stays s (endReset s) := by
  have hclock : p.Stays s ((s.setPower { s.power with reset := none }).setClock ClockUnit.reset) :=
    .same_but_tick htick (by simp)
  exact (hclock.trans (.ite (stays_setEpoch _ _) (.refl _))).trans (stays_evaluateBand _)

/-! ### Commands -/

theorem stays_execRouteWalk {s t : State} (h : execRouteWalk s = .next t) : p.Stays s t := by
  unfold execRouteWalk at h
  split at h
  · exact stays_event (stays_walk _ _ s) h
  · exact Host.Outcome.next.inj h ▸ .refl s

theorem stays_execRouteReports {s t : State} (h : execRouteReports s = .next t) : p.Stays s t := by
  unfold execRouteReports at h
  split at h
  · exact stays_event (.same (by simp)) h
  · exact Host.Outcome.next.inj h ▸ .refl s

theorem stays_execBankLoadHead {s t : State} (h : execBankLoadHead s = .next t) : p.Stays s t := by
  unfold execBankLoadHead at h
  split at h
  · exact Host.Outcome.next.inj h ▸ .refl s
  · exact stays_event (.same (by simp)) h

theorem stays_execGapEntryLapse {code : List Nat} {s t : State} (h : execGapEntryLapse code s = .next t) : p.Stays s t := by
  have hnext := next_of_guarded h
  split at hnext
  · exact stays_event (.same (by simp)) hnext
  · exact Host.Outcome.next.inj hnext ▸ .refl s

end

/-- A command leaves every part that it is not named to move. -/
theorem stays_exec {p : Part} {c : Instr} {s t : State} (h : exec c s = .next t) (hp : p.movedBy c = false) : p.Stays s t := by
  have hne : ∀ q : Part, q.movedBy c = true → p ≠ q := fun _ => Part.ne_of_unmoved hp
  cases c with
  | routeWalk => exact stays_execRouteWalk h
  | routeReports => exact stays_execRouteReports h
  | release =>
    exact stays_serve (stays_callRequest fun slot req i c => stays_releaseRule (hne .sums rfl) slot req i c s) h
  | crankback => exact stays_serve (stays_callRequest fun slot req i c => stays_crankbackRule slot req i c s) h
  | confirm | answer | queryCall => exact stays_serve (stays_callRequest fun _ _ _ _ => .same (by simp)) h
  | route | setCallTimers | loadDestinations | loadRouteLists | setBandMap | setHolidays | setGroup | blockCircuits
  | unblockCircuits | setSupervision | setGap | clearGap | setCarrier | loadTariff | cancelTariff =>
    exact stays_serve (fun _ _ => .same (by simp)) h
  | switchPlan => exact stays_serve (stays_serveSwitchPlan · · s) h
  | setCalendar => exact stays_serve (stays_serveSetCalendar (hne .calendar rfl) · · s) h
  | alignMinute => exact stays_serve (stays_serveAlignMinute (hne .calendar rfl) · · s) h
  | closePeriod => exact stays_serve (stays_serveClosePeriod (hne .sums rfl) · · s) h
  | bankLoadHead => exact stays_execBankLoadHead h
  | gapEntryLapse => exact stays_execGapEntryLapse h
  | tariffActivation | longCallMark => exact stays_event (.same (by simp)) (next_of_guarded h)
  | confirmationExpiry i => exact stays_event (stays_expire i s) (next_of_guarded h)
  | frameSlot present =>
    have htick := hne .tick rfl
    have hcalendar := hne .calendar rfl
    exact Host.Outcome.next.inj h ▸ .ite ((stays_settleSlot htick hcalendar s).trans (.same_but_tick htick (by simp)))
      (.ite (stays_slotInReset hcalendar s) (.refl s))
  | tickAdvance => exact stays_event (stays_advanceTick (hne .tick rfl) s) h
  | tenthAdvance => exact stays_event (stays_advanceTenth (hne .calendar rfl) s) h
  | backupTenthAdvance => exact stays_event (stays_setCalendar (hne .calendar rfl) _ s.backup.clockSet s) h
  | periodEnd => exact stays_event (stays_endPeriod s) h
  | referenceLoss | referenceLock => exact stays_event (.same (by simp [loseReference, changeReference])) h
  | scanTimerExpiry | runOne | runZero | scanInterval | burstSize | attention | attnPulseEnd =>
    exact stays_event (.same (by simp)) h
  | attnMode | areaBase | areaSize => exact stays_event (.ite (.same (by simp)) (.same (by simp))) h
  | nudge => exact stays_event (.ite (.ite (.same (by simp)) (.same (by simp))) (.refl s)) h
  | memoryBurstDone => exact stays_execMemoryBurstDone (hne .sums rfl) (hne .stores rfl) h
  | registerWriteIgnored => exact Host.Outcome.next.inj h ▸ .refl s
  | softReset => exact stays_event (stays_startWarm (hne .tick rfl) (hne .sums rfl) _ _ s) h
  | powerOn =>
    have htick := hne .tick rfl
    have hsums := hne .sums rfl
    exact Host.Outcome.next.inj h ▸ (stays_setPower _ s).trans
      (.ite (stays_startWarm htick hsums _ _ _) (stays_startCold htick (hne .calendar rfl) hsums _))
  | resetLineAsserted =>
    exact Host.Outcome.next.inj h ▸ (stays_setPower _ s).trans
      (.ite (stays_startWarm (hne .tick rfl) (hne .sums rfl) _ _ _) (.refl _))
  | resetLineReleased =>
    exact Host.Outcome.next.inj h ▸ (stays_setPower _ s).trans (.ite (stays_endReset (hne .tick rfl) _) (.refl _))
  | resetEnd => exact stays_event (.ite (stays_setPower _ s) (stays_endReset (hne .tick rfl) s)) h
  | mainSupplyLoss => exact stays_event ((stays_volatileReset (hne .tick rfl) _ s).trans (stays_setPower _ _)) h
  | backupSupplyFailure =>
    exact Host.Outcome.next.inj h ▸ .ite (.refl s) (stays_setBackup (hne .calendar rfl) (hne .sums rfl) _ s)

/-- Settles O9: each clause is about one part. -/
theorem stateMovesOnlyByItsEvents : Obligations.StateMovesOnlyByItsEvents := by
  intro c s t h
  have hpart : ∀ p : Part, p.movedBy c = false → p.Stays s t := fun _ => stays_exec h
  refine ⟨hpart .tick, hpart .calendar, hpart .stores, hpart .queue rfl, ?_⟩
  intro hrelease hclose hburst hpower hline hsoft hbackup
  exact hpart .sums (by simp [Part.movedBy, movesSums, *])

end Sys2Proof.Machine
end

section
/-! PROOFS. The price of a direction: whole intervals billed, every billed tick charged once, the surcharge bounded (R133 to
R138). -/

namespace Sys2Proof.Machine

/-! ### Whole intervals (R133, R134) -/

theorem le_ceilDiv_mul {n d : Nat} (hd : 0 < d) : n ≤ ceilDiv n d * d := by
  have hlt : n + d - 1 < ceilDiv n d * d + d := Nat.lt_div_mul_add hd
  omega

theorem ceilDiv_mul_lt {n d : Nat} (hd : 0 < d) : ceilDiv n d * d < n + d := by
  have hle : ceilDiv n d * d ≤ n + d - 1 := Nat.div_mul_le_self _ _
  omega

theorem le_ten_mul_billableSeconds (d : Nat) : d ≤ 10 * billableSeconds d := by
  have hle : d ≤ ceilDiv d 10 * 10 := le_ceilDiv_mul (by decide)
  have hmax : ceilDiv d 10 ≤ billableSeconds d := le_max_right _ _
  omega

section
variable {t : Terms} {b : Nat}

theorem billedSeconds_of_le (h : b ≤ t.initial) : billedSeconds t b = t.initial := if_pos h

theorem billedSeconds_of_lt (h : t.initial < b) :
    billedSeconds t b = t.initial + ceilDiv (b - t.initial) t.subsequent * t.subsequent := if_neg (not_le.2 h)

theorem initial_le_billedSeconds : t.initial ≤ billedSeconds t b := by
  unfold billedSeconds
  split
  · exact le_rfl
  · exact Nat.le_add_right _ _

theorem le_billedSeconds (ht : 0 < t.subsequent) : b ≤ billedSeconds t b := by
  rcases le_or_gt b t.initial with h | h
  · rwa [billedSeconds_of_le h]
  · have hle : b - t.initial ≤ ceilDiv (b - t.initial) t.subsequent * t.subsequent := le_ceilDiv_mul ht
    rw [billedSeconds_of_lt h]
    omega

theorem billedSeconds_lt (ht : 0 < t.subsequent) (h : t.initial < b) : billedSeconds t b < b + t.subsequent := by
  have hlt : ceilDiv (b - t.initial) t.subsequent * t.subsequent < b - t.initial + t.subsequent := ceilDiv_mul_lt ht
  rw [billedSeconds_of_lt h]
  omega

theorem subsequent_dvd_billedSeconds_sub (h : t.initial < b) : t.subsequent ∣ billedSeconds t b - t.initial := by
  rw [billedSeconds_of_lt h, Nat.add_sub_cancel_left]
  exact Nat.dvd_mul_left _ _

end

/-! ### Segment ticks (R135) -/

theorem length_segmentTicks (offsets : List Nat) (e : Nat) : (segmentTicks offsets e).length = offsets.length := by
  fun_induction segmentTicks with
  | case1 | case2 => rfl
  | case3 o p os e ih => simp [ih]

theorem getElem?_segmentTicks {offsets : List Nat} {e k a b : Nat} (ha : offsets[k]? = some a)
    (hb : offsets[k + 1]? = some b) : (segmentTicks offsets e)[k]? = some (b - a) := by
  fun_induction segmentTicks generalizing k with
  | case1 => simp at ha
  | case2 => simp at hb
  | case3 o p os e ih =>
    cases k with
    | zero =>
      obtain rfl : o = a := Option.some.inj ha
      obtain rfl : p = b := Option.some.inj hb
      rfl
    | succ k => exact ih ha hb

theorem getLast?_segmentTicks (offsets : List Nat) (e : Nat) :
    (segmentTicks offsets e).getLast? = offsets.getLast?.map (e - ·) := by
  fun_induction segmentTicks with
  | case1 | case2 => rfl
  | case3 o p os e ih =>
    have hne : segmentTicks (p :: os) e ≠ [] := List.ne_nil_of_length_pos (by simp [length_segmentTicks])
    rw [List.getLast?_cons_of_ne_nil hne, ih, List.getLast?_cons_cons]

/-- Each segment's end is the next one's start, so the ticks telescope. -/
theorem sum_segmentTicks {o e : Nat} {os : List Nat} (hrise : (o :: os).Pairwise (· < ·)) (hend : ∀ x ∈ o :: os, x ≤ e) :
    (segmentTicks (o :: os) e).sum = e - o := by
  induction os generalizing o with
  | nil => simp [segmentTicks]
  | cons p os ih =>
    obtain ⟨hfirst, hrest⟩ := List.pairwise_cons.1 hrise
    have hop : o < p := hfirst p List.mem_cons_self
    have hpe : p ≤ e := hend p (by simp)
    have hsum : (segmentTicks (p :: os) e).sum = e - p := ih hrest fun x hx => hend x (List.mem_cons_of_mem _ hx)
    rw [segmentTicks, List.sum_cons, hsum]
    omega

/-! ### The surcharge (R138) -/

theorem surchargeOf_le {t : Terms} (h : t.surcharge ≤ 500) (alternate : Bool) (base : Nat) :
    surchargeOf t alternate base ≤ (base + 1) / 2 := by
  cases alternate with
  | false => exact Nat.zero_le _
  | true =>
    have hmul : base * t.surcharge ≤ base * 500 := Nat.mul_le_mul_left base h
    change (base * t.surcharge + 500) / 1000 ≤ (base + 1) / 2
    omega

/-! ### The price -/

/-- Settles O24: the clauses are the lemmas above at the billed seconds; the last segment begins by the end of those, as they
are at least the billable seconds. -/
theorem pricingBillsWholeIntervals : Obligations.PricingBillsWholeIntervals := by
  unfold Obligations.PricingBillsWholeIntervals
  intro t alternate d offsets rates _ hsubsequent hsurcharge _ _ _ hhead hrise hends p seconds
  have hpos : 0 < t.subsequent := Nat.pos_of_ne_zero hsubsequent
  have hbilled : seconds ≤ p.billed := le_billedSeconds hpos
  have hd : d ≤ 10 * seconds := le_ten_mul_billableSeconds d
  obtain ⟨os, rfl⟩ := List.head?_eq_some_iff.1 hhead
  have hends' : ∀ o ∈ 0 :: os, o ≤ 10 * p.billed := fun o ho => (hends o ho).trans (by omega)
  refine ⟨hbilled, initial_le_billedSeconds, billedSeconds_of_le,
    fun h => ⟨billedSeconds_lt hpos h, subsequent_dvd_billedSeconds_sub h⟩, sum_segmentTicks hrise hends',
    length_segmentTicks _ _, fun _ _ _ => getElem?_segmentTicks, fun a ha => ?_, rfl, ?_, ?_⟩
  · rw [getLast?_segmentTicks, ha, Option.map_some]
  · rintro rfl
    rfl
  · rintro rfl
    exact ⟨rfl, surchargeOf_le hsurcharge true p.base⟩

end Sys2Proof.Machine
end

section
/-! PROOFS. CLOSE PERIOD: one carrier's sums or every carrier's taken into the close record, the result block, and the answer once
that is written (R149 to R152, Table 10-10). -/

namespace Sys2Proof.Machine

/-! ### The result block (R151, Table 10-10) -/

/-- Chunk `k` of an array of equal chunks, cut out at its place. -/
theorem take_drop_flatMap_chunks {chunk : Nat → List Byte} {size : Nat} (hsize : ∀ k, (chunk k).length = size) {n k : Nat}
    (hk : k < n) : (((List.range n).flatMap chunk).drop (size * k)).take size = chunk k := by
  obtain ⟨m, rfl⟩ := Nat.exists_eq_add_of_lt hk
  rw [Nat.add_assoc, List.range_add, List.range_succ_eq_map, List.map_cons, List.flatMap_append, List.flatMap_cons,
    List.drop_left' (length_flatMap_chunks hsize k), List.take_left' (hsize _), Nat.add_zero]

/-- Entry `c` of the result block; that of carrier index 0 holds values 0. -/
def resultChunk (taken : Table Sums) (c : Nat) : List Byte :=
  layOut 0 32 (resultEntry 0 c (if c = 0 then Sums.zero else Table.read taken Sums.zero c))

theorem resultBlock_eq (taken : Table Sums) : resultBlock taken = (List.range 256).flatMap (resultChunk taken) := rfl

theorem resultChunk_length (taken : Table Sums) (c : Nat) : (resultChunk taken c).length = 32 := layOut_length _ _ _

theorem resultBlock_length (taken : Table Sums) : (resultBlock taken).length = 8192 :=
  length_flatMap_chunks (resultChunk_length taken) 256

theorem resultBlock_chunk (taken : Table Sums) {c : Nat} (hc : c < 256) :
    ((resultBlock taken).drop (32 * c)).take 32 = resultChunk taken c :=
  take_drop_flatMap_chunks (resultChunk_length taken) hc

theorem resultChunk_zero (taken : Table Sums) : resultChunk taken 0 = List.replicate 32 0#8 := by
  rw [resultChunk, if_pos rfl]
  decide

theorem resultBlock_zero_entry (taken : Table Sums) {i : Nat} (hi : i < 32) : (resultBlock taken)[i]? = some 0#8 := by
  have hfirst : (resultBlock taken).take 32 = List.replicate 32 0#8 :=
    (resultBlock_chunk taken (c := 0) (by decide)).trans (resultChunk_zero taken)
  rw [← List.getElem?_take_of_lt hi, hfirst, List.getElem?_replicate, if_pos hi]

theorem Sums.marks_lt (u : Sums) : u.marks < 256 := by
  have hbit : ∀ b, bit b ≤ 1 := fun b => by cases b <;> decide
  have hreceivable := hbit u.satReceivable
  have hpayable := hbit u.satPayable
  have hin := hbit u.satInCount
  have hout := hbit u.satOutCount
  unfold Sums.marks
  omega

theorem resultEntry_apart (c : Nat) (u : Sums) : (resultEntry 0 c u).Pairwise Field.Apart := by
  simp [resultEntry, Field.Apart]

/-- What a carrier's entry holds; a value within its range is not cut by its field. -/
theorem resultEntry_holds {c : Nat} (hc : c < 256) (u : Sums) :
    let e := layOut 0 32 (resultEntry 0 c u)
    byteAt e 0 = c ∧ byteAt e 1 = u.marks ∧ (u.Legal → readLE e 2 2 = u.unsettled ∧ readLE e 4 4 = u.inCount ∧
      readLE e 8 8 = u.receivable ∧ readLE e 16 8 = u.payable ∧ readLE e 24 4 = u.outCount) := by
  intro e
  have hfield : ∀ f ∈ resultEntry 0 c u, f.off + f.size ≤ 32 → f.value < 256 ^ f.size → readLE e f.off f.size = f.value :=
    fun f hf hend hvalue => (readLE_layOut_of_mem (resultEntry_apart c u) hf (Nat.zero_le _) (by omega)).trans
      (Nat.mod_eq_of_lt hvalue)
  refine ⟨?_, ?_, fun ⟨hreceivable, hpayable, hin, hout, hunsettled⟩ => ?_⟩
  · rw [← readLE_one]
    exact hfield ⟨0, 1, c⟩ (by simp [resultEntry]) (by simp) hc
  · rw [← readLE_one]
    exact hfield ⟨1, 1, u.marks⟩ (by simp [resultEntry]) (by simp) u.marks_lt
  · refine ⟨hfield ⟨2, 2, u.unsettled⟩ ?_ ?_ (hunsettled.trans_lt (show 65535 < 256 ^ 2 by decide)),
      hfield ⟨4, 4, u.inCount⟩ ?_ ?_ (hin.trans_lt (show top32 < 256 ^ 4 by decide)),
      hfield ⟨8, 8, u.receivable⟩ ?_ ?_ (hreceivable.trans_lt (show top48 < 256 ^ 8 by decide)),
      hfield ⟨16, 8, u.payable⟩ ?_ ?_ (hpayable.trans_lt (show top48 < 256 ^ 8 by decide)),
      hfield ⟨24, 4, u.outCount⟩ ?_ ?_ (hout.trans_lt (show top32 < 256 ^ 4 by decide))⟩ <;> simp [resultEntry]

/-! ### What a close takes (R150, R151) -/

theorem Table.find_mapSums (t : Table Settlement) (k : Nat) :
    Table.find (t.map fun e => (e.1, e.2.sums)) k = (Table.find t k).map Settlement.sums := by
  induction t with
  | nil => rfl
  | cons e t ih =>
    rw [List.map_cons, Table.find, Table.find, ih]
    split <;> rfl

theorem read_allSums {t : Table Settlement} (h : Table.rising t = true) (k : Nat) :
    Table.read (allSums t) Sums.zero k = (Table.read t Settlement.zero k).sums := by
  have hrising : Table.rising (t.map fun e => (e.1, e.2.sums)) = true := by
    rw [Table.rising_iff_pairwise] at h ⊢
    rwa [List.map_map]
  rw [allSums, Table.read_filter_ne _ hrising, Table.read, Table.find_mapSums, Table.read]
  cases Table.find t k <;> rfl

/-! ### CLOSE PERIOD (R149) -/

section
variable {slot : Nat} {req : List Byte} {s : State} (hclear : reservedClear .closePeriod req = true)
include hclear

theorem serveClosePeriod_of_range (h : 1 < byteAt req 8 ∨ byteAt req 8 = 0 ∧ byteAt req 9 = 0) :
    serveClosePeriod slot req s = reply slot req .range 0 [] s := by
  rw [serveClosePeriod, if_neg (by simp [hclear])]
  rcases h with hscope | ⟨hscope, hcarrier⟩
  · rw [if_pos hscope]
  · rw [if_neg (by omega), if_pos hscope, if_pos hcarrier]

theorem serveClosePeriod_of_one (hscope : byteAt req 8 = 0) (hcarrier : byteAt req 9 ≠ 0) :
    serveClosePeriod slot req s = closeOne slot req (byteAt req 9) s := by
  rw [serveClosePeriod, if_neg (by simp [hclear]), if_neg (by omega), if_pos hscope, if_neg hcarrier]

theorem serveClosePeriod_of_misaligned (hscope : byteAt req 8 = 1) (haddr : readLE req 12 4 % 8 ≠ 0) :
    serveClosePeriod slot req s = reply slot req .format 0 [] s := by
  rw [serveClosePeriod, if_neg (by simp [hclear]), if_neg (by omega), if_neg (by omega), if_pos haddr]

theorem serveClosePeriod_of_all (hscope : byteAt req 8 = 1) (haddr : readLE req 12 4 % 8 = 0) :
    serveClosePeriod slot req s = closeAll slot req (BitVec.ofNat 32 (readLE req 12 4)) s := by
  rw [serveClosePeriod, if_neg (by simp [hclear]), if_neg (by omega), if_neg (by omega), if_neg (not_not.2 haddr)]

end

theorem afterTransfer_settlement (r : Requester) (t : Transfer) (ts : List Transfer) (s : State) :
    (afterTransfer r t ts s).carrierJob = s.carrierJob ∧ (afterTransfer r t ts s).backup = s.backup := by
  simp [afterTransfer]

/-- The OK answer of a CLOSE PERIOD of all carriers (R151). -/
theorem resultWritten_of_close {s : State} {slot : Nat} {req : List Byte} {tick : Tick} {r : CloseRecord}
    (hjob : s.carrierJob = some (.close slot req tick)) (hrecord : s.backup.closeRecord = some r) :
    resultWritten s = reply slot req .ok 0 [⟨72, 4, tick.toNat⟩, ⟨76, 1, markedCarriers r.taken⟩] s := by
  rw [resultWritten, hjob, hrecord]

/-- Settles O49, by the checks of a CLOSE PERIOD in their order, the two scopes, and the result block written. -/
theorem closePeriodTakesTheSums : Obligations.ClosePeriodTakesTheSums := by
  constructor
  · intro s slot req hserved hclear scope k addr v job
    have hexec : exec .closePeriod s = .next (serveClosePeriod slot req s) := exec_command_of_served hserved
    rw [hexec]
    refine ⟨fun hrange => ?_, fun hscope haddr => ?_, fun hscope hk => ?_, fun hscope haddr hcanonical => ?_⟩
    · rw [serveClosePeriod_of_range hclear hrange]
    · rw [serveClosePeriod_of_misaligned hclear hscope haddr]
    · rw [serveClosePeriod_of_one hclear hscope hk]
      exact ⟨_, rfl, (settlement_putSettlement k k _ s).trans (if_pos rfl),
        fun j hj => (settlement_putSettlement k j _ s).trans (if_neg hj), rfl, rfl⟩
    · rw [serveClosePeriod_of_all hclear hscope haddr, closeAll, writeTransfer, resultBlock_length]
      obtain ⟨-, -, -, -, hsettlements, -⟩ := hcanonical
      obtain ⟨hrising, -⟩ := Table.canonical_iff.1 hsettlements
      have htaken := read_allSums hrising
      refine ⟨_, _, rfl, resultBlock_length _, fun i => resultBlock_zero_entry _, fun j hlow hj => ?_,
        read_takenSettlements hrising, htaken, rfl, rfl⟩
      rw [resultBlock_chunk _ (by omega), resultChunk, if_neg (by omega), htaken]
      exact resultEntry_holds (by omega) _
  · intro s t ts slot req tick r hcompletes _ hpurpose hjob hrecord
    obtain ⟨hjob', hbackup⟩ := afterTransfer_settlement .carrier t ts s
    rw [exec_memoryBurstDone_of_completes hcompletes, hpurpose, completed,
      resultWritten_of_close (hjob'.trans hjob) (hbackup ▸ hrecord)]
    rfl

end Sys2Proof.Machine
end

section
/-! PROOFS. The Memory Port: how it serves, what a burst stores, and what the last burst of an ANSWERED byte does besides (R161,
R169, R173). -/

namespace Sys2Proof.Machine

/-! ### Serving (R169, R173) -/

theorem Port.serve_last (b : Nat) (p : Port) : (p.serve b).last = p.last := by
  unfold Port.serve
  split
  next r _ =>
    split
    next => exact Port.setQueue_last p r _
    next => rfl
  next => rfl

/-- The requester served has a transfer waiting. -/
theorem Port.queue_of_nextServed {p : Port} {r : Requester} (h : p.nextServed = some r) : ∃ t ts, p.queue r = t :: ts := by
  have hwaits := List.find?_some h
  cases hq : p.queue r with
  | nil => simp [hq] at hwaits
  | cons t ts => exact ⟨t, ts, rfl⟩

theorem Port.serve_of_nextServed {p : Port} {r : Requester} {t : Transfer} {ts : List Transfer} (h : p.nextServed = some r)
    (hq : p.queue r = t :: ts) (b : Nat) : p.serve b = { p.setQueue r (t.begin b :: ts) with serving := some r } := by
  simp only [Port.serve, h, hq]

theorem Port.serve_of_idle {p : Port} (h : p.nextServed = none) (b : Nat) : p.serve b = { p with serving := none } := by
  simp only [Port.serve, h]

theorem Port.serve_serving (b : Nat) (p : Port) : (p.serve b).serving = p.nextServed := by
  cases h : p.nextServed with
  | none => rw [Port.serve_of_idle h]
  | some r =>
    obtain ⟨t, ts, hq⟩ := Port.queue_of_nextServed h
    rw [Port.serve_of_nextServed h hq]

/-- A queue with a transfer waiting is what it was, but that the transfer served begins (R169). -/
theorem Port.serve_queue {p : Port} {q : Requester} {x : Transfer} {xs : List Transfer} (hq : p.queue q = x :: xs) (b : Nat) :
    (p.serve b).queue q = if p.nextServed = some q then x.begin b :: xs else x :: xs := by
  cases h : p.nextServed with
  | none =>
    rw [Port.serve_of_idle h, if_neg (by simp)]
    exact hq
  | some r =>
    obtain ⟨t, ts, hr⟩ := Port.queue_of_nextServed h
    rw [Port.serve_of_nextServed h hr]
    change (p.setQueue r (t.begin b :: ts)).queue q = _
    rw [Port.setQueue_queue]
    by_cases hqr : q = r
    · subst hqr
      obtain ⟨rfl, rfl⟩ := List.cons.inj (hq.symm.trans hr)
      rw [if_pos rfl, if_pos rfl]
    · rw [if_neg hqr, if_neg fun hsome => hqr (Option.some.inj hsome).symm, hq]

/-- A transfer that begins takes the burst size in force and a strip read is cut to one burst; one that has begun goes on (R169). -/
theorem Transfer.begin_eq (b : Nat) (t : Transfer) : t.begin b = if t.burst = none
    then { t with burst := some b, left := if t.readsStrip then min t.left (b - t.addr.toNat % b) else t.left } else t := by
  cases hburst : t.burst with
  | none => rw [if_pos rfl, Transfer.begin_waiting b hburst]
  | some c => rw [if_neg (by simp), Transfer.begin_begun b hburst]

/-! ### Bursts (R173) -/

section
variable {s : State} {r : Requester} {t : Transfer} {ts : List Transfer} {data : List Byte}

/-- A reply of the bytes that the port's burst reads ends the burst (R173). -/
theorem exec_done (hserving : s.port.serving = some r) (hqueue : s.port.queue r = t :: ts) (hlength : data.length ≤ 128)
    (hdata : data.length = if t.write then 0 else t.burstLength) :
    exec (.memoryBurstDone (.done data)) s = .next (serveNext r (endBurst r t ts (.done data) s)) := by
  have hcarried : carried s = some (r, t, ts) := by simp [carried, hserving, hqueue]
  have hwell : (Instr.memoryBurstDone (.done data)).wellFormed = true := decide_eq_true hlength
  have hfits : replyFits t (.done data) = true := decide_eq_true hdata
  rw [exec_memoryBurstDone_of_carried hwell hcarried, if_pos hfits]

theorem endBurst_of_last (h : t.burstLength = t.left) : endBurst r t ts (.done data) s =
    completed t.purpose (t.data ++ data) (setTransfers r ts (storeBytes t t.burstLength s)) := if_pos h

theorem endBurst_of_more (h : t.burstLength < t.left) : endBurst r t ts (.done data) s =
    setTransfers r (t.afterBurst data :: ts) (storeBytes t t.burstLength s) := if_neg h.ne

theorem endBurst_mem : (endBurst r t ts (.done data) s).mem = (storeBytes t t.burstLength s).mem := by
  rcases (burstLength_le_left t).eq_or_lt with hlast | hmore
  · rw [endBurst_of_last hlast]
    simp
  · rw [endBurst_of_more hmore]
    simp

theorem storeBytes_mem_of_write (h : t.write = true) (n : Nat) :
    (storeBytes t n s).mem = Memory.store s.mem t.addr (t.data.take n) := by simp [storeBytes, h]

theorem storeBytes_of_read (h : t.write = false) (n : Nat) : storeBytes t n s = s := by simp [storeBytes, h]

/-- A burst changes host memory alone. -/
theorem storeBytes_eq (n : Nat) : storeBytes t n s = s.setMem (storeBytes t n s).mem := by
  cases hwrite : t.write with
  | false => rw [storeBytes_of_read hwrite]; rfl
  | true => rw [storeBytes_mem_of_write hwrite, storeBytes, if_pos hwrite]

theorem serveNext_last : (serveNext r s).port.last = some r := Port.serve_last _ _

end

/-! ### An ANSWERED byte (R161) -/

/-- The machine with a slot's answer written: the ANSWERS bit set, a CLOSE PERIOD's OK settled, and the entry gone from the
in-hand list (R152, R161). -/
def dropAnswered (slot : Nat) (s : State) : State :=
  (if s.intake.isCloseOk slot then settleClose (raiseBit .answers s) else raiseBit .answers s).setIntake
    (s.intake.dropWritten slot)

theorem answeredWritten_eq (slot : Nat) (s : State) :
    answeredWritten slot s = checkHalt (proceedAnswers (dropAnswered slot s)) := by
  have hraised : (raiseBit .answers s).intake = s.intake := by simp
  simp only [answeredWritten, dropAnswered, hraised]
  split <;> simp

theorem dropAnswered_of_closeOk {slot : Nat} {s : State} (h : s.intake.isCloseOk slot = true) :
    dropAnswered slot s = (settleClose (raiseBit .answers s)).setIntake (s.intake.dropWritten slot) := by
  rw [dropAnswered, if_pos h]

theorem dropAnswered_of_other {slot : Nat} {s : State} (h : s.intake.isCloseOk slot = false) :
    dropAnswered slot s = (raiseBit .answers s).setIntake (s.intake.dropWritten slot) := by
  rw [dropAnswered, if_neg (by simp [h])]

theorem startPass_lists (s : State) :
    (startPass s).intake.inHand = s.intake.inHand ∧ (startPass s).intake.formed = s.intake.formed := by
  simp [startPass, askStrip]

theorem launchDuePass_lists (s : State) :
    (launchDuePass s).intake.inHand = s.intake.inHand ∧ (launchDuePass s).intake.formed = s.intake.formed := by
  unfold launchDuePass
  split
  · dsimp only
    split
    · exact startPass_lists _
    · exact ⟨rfl, rfl⟩
  · exact ⟨rfl, rfl⟩

theorem recoverUnread_lists (slots : List Nat) (s : State) : (recoverUnread slots s).intake.inHand = s.intake.inHand ∧
    (recoverUnread slots s).intake.formed = s.intake.formed := by
  cases slots with
  | nil => exact launchDuePass_lists _
  | cons slot slots => simp [recoverUnread]

/-- Beginning an answer's write changes nothing of the intake but that an answer is being written (R161). -/
theorem startAnswerWrite_intake (s : State) :
    (startAnswerWrite s).intake = { s.intake with writing := (startAnswerWrite s).intake.writing } := by
  unfold startAnswerWrite
  split
  · split
    · rfl
    · split
      · rfl
      · simp
  · rfl

theorem startAnswerWrite_lists (s : State) : (startAnswerWrite s).intake.inHand = s.intake.inHand ∧
    (startAnswerWrite s).intake.formed = s.intake.formed := by
  rw [startAnswerWrite_intake]
  exact ⟨rfl, rfl⟩

/-- Going on with the answers leaves the in-hand list and the formed order. -/
theorem proceedAnswers_lists (s : State) : (proceedAnswers s).intake.inHand = s.intake.inHand ∧
    (proceedAnswers s).intake.formed = s.intake.formed := by
  unfold proceedAnswers
  split
  · obtain ⟨hinHand, hformed⟩ := startAnswerWrite_lists (recoverUnread s.intake.unreadSlots s)
    obtain ⟨hinHand', hformed'⟩ := recoverUnread_lists s.intake.unreadSlots s
    exact ⟨hinHand.trans hinHand', hformed.trans hformed'⟩
  · exact startAnswerWrite_lists s

theorem checkHalt_answers (s : State) : (checkHalt s).regs.answers = s.regs.answers := by
  unfold checkHalt
  split <;> rfl

theorem dropAnswered_answers (slot : Nat) (s : State) : (dropAnswered slot s).regs.answers = true := by
  have hraised : (raiseBit .answers s).regs.answers = true := raiseBit_sets .answers s
  cases hclose : s.intake.isCloseOk slot with
  | true => rw [dropAnswered_of_closeOk hclose]; exact hraised
  | false => rw [dropAnswered_of_other hclose]; exact hraised

/-- What the last burst of an ANSWERED byte does at the Intake Unit, to the ANSWERS bit and to the close (R152, R161). -/
theorem answeredWritten_spec (slot : Nat) (s : State) : (answeredWritten slot s).regs.answers = true ∧
    (answeredWritten slot s).intake.inHand = s.intake.inHand.filter (fun e => decide (e.slot ≠ slot)) ∧
    (answeredWritten slot s).intake.formed = s.intake.formed.filter (fun i => decide (i ≠ slot)) ∧
    (s.intake.isCloseOk slot = true →
      (answeredWritten slot s).backup.closeRecord = none ∧ (answeredWritten slot s).carrierJob = none) ∧
    (s.intake.isCloseOk slot = false →
      (answeredWritten slot s).backup = s.backup ∧ (answeredWritten slot s).carrierJob = s.carrierJob) := by
  rw [answeredWritten_eq]
  obtain ⟨hinHand, hformed⟩ := proceedAnswers_lists (dropAnswered slot s)
  refine ⟨?_, ?_, ?_, fun hclose => ?_, fun hother => ?_⟩
  · rw [checkHalt_answers]
    simp [dropAnswered_answers]
  · simp only [checkHalt_keeps, hinHand]
    rfl
  · simp only [checkHalt_keeps, hformed]
    rfl
  · rw [dropAnswered_of_closeOk hclose]
    simp [settleClose]
  · rw [dropAnswered_of_other hother]
    simp

/-- Settles O59: the port's service by what waits, and a burst by whether it is its transfer's last. -/
theorem burstsMoveTransfers : Obligations.BurstsMoveTransfers := by
  refine ⟨fun p b => ⟨Port.serve_last b p, Port.serve_serving b p, fun q => ?_⟩, fun r => ⟨rfl, by cases r <;> rfl⟩, ?_, ?_⟩
  · cases hq : p.queue q with
    | nil => exact Port.serve_empty b hq
    | cons x xs =>
      rw [Port.serve_queue hq, Port.serve_serving, Transfer.begin_eq]
      change _ = if _ ∧ _ then _ else _
      rw [ite_and]
      split
      · split <;> rfl
      · rfl
  · intro r t s p size
    have hask : ask r t s = s.setPort (if p.serving.isSome then p else p.serve size) := rfl
    have hserving : p.serving = s.port.serving := Port.setQueue_serving _ _ _
    rw [hask, hserving]
    cases s.port.serving <;> rfl
  · intro s r t ts data hserving hqueue hlength hdata hleft hburst n
    have hmem : (serveNext r (endBurst r t ts (.done data) s)).mem = (storeBytes t n s).mem := by
      rw [← endBurst_mem (r := r) (ts := ts) (data := data)]
      simp
    refine ⟨_, exec_done hserving hqueue hlength hdata, fun hread => ?_, fun hwrite => ⟨fun i hi => ?_, fun a ha => ?_⟩,
      serveNext_last, fun hmore => ?_, fun slot hlast hpurpose => ?_⟩
    · rw [hmem, storeBytes_of_read hread]
    · rw [hmem, storeBytes_mem_of_write hwrite]
      exact byte_store_take hi ((burstLength_le_left t).trans_eq (hleft hwrite).symm) hburst
    · rw [hmem, storeBytes_mem_of_write hwrite]
      refine Memory.byte_store_outside _ _ _ _ fun i hi => ha i (hi.trans_le ?_)
      exact List.length_take_le _ _
    · rw [hmem, endBurst_of_more hmore, storeBytes_eq]
      rfl
    · rw [endBurst_of_last hlast, hpurpose, completed]
      have hspec := answeredWritten_spec slot (setTransfers r ts (storeBytes t t.burstLength s))
      simpa using hspec

end Sys2Proof.Machine
end

section
/-! PROOFS. How transfers carry requests in and answers out: the codes of a strip examined, a request dispatched, an answer written,
and the way of the pass, of the recovery and of the engine after each (R152, R157 to R162, R170, R172). -/

namespace Sys2Proof.Machine

/-! ### The pass (R158, R159) -/

/-- The pass with its next `n` slots examined, in an area of `slots`. -/
def Pass.examined (p : Pass) (slots n : Nat) : Pass := { p with next := (p.next + n) % slots, left := p.left - n }

theorem Pass.examined_zero {p : Pass} {slots : Nat} (h : p.next < slots) : p.examined slots 0 = p := by
  rw [Pass.examined, Nat.add_zero, Nat.mod_eq_of_lt h, Nat.sub_zero]

theorem Pass.examined_advance (p : Pass) (slots n : Nat) : (p.advance slots).examined slots n = p.examined slots (n + 1) := by
  simp only [Pass.examined, Pass.advance, Nat.mod_add_mod, Nat.sub_sub, Nat.add_assoc, Nat.add_comm 1 n]

theorem Pass.advance_examined (p : Pass) (slots n : Nat) : (p.examined slots n).advance slots = p.examined slots (n + 1) := by
  simp only [Pass.examined, Pass.advance, Nat.mod_add_mod, Nat.sub_sub, Nat.add_assoc]

theorem entryOf_eq_none_iff {k : Intake} {slot : Nat} : k.entryOf slot = none ↔ ∀ e ∈ k.inHand, e.slot ≠ slot := by
  simp [Intake.entryOf]

section
variable {v : State} {p : Pass}

/-- The pass takes slot `slot` when its code is POSTED and it is not in hand (R159). -/
def Intake.takes (k : Intake) (slot : Nat) (c : Byte) : Prop := c = 1#8 ∧ ∀ e ∈ k.inHand, e.slot ≠ slot

theorem examineCodes_passes (hnext : p.next < slotCount v) {pre : List Byte}
    (hpre : ∀ n x, pre[n]? = some x → ¬ v.intake.takes ((p.next + n) % slotCount v) x) (codes : List Byte) :
    examineCodes (pre ++ codes) p v = examineCodes codes (p.examined (slotCount v) pre.length) v := by
  induction pre generalizing p with
  | nil => rw [List.length_nil, Pass.examined_zero hnext, List.nil_append]
  | cons c pre ih =>
    have hpassed : ¬ (c = 1#8 ∧ v.intake.entryOf p.next = none) := by
      have hfirst := hpre 0 c rfl
      rwa [Nat.add_zero, Nat.mod_eq_of_lt hnext, Intake.takes, ← entryOf_eq_none_iff] at hfirst
    have hslots : 0 < slotCount v := Nat.zero_lt_of_lt hnext
    rw [List.cons_append, examineCodes, if_neg hpassed, ih (Nat.mod_lt _ hslots) fun n x hx => ?_, Pass.examined_advance,
      List.length_cons]
    have hlater := hpre (n + 1) x hx
    rwa [Pass.advance, Nat.mod_add_mod, Nat.add_assoc, Nat.add_comm 1 n]

theorem examineCodes_takes {c : Byte} (htakes : v.intake.takes p.next c) (rest : List Byte) : examineCodes (c :: rest) p v =
    if v.intake.inHand.length < 64 then takeSlot p.next { p.advance (slotCount v) with codes := rest } v
    else endPass p.next v := by
  have htaken : c = 1#8 ∧ v.intake.entryOf p.next = none := by rwa [entryOf_eq_none_iff]
  rw [examineCodes, if_pos htaken]

/-- The intake with its pass ended at a resume point: the scan timer restarts and no rescan request is left (R158, R159). -/
def Intake.passEnded (k : Intake) (resume interval : Nat) : Intake :=
  { k with pass := none, resume := resume, timer := some interval, rescan := false }

theorem endPass_of_quiet (hrescan : v.intake.rescan = false) (r : Nat) :
    endPass r v = v.setIntake (v.intake.passEnded r v.regs.interval) := by
  simp only [endPass, restartTimer, State.setIntake_intake, hrescan, Bool.false_eq_true, if_false, Intake.passEnded]
  rfl

theorem endPass_of_rescan (hrescan : v.intake.rescan = true) (r : Nat) :
    endPass r v = passFallsDue (v.setIntake (v.intake.passEnded r v.regs.interval)) := by
  simp only [endPass, restartTimer, State.setIntake_intake, hrescan, if_true, Intake.passEnded]
  rfl

theorem passEnded_endPass {r : Nat} (hr : r < 2 ^ v.regs.sizeExp) : PassEnded v (endPass r v) r := by
  refine ⟨fun hrescan => endPass_of_quiet hrescan r, fun hrescan hrecovery => ?_, fun hrescan hrecovery => ?_⟩ <;>
    rw [endPass_of_rescan hrescan, passFallsDue]
  · rw [if_pos (by exact Option.isSome_iff_ne_none.2 hrecovery)]
    rfl
  · rw [if_neg (by exact Option.not_isSome_iff_eq_none.2 hrecovery)]
    exact passStarts_startPass rfl hr

theorem passGoesOn_examineCodes (hnext : p.next < 2 ^ v.regs.sizeExp) (codes : List Byte) :
    PassGoesOn v p codes (examineCodes codes p v) := by
  have hslots : 0 < slotCount v := Nat.zero_lt_of_lt hnext
  refine ⟨?_, fun hnone => ?_⟩
  · rintro pre c rest rfl hpre htakes
    rw [examineCodes_passes hnext hpre, examineCodes_takes (by exact htakes)]
    refine ⟨fun hroom => ?_, fun hfull => ?_⟩
    · rw [if_pos hroom, Pass.advance_examined]
      rfl
    · rw [if_neg (Nat.not_lt.2 hfull)]
      exact passEnded_endPass (Nat.mod_lt _ hslots)
  · have hpassed := examineCodes_passes hnext hnone []
    rw [List.append_nil] at hpassed
    rw [hpassed, examineCodes]
    refine ⟨fun hmore => ?_, fun hdone => ?_⟩
    · have hleft : ¬ (p.examined (slotCount v) codes.length).left = 0 := Nat.sub_ne_zero_of_lt hmore
      rw [if_neg hleft]
      rfl
    · have hleft : (p.examined (slotCount v) codes.length).left = 0 := Nat.sub_eq_zero_of_le hdone
      rw [if_pos hleft]
      exact passEnded_endPass hslots

end

/-! ### A request half read (R159, R160, R172) -/

/-- Handing a request to its owner, or answering it, leaves the pass and the recovery. -/
theorem dispatch_leaves (slot : Nat) (req : List Byte) (s : State) :
    (dispatch slot req s).intake.pass = s.intake.pass ∧ (dispatch slot req s).intake.recovery = s.intake.recovery ∧
    (dispatch slot req s).intake.passDue = s.intake.passDue ∧ (dispatch slot req s).intake.resume = s.intake.resume := by
  unfold dispatch
  split
  · exact ⟨rfl, rfl, rfl, rfl⟩
  · rw [reply, formAnswer, startAnswerWrite_intake]
    exact ⟨rfl, rfl, rfl, rfl⟩

section
variable {s : State} {slot : Nat} {req : List Byte}

theorem requestRead_of_taking {p : Pass} (hpass : s.intake.pass = some p) (htaking : p.taking = some slot) :
    requestRead slot req s = examineCodes p.codes { p with taking := none } (dispatch slot req s) := by
  obtain ⟨hpass', -⟩ := dispatch_leaves slot req s
  simp only [requestRead, hpass', hpass, htaking, if_true]

theorem requestRead_of_unread {rest : List Nat} (hpass : s.intake.pass = none)
    (hrecovery : s.intake.recovery = some (.unread (slot :: rest))) :
    requestRead slot req s = recoverUnread rest (dispatch slot req s) := by
  obtain ⟨hpass', hrecovery', -⟩ := dispatch_leaves slot req s
  simp only [requestRead, hpass', hpass, hrecovery', hrecovery, if_true]

end

/-- Step 2 of the recovery writes TAKEN again for the next UNREAD entry (R172). -/
theorem recoverUnread_cons (slot : Nat) (rest : List Nat) (s : State) : recoverUnread (slot :: rest) s =
    ask .intake (stripWrite s (.taken slot) slot 2#8) (s.setIntake { s.intake with recovery := some (.unread (slot :: rest)) }) :=
  rfl

/-- The recovery ends after the last UNREAD entry, and no pass is due (R172). -/
theorem recoverUnread_nil_of_quiet {s : State} (hdue : s.intake.passDue = false) :
    recoverUnread [] s = s.setIntake { s.intake with recovery := none } := by
  simp only [recoverUnread, launchDuePass, State.setIntake_intake, hdue, Bool.false_eq_true, if_false]

/-- The recovery ends, and the pass that is due starts (R172). -/
theorem recoverUnread_nil_of_due {s : State} (hdue : s.intake.passDue = true) (hrunning : s.regs.engine = .running)
    (hpass : s.intake.pass = none) (hresume : s.intake.resume < 2 ^ s.regs.sizeExp) :
    PassStarts (s.setIntake { s.intake with recovery := none, passDue := false }) (recoverUnread [] s) s.intake.resume := by
  rw [recoverUnread, launchDuePass_of_running (by exact hrunning) (by exact hpass), if_pos (by exact hdue)]
  exact passStarts_startPass rfl hresume

/-! ### After an ANSWERED byte (R161, R170, R172) -/

theorem checkHalt_of_inHand {s : State} (h : s.intake.inHand ≠ []) : checkHalt s = s :=
  if_neg fun ⟨_, hinHand, _⟩ => h hinHand

theorem checkHalt_of_running {s : State} (h : s.regs.engine = .running) : checkHalt s = s :=
  if_neg fun ⟨hdraining, _⟩ => by simp [h] at hdraining

theorem checkHalt_of_sweeping {s : State} (h : s.intake.sweep.active = true) : checkHalt s = s :=
  if_neg fun ⟨_, _, _, hsweep⟩ => by simp [h] at hsweep

theorem checkHalt_of_no_sweep {s : State} (h : s.intake.sweep.active = false) : checkHalt s = s.setRegs { s.regs with
    engine := if s.regs.engine = .draining ∧ s.intake.inHand = [] ∧ s.mirror.marks = none then .halted
      else s.regs.engine } := by
  simp only [checkHalt, h, and_true]
  split <;> rfl

theorem startAnswerWrite_of_none {s : State} (h : s.intake.formed = []) : startAnswerWrite s = s := by
  simp only [startAnswerWrite, h, ite_self]

theorem startAnswerWrite_of_sweeping {s : State} (h : s.intake.sweep.active = true) : startAnswerWrite s = s :=
  if_neg fun ⟨_, _, hsweep⟩ => by simp [h] at hsweep

theorem startAnswerWrite_of_formed {s : State} {next : Nat} {rest : List Nat} {a : List Byte}
    (hengine : s.regs.engine = .running ∨ s.regs.engine = .draining) (hwriting : s.intake.writing = false)
    (hsweep : s.intake.sweep.active = false) (hformed : s.intake.formed = next :: rest)
    (ha : s.intake.answerOf next = some a) : startAnswerWrite s =
      ask .intake (bodyWrite s (.answerHalf next) next a) (s.setIntake { s.intake with writing := true }) := by
  rw [startAnswerWrite, if_pos ⟨hengine, hwriting, hsweep⟩, hformed]
  simp only [ha]
  rfl

theorem inHand_ne_nil_of_answerOf {k : Intake} {slot : Nat} {a : List Byte} (h : k.answerOf slot = some a) : k.inHand ≠ [] := by
  intro hnil
  simp [Intake.answerOf, Intake.entryOf, hnil] at h

theorem proceedAnswers_of_not_held {s : State} (h : s.intake.recovery ≠ some (.answers 0)) :
    proceedAnswers s = startAnswerWrite s := by
  unfold proceedAnswers
  split
  next hheld => exact absurd hheld h
  next => rfl

/-- After the last held answer the recovery goes on with step 2 (R172). -/
theorem proceedAnswers_of_held {s : State} (h : s.intake.recovery = some (.answers 0)) (hformed : s.intake.formed = []) :
    proceedAnswers s = recoverUnread s.intake.unreadSlots s := by
  obtain ⟨-, hnone⟩ := recoverUnread_lists s.intake.unreadSlots s
  rw [proceedAnswers, h]
  exact startAnswerWrite_of_none (hnone.trans hformed)

/-- What is left of the recovery once an answer is written (R172). -/
def recoveryAfter : Option Recovery → Option Recovery
  | some (.answers (n + 1)) => some (.answers n)
  | other => other

/-- The intake once the answer of slot `slot` is written: `formed` are the answers left, `after` what is left of the recovery. -/
def Intake.answered (k : Intake) (slot : Nat) (formed : List Nat) (after : Option Recovery) : Intake :=
  { k with
    inHand := k.inHand.filter (fun e => decide (e.slot ≠ slot)), formed := formed, writing := false, recovery := after }

theorem dropWritten_eq {k : Intake} {slot : Nat} {formed : List Nat} {after : Option Recovery}
    (hformed : k.formed.filter (fun i => decide (i ≠ slot)) = formed) (hafter : recoveryAfter k.recovery = after) :
    k.dropWritten slot = k.answered slot formed after := by
  subst hformed hafter
  rfl

theorem formed_of_head {k : Intake} {slot : Nat} {rest : List Nat} (hformed : k.formed = slot :: rest) (hrest : slot ∉ rest) :
    k.formed.filter (fun i => decide (i ≠ slot)) = rest := by
  rw [hformed, List.filter_cons_of_neg (by simp), List.filter_eq_self.2 fun i hi => ?_]
  exact decide_eq_true fun h => hrest (h ▸ hi)

theorem answerOf_answered {k : Intake} {slot next : Nat} (h : slot ≠ next) (formed : List Nat) (after : Option Recovery) :
    (k.answered slot formed after).answerOf next = k.answerOf next := by
  have hentry : (k.answered slot formed after).entryOf next = k.entryOf next := by
    simp only [Intake.entryOf, Intake.answered, List.find?_filter]
    congr 1
    funext e
    by_cases he : e.slot = next <;> simp [he, Ne.symm h]
  rw [Intake.answerOf, hentry, Intake.answerOf]

section
variable {w : State}

/-- The next formed answer is written (R161). -/
theorem goesOn_of_formed {next : Nat} {rest : List Nat} {a : List Byte} (hheld : w.intake.recovery ≠ some (.answers 0))
    (hengine : w.regs.engine = .running ∨ w.regs.engine = .draining) (hwriting : w.intake.writing = false)
    (hsweep : w.intake.sweep.active = false) (hformed : w.intake.formed = next :: rest)
    (ha : w.intake.answerOf next = some a) : checkHalt (proceedAnswers w) =
      ask .intake (bodyWrite w (.answerHalf next) next a) (w.setIntake { w.intake with writing := true }) := by
  rw [proceedAnswers_of_not_held hheld, startAnswerWrite_of_formed hengine hwriting hsweep hformed ha]
  refine checkHalt_of_inHand ?_
  simpa using inHand_ne_nil_of_answerOf ha

/-- With no answer left a DRAINING engine with nothing in hand halts (R170). -/
theorem goesOn_of_none (hheld : w.intake.recovery ≠ some (.answers 0)) (hsweep : w.intake.sweep.active = false)
    (hformed : w.intake.formed = []) : checkHalt (proceedAnswers w) = w.setRegs { w.regs with
      engine := if w.regs.engine = .draining ∧ w.intake.inHand = [] ∧ w.mirror.marks = none then .halted
        else w.regs.engine } := by
  rw [proceedAnswers_of_not_held hheld, startAnswerWrite_of_none hformed, checkHalt_of_no_sweep hsweep]

/-- While a sweep is made the next answer waits (R176). -/
theorem goesOn_of_sweeping (hheld : w.intake.recovery ≠ some (.answers 0)) (hsweep : w.intake.sweep.active = true) :
    checkHalt (proceedAnswers w) = w := by
  rw [proceedAnswers_of_not_held hheld, startAnswerWrite_of_sweeping hsweep, checkHalt_of_sweeping hsweep]

section
variable (hheld : w.intake.recovery = some (.answers 0)) (hformed : w.intake.formed = [])
include hheld hformed

/-- After the last held answer TAKEN is written again for the first UNREAD entry (R172). -/
theorem goesOn_of_unread {x : Nat} {xs : List Nat} (hunread : w.intake.unreadSlots = x :: xs) :
    checkHalt (proceedAnswers w) = ask .intake (stripWrite w (.taken x) x 2#8)
      (w.setIntake { w.intake with recovery := some (.unread (x :: xs)) }) := by
  have hinHand : w.intake.inHand ≠ [] := fun hnil => by simp [Intake.unreadSlots, hnil] at hunread
  rw [proceedAnswers_of_held hheld hformed, hunread, recoverUnread_cons]
  refine checkHalt_of_inHand ?_
  simpa using hinHand

/-- After the last held answer, with no UNREAD entry and no pass due, the recovery is over (R172). -/
theorem goesOn_of_recovered (hunread : w.intake.unreadSlots = []) (hdue : w.intake.passDue = false)
    (hsweep : w.intake.sweep.active = false) : checkHalt (proceedAnswers w) =
      (w.setIntake { w.intake with recovery := none }).setRegs { w.regs with
        engine := if w.regs.engine = .draining ∧ w.intake.inHand = [] ∧ w.mirror.marks = none then .halted
          else w.regs.engine } := by
  rw [proceedAnswers_of_held hheld hformed, hunread, recoverUnread_nil_of_quiet hdue, checkHalt_of_no_sweep (by exact hsweep)]
  rfl

/-- After the last held answer, with no UNREAD entry, a pass made due meanwhile starts (R172). -/
theorem goesOn_of_due (hunread : w.intake.unreadSlots = []) (hdue : w.intake.passDue = true)
    (hrunning : w.regs.engine = .running) (hpass : w.intake.pass = none) (hresume : w.intake.resume < 2 ^ w.regs.sizeExp) :
    PassStarts (w.setIntake { w.intake with recovery := none, passDue := false }) (checkHalt (proceedAnswers w))
      w.intake.resume := by
  rw [proceedAnswers_of_held hheld hformed, hunread, checkHalt_of_running (by simpa using hrunning)]
  exact recoverUnread_nil_of_due hdue hrunning hpass hresume

end

end

/-! ### Completed transfers of a pass and of an answer -/

theorem stripWrite_congr {u s : State} (hbase : u.regs.base = s.regs.base) (p : Purpose) (slot : Nat) (b : Byte) :
    stripWrite u p slot b = stripWrite s p slot b := by simp only [stripWrite, hbase]

theorem bodyWrite_congr {u s : State} (hbase : u.regs.base = s.regs.base) (p : Purpose) (slot : Nat) (a : List Byte) :
    bodyWrite u p slot a = bodyWrite s p slot a := by simp only [bodyWrite, hbase]

theorem stripRead_of_pass {s : State} {p : Pass} (h : s.intake.pass = some p) (codes : List Byte) :
    stripRead codes s = examineCodes codes p s := by
  rw [stripRead, h]

section
variable {s v : State} (hregs : v.regs = s.regs)
include hregs

theorem takenWritten_eq (slot : Nat) : takenWritten slot v = ask .intake (bodyRead s (.requestHalf slot) slot 64) v := by
  simp only [takenWritten, areaAddr, hregs]
  rfl

theorem answerHalfWritten_eq (slot : Nat) :
    answerHalfWritten slot v = ask .intake (stripWrite s (.answered slot) slot 3#8) v := by
  simp only [answerHalfWritten, areaAddr, hregs]
  rfl

end

/-- The machine `v` with the ANSWERS bit set, and the close settled when the answer of slot `slot` is a CLOSE PERIOD's OK, as
seen from an earlier machine `s` (R152, R161). -/
def answersRaised (s v : State) (slot : Nat) : State :=
  if s.intake.isCloseOk slot then ((raiseBit .answers v).setBackup { s.backup with closeRecord := none }).setCarrierJob none
  else raiseBit .answers v

theorem dropAnswered_eq {s v : State} (hintake : v.intake = s.intake) (hbackup : v.backup = s.backup) (slot : Nat) :
    dropAnswered slot v = (answersRaised s v slot).setIntake (s.intake.dropWritten slot) := by
  have hraised : (raiseBit .answers v).backup = s.backup := by simp [hbackup]
  rw [dropAnswered, answersRaised, hintake, settleClose, hraised]

/-- What of the machine the next stage reads is as it was. -/
theorem answersRaised_reads (s v : State) (slot : Nat) : (answersRaised s v slot).regs.engine = v.regs.engine ∧
    (answersRaised s v slot).regs.base = v.regs.base ∧ (answersRaised s v slot).regs.sizeExp = v.regs.sizeExp ∧
    (answersRaised s v slot).mirror = v.mirror := by
  obtain ⟨hengine, hbase, hsize, -⟩ := raiseBit_exchange .answers v
  have hmirror : (raiseBit .answers v).mirror = v.mirror := by simp
  unfold answersRaised
  split <;> exact ⟨hengine, hbase, hsize, hmirror⟩

/-- Settles O54, by what the completed transfer was for; after an ANSWERED byte, by what the recovery and the formed order hold. -/
theorem transfersCarryRequestsThrough : Obligations.TransfersCarryRequestsThrough := by
  intro s t ts data hcompletes v bytes
  obtain ⟨hintake, hregs⟩ : v.intake = s.intake ∧ v.regs = s.regs := afterTransfer_intake_regs ..
  have hexec : exec (.memoryBurstDone (.done data)) s = .next (serveNext .intake (completed t.purpose bytes v)) :=
    exec_memoryBurstDone_of_completes hcompletes
  refine ⟨fun first p hpurpose hpass hnext => ?_, fun slot hpurpose => ?_, fun slot d hpurpose hkind hnone => ?_,
    fun slot hpurpose => ?_, fun slot after hpurpose hengine => ?_⟩ <;> rw [hexec, hpurpose, completed]
  · rw [stripRead_of_pass (hintake ▸ hpass)]
    exact ⟨_, rfl, passGoesOn_examineCodes (hregs ▸ hnext) bytes⟩
  · rw [takenWritten_eq hregs]
  · obtain rfl : d = dispatch slot bytes v := by
      rw [dispatch]
      cases hk : kindOf bytes with
      | none => exact hnone hk
      | some k => rw [hkind k hk, hintake]; rfl
    have hdregs : (dispatch slot bytes v).regs = s.regs := by simp [hregs]
    obtain ⟨hpass', -, hdue', hresume'⟩ := dispatch_leaves slot bytes v
    rw [hintake] at hpass' hdue' hresume'
    clear hkind hnone
    refine ⟨fun p hpass htaking hnext => ?_, fun next rest hpass hrecovery => ?_, fun hpass hrecovery => ?_⟩
    · rw [requestRead_of_taking (hintake ▸ hpass) htaking]
      exact ⟨_, rfl, passGoesOn_examineCodes (hdregs ▸ hnext) _⟩
    · rw [requestRead_of_unread (hintake ▸ hpass) (hintake ▸ hrecovery), recoverUnread_cons,
        stripWrite_congr (congrArg Regs.base hdregs)]
    · rw [requestRead_of_unread (hintake ▸ hpass) (hintake ▸ hrecovery)]
      refine ⟨fun hdue => ?_, fun hdue hrunning hresume => ?_⟩
      · have hquiet := hdue'.trans hdue
        rw [recoverUnread_nil_of_quiet hquiet, ← hquiet]
      · rw [← hresume'] at hresume ⊢
        rw [← hdregs] at hrunning hresume
        exact ⟨_, rfl, recoverUnread_nil_of_due (hdue'.trans hdue) hrunning (hpass'.trans hpass) hresume⟩
  · rw [answerHalfWritten_eq hregs]
  · intro b left unread dropped goesOn
    have hbackup : v.backup = s.backup := by simp [v, afterTransfer]
    have hmarks : v.mirror = s.mirror := by simp [v, afterTransfer]
    have hb : b = answersRaised s v slot := rfl
    obtain ⟨hbengine, hbbase, hbsize, hbmirror⟩ := answersRaised_reads s v slot
    rw [← hb, hregs] at hbengine hbbase hbsize
    rw [← hb, hmarks] at hbmirror
    rw [answeredWritten_eq, dropAnswered_eq hintake hbackup, ← hb]
    clear_value b
    have hgoes : goesOn → recoveryAfter s.intake.recovery = after ∧ after ≠ some (.answers 0) := by
      rintro (⟨hrecovery, rfl⟩ | ⟨n, hrecovery, rfl⟩ | ⟨slots, hrecovery, rfl⟩) <;> rw [hrecovery] <;> exact ⟨rfl, by simp⟩
    have hlast : s.intake.recovery = some (.answers 1) → s.intake.formed = [slot] →
        s.intake.dropWritten slot = s.intake.answered slot [] (some (.answers 0)) := fun hrecovery hformed =>
      dropWritten_eq (formed_of_head hformed List.not_mem_nil) (by rw [hrecovery]; rfl)
    refine ⟨fun next rest a hgo hsweep hformed hne hrest ha => ?_, ?_, fun x xs hrecovery hunread hafter hsweep hformed => ?_,
      fun hrecovery hunread hafter hdue hrunning hpass hresume hsweep hformed => ?_, fun hgo hsweep => ?_⟩
    · obtain ⟨hafter, hheld⟩ := hgoes hgo
      rw [dropWritten_eq (formed_of_head hformed (List.not_mem_cons_of_ne_of_not_mem hne hrest)) hafter,
        goesOn_of_formed (w := b.setIntake (s.intake.answered slot (next :: rest) after)) hheld (hbengine ▸ hengine) rfl hsweep rfl
          ((answerOf_answered hne _ _).trans ha), bodyWrite_congr (by exact hbbase)]
      rfl
    · rintro (hgo | ⟨hrecovery, hunread, hdue, hafter⟩) hsweep hformed
      · obtain ⟨hafter, hheld⟩ := hgoes hgo
        rw [dropWritten_eq (formed_of_head hformed List.not_mem_nil) hafter,
          goesOn_of_none (w := b.setIntake (s.intake.answered slot [] after)) hheld hsweep rfl, ← hbengine, ← hbmirror]
        rfl
      · rw [hlast hrecovery hformed, goesOn_of_recovered (w := b.setIntake (s.intake.answered slot [] (some (.answers 0)))) rfl
          rfl hunread hdue hsweep, ← hbengine, ← hbmirror]
        simp only [dropped, hafter]
        rfl
    · rw [hlast hrecovery hformed, goesOn_of_unread (w := b.setIntake (s.intake.answered slot [] (some (.answers 0)))) rfl rfl
        hunread, stripWrite_congr (by exact hbbase)]
      simp only [dropped, hafter]
      rfl
    · rw [hlast hrecovery hformed]
      have hstarts := goesOn_of_due (w := b.setIntake (s.intake.answered slot [] (some (.answers 0)))) rfl rfl hunread hdue
        (hbengine.trans hrunning) hpass (by exact hbsize ▸ hresume)
      simp only [dropped, hafter]
      exact ⟨_, rfl, hstarts⟩
    · obtain ⟨hafter, hheld⟩ := hgoes hgo
      rw [dropWritten_eq rfl hafter, goesOn_of_sweeping (w := b.setIntake (s.intake.answered slot _ after)) hheld hsweep]
      rfl

end Sys2Proof.Machine
end

section
/-! PROOFS. Every step keeps the register window legal, and at most 64 requests in hand, no two of one slot (R157, R159, R161,
R168 to R172). -/

namespace Sys2Proof.Machine

/-! ### The registers (R168 to R171) -/

theorem Regs.Legal.raised {r : Regs} (h : r.Legal) (b : AttentionBit) :
    Regs.Legal { r.setAttention b with attnLine := true } := by
  obtain ⟨hbase, hlow, hhigh, hshort, hlong, hburst, hrun, -⟩ := h
  cases b <;> exact ⟨hbase, hlow, hhigh, hshort, hlong, hburst, hrun, fun _ => by
    simp [Regs.setAttention, Regs.anyAttention]⟩

/-- The engine and RUN move together (R170). -/
theorem Regs.Legal.withEngine {r : Regs} (h : r.Legal) {run : Bool} {e : Engine} (hrun : run = true ↔ e = .running) :
    Regs.Legal { r with run := run, engine := e } := by
  obtain ⟨hbase, hlow, hhigh, hshort, hlong, hburst, -, hline⟩ := h
  exact ⟨hbase, hlow, hhigh, hshort, hlong, hburst, hrun, hline⟩

/-- RUN 0 and an engine that does not run (R170). -/
theorem Regs.Legal.stopped {r : Regs} (h : r.Legal) {e : Engine} (he : e ≠ .running) :
    Regs.Legal { r with run := false, engine := e } :=
  h.withEngine ⟨nofun, fun hrunning => absurd hrunning he⟩

theorem Regs.Legal.run_eq_false {r : Regs} (h : r.Legal) (he : r.engine ≠ .running) : r.run = false := by
  obtain ⟨-, -, -, -, -, -, hrun, -⟩ := h
  exact Bool.eq_false_iff.2 fun hset => he (hrun.1 hset)

theorem Regs.Legal.withInterval {r : Regs} (h : r.Legal) (n : Nat) :
    Regs.Legal { r with interval := max 1 (min n 32) } := by
  obtain ⟨hbase, hlow, hhigh, -, -, hburst, hrun, hline⟩ := h
  exact ⟨hbase, hlow, hhigh, Nat.le_max_left _ _, Nat.max_le.2 ⟨by decide, Nat.min_le_right _ _⟩, hburst, hrun, hline⟩

theorem Regs.Legal.withBurst {r : Regs} (h : r.Legal) {n : Nat} (hn : n ≤ 3) : Regs.Legal { r with burst := n } := by
  obtain ⟨hbase, hlow, hhigh, hshort, hlong, -, hrun, hline⟩ := h
  exact ⟨hbase, hlow, hhigh, hshort, hlong, hn, hrun, hline⟩

theorem Regs.Legal.withBase {r : Regs} (h : r.Legal) (value : Word) :
    Regs.Legal { r with base := value &&& 0xFFFFF000#32 } := by
  obtain ⟨-, hrest⟩ := h
  refine ⟨?_, hrest⟩
  have hmasked : (value.toNat &&& 0xFFFFF000) % 2 ^ 12 = 0 := by
    rw [Nat.and_mod_two_pow]
    exact Nat.and_zero _
  exact hmasked

theorem Regs.Legal.withSize {r : Regs} (h : r.Legal) (n : Nat) : Regs.Legal { r with sizeExp := max 6 (min n 12) } := by
  obtain ⟨hbase, -, -, hrest⟩ := h
  exact ⟨hbase, Nat.le_max_left _ _, Nat.max_le.2 ⟨by decide, Nat.min_le_right _ _⟩, hrest⟩

/-- Whatever bits and mode are stored, the line follows them in LATCHED mode (R171). -/
theorem Regs.Legal.latched {r : Regs} (h : r.Legal) (pulse answers events fault line : Bool) :
    (Regs.latch { r with pulse := pulse, answers := answers, events := events, fault := fault } line).Legal := by
  obtain ⟨hbase, hlow, hhigh, hshort, hlong, hburst, hrun, -⟩ := h
  refine ⟨hbase, hlow, hhigh, hshort, hlong, hburst, hrun, fun hlatched => ?_⟩
  exact if_neg (by simpa [Regs.latch] using hlatched)

theorem Regs.Legal.pulseEnded {r : Regs} (h : r.Legal) (hpulse : r.pulse = true) : Regs.Legal { r with attnLine := false } := by
  obtain ⟨hbase, hlow, hhigh, hshort, hlong, hburst, hrun, -⟩ := h
  exact ⟨hbase, hlow, hhigh, hshort, hlong, hburst, hrun, fun hlatched => by simp [hpulse] at hlatched⟩

/-! ### The slots in hand (R157) -/

/-- The slots of the requests in hand, in taking order. -/
def Intake.slots (k : Intake) : List Nat := k.inHand.map Entry.slot

theorem Intake.bounded_iff {k : Intake} : k.Bounded ↔ k.slots.length ≤ 64 ∧ k.slots.Nodup := by
  rw [Intake.Bounded, Intake.slots, List.length_map]

theorem Intake.slots_congr {j k : Intake} (h : j.inHand = k.inHand) : j.slots = k.slots := congrArg (List.map Entry.slot) h

/-- A change of phase is no change of the slots in hand. -/
theorem Intake.slots_setPhase (k : Intake) (slot : Nat) (p : Phase) : (k.setPhase slot p).slots = k.slots := by
  simp only [Intake.slots, Intake.setPhase, List.map_map]
  refine List.map_congr_left fun e _ => ?_
  rw [Function.comp_apply]
  split <;> rfl

/-- A slot not in hand is taken while fewer than 64 requests are (R159). -/
theorem Intake.Bounded.joined {k : Intake} (h : k.Bounded) (hroom : k.inHand.length < 64) {slot : Nat}
    (hnew : k.entryOf slot = none) (pass : Option Pass) :
    Intake.Bounded { k with inHand := k.inHand ++ [{ slot := slot, phase := .unread }], pass := pass } := by
  have hslot : slot ∉ k.inHand.map Entry.slot := fun hmem => by
    obtain ⟨e, he, hslot⟩ := List.mem_map.1 hmem
    exact entryOf_eq_none_iff.1 hnew e he hslot
  refine ⟨by simpa using hroom, ?_⟩
  rw [List.map_append, List.nodup_append]
  exact ⟨h.2, by simp, by simpa using hslot⟩

/-- An entry leaves the list (R161). -/
theorem Intake.Bounded.dropWritten {k : Intake} (h : k.Bounded) (slot : Nat) : (k.dropWritten slot).Bounded := by
  obtain ⟨hlength, hnodup⟩ := h
  have hsub : (k.dropWritten slot).inHand.Sublist k.inHand := List.filter_sublist
  exact ⟨hsub.length_le.trans hlength, (hsub.map _).nodup hnodup⟩

/-! ### Operations that leave the slots in hand -/

@[simp] theorem slots_startAnswerWrite (s : State) : (startAnswerWrite s).intake.slots = s.intake.slots :=
  Intake.slots_congr (startAnswerWrite_lists s).1

@[simp] theorem slots_formAnswer (slot : Nat) (req answer : List Byte) (s : State) :
    (formAnswer slot req answer s).intake.slots = s.intake.slots :=
  (slots_startAnswerWrite _).trans (s.intake.slots_setPhase slot _)

@[simp] theorem slots_reply (slot : Nat) (req : List Byte) (code : Code) (detail : Nat) (fields : List Field) (s : State) :
    (reply slot req code detail fields s).intake.slots = s.intake.slots := slots_formAnswer _ _ _ s

@[simp] theorem slots_markBegun (slot : Nat) (req : List Byte) (s : State) :
    (markBegun slot req s).intake.slots = s.intake.slots := s.intake.slots_setPhase slot _

@[simp] theorem slots_dispatch (slot : Nat) (req : List Byte) (s : State) :
    (dispatch slot req s).intake.slots = s.intake.slots := by
  unfold dispatch
  split
  · exact s.intake.slots_setPhase slot _
  · exact slots_reply ..

@[simp] theorem slots_restartTimer (s : State) : (restartTimer s).intake.slots = s.intake.slots := rfl

@[simp] theorem slots_setSweep (w : Sweep) (s : State) : (setSweep w s).intake.slots = s.intake.slots := rfl

@[simp] theorem slots_startRecovery (s : State) : (startRecovery s).intake.slots = s.intake.slots := rfl

@[simp] theorem slots_askStrip (p : Pass) (s : State) : (askStrip p s).intake.slots = s.intake.slots :=
  Intake.slots_congr (by simp [askStrip])

@[simp] theorem slots_startPass (s : State) : (startPass s).intake.slots = s.intake.slots := slots_askStrip _ s

@[simp] theorem slots_passFallsDue (s : State) : (passFallsDue s).intake.slots = s.intake.slots := by
  unfold passFallsDue
  split
  · rfl
  · exact slots_startPass s

@[simp] theorem slots_endPass (resume : Nat) (s : State) : (endPass resume s).intake.slots = s.intake.slots := by
  unfold endPass
  dsimp only
  split
  · exact slots_passFallsDue _
  · rfl

@[simp] theorem slots_launchDuePass (s : State) : (launchDuePass s).intake.slots = s.intake.slots :=
  Intake.slots_congr (launchDuePass_lists s).1

@[simp] theorem slots_recoverUnread (slots : List Nat) (s : State) : (recoverUnread slots s).intake.slots = s.intake.slots :=
  Intake.slots_congr (recoverUnread_lists slots s).1

@[simp] theorem slots_proceedAnswers (s : State) : (proceedAnswers s).intake.slots = s.intake.slots :=
  Intake.slots_congr (proceedAnswers_lists s).1

@[simp] theorem slots_requestRescan (s : State) : (requestRescan s).intake.slots = s.intake.slots := rfl

@[simp] theorem slots_scanTimerOut (s : State) : (scanTimerOut s).intake.slots = s.intake.slots := by
  unfold scanTimerOut
  dsimp only
  split
  · rfl
  split
  · rfl
  · exact slots_passFallsDue _

/-! ### From one machine to another -/

/-- The register window that is legal in `s` is so in `t`, and the in-hand list that is within its bounds in `s` is so in `t`. -/
structure WindowStays (s t : State) : Prop where
  regs : s.regs.Legal → t.regs.Legal
  inHand : s.intake.Bounded → t.intake.Bounded

theorem WindowStays.refl (s : State) : WindowStays s s := ⟨id, id⟩

theorem WindowStays.trans {s t u : State} (h : WindowStays s t) (k : WindowStays t u) : WindowStays s u :=
  ⟨k.regs ∘ h.regs, k.inHand ∘ h.inHand⟩

theorem WindowStays.ite {c : Prop} [Decidable c] {s t u : State} (h : WindowStays s t) (k : WindowStays s u) :
    WindowStays s (if c then t else u) := by
  split
  · exact h
  · exact k

/-- A machine with the same slots in hand. -/
theorem WindowStays.of_regs {s t : State} (hregs : s.regs.Legal → t.regs.Legal)
    (hslots : t.intake.slots = s.intake.slots) : WindowStays s t :=
  ⟨hregs, fun h => Intake.bounded_iff.2 (hslots ▸ Intake.bounded_iff.1 h)⟩

/-- A machine with the same registers and the same slots in hand. -/
theorem WindowStays.same {s t : State} (h : t.regs = s.regs ∧ t.intake.slots = s.intake.slots) : WindowStays s t :=
  .of_regs (h.1 ▸ id) h.2

/-- What leaves the registers and the slots in hand alone may follow. -/
theorem WindowStays.andThen {s t u : State} (h : WindowStays s t) (k : u.regs = t.regs ∧ u.intake.slots = t.intake.slots) :
    WindowStays s u := h.trans (.same k)

theorem WindowStays.reply {s t : State} (h : WindowStays s t) {slot : Nat} {req : List Byte} {code : Code} {detail : Nat}
    {fields : List Field} : WindowStays s (reply slot req code detail fields t) := h.andThen (by simp)

/-- A write of the registers. -/
theorem windowStays_setRegs {r : Regs} {s : State} (h : s.regs.Legal → r.Legal) : WindowStays s (s.setRegs r) := ⟨h, id⟩

theorem windowStays_serve {k : Kind} {f : Nat → List Byte → State → State} {s t : State}
    (hf : ∀ slot req, WindowStays s (f slot req s)) (h : serve k f s = .next t) : WindowStays s t := by
  unfold serve at h
  split at h
  · exact Host.Outcome.next.inj h ▸ hf _ _
  · exact Host.Outcome.next.inj h ▸ .refl s

/-- An event that happens only where `c` holds. -/
theorem windowStays_event {c : Prop} [Decidable c] {s t u : State} (hu : c → WindowStays s u)
    (h : (Host.Outcome.next (if c then u else s) : Result) = .next t) : WindowStays s t := by
  rw [← Host.Outcome.next.inj h]
  split
  next hc => exact hu hc
  next => exact .refl s

theorem windowStays_callRequest {k : Kind} {rule : Nat → List Byte → Nat → Context → State → State} {s : State}
    (hrule : ∀ slot req i c, WindowStays s (rule slot req i c s)) (slot : Nat) (req : List Byte) :
    WindowStays s (callRequest k rule slot req s) := by
  unfold callRequest
  split
  · exact .same (by simp)
  split
  · exact .same (by simp)
  · exact hrule _ _ _ _

/-! ### Causes of attention, and the halt (R170, R171) -/

theorem windowStays_raiseBit (b : AttentionBit) (s : State) : WindowStays s (raiseBit b s) :=
  .ite (.refl s) (windowStays_setRegs fun h => h.raised b)

theorem windowStays_statusEvent (s : State) : WindowStays s (statusEvent s) := windowStays_raiseBit .events s

theorem windowStays_statusEvents (n : Nat) (s : State) : WindowStays s (statusEvents n s) := by
  induction n generalizing s with
  | zero => exact .refl s
  | succ n ih => exact (windowStays_statusEvent s).trans (ih _)

theorem windowStays_checkHalt (s : State) : WindowStays s (checkHalt s) := by
  unfold checkHalt
  split
  next hidle =>
    have hstopped : s.regs.engine ≠ .running := by simp [hidle.1]
    exact windowStays_setRegs fun h => h.withEngine (by simp [h.run_eq_false hstopped])
  next => exact .refl s

/-! ### Status events of the other blocks (R48, R56, R110, R125, R146) -/

theorem windowStays_putSums (c : Nat) (v : Sums) (s : State) : WindowStays s (putSums c v s) :=
  (WindowStays.same (s := s) (by simp)).trans (windowStays_statusEvents _ (putSettlement c { s.settlement c with sums := v } s))

theorem windowStays_handTotal (c : Nat) (d : Direction) (p : Option Price) (s : State) : WindowStays s (handTotal c d p s) := by
  cases p with
  | none => exact .refl s
  | some x => exact windowStays_putSums c _ s

theorem windowStays_restoreSums (taken : Table Sums) (s : State) : WindowStays s (restoreSums taken s) := by
  induction taken generalizing s with
  | nil => exact .refl s
  | cons e taken ih => exact (windowStays_putSums e.1 _ s).trans (ih _)

theorem windowStays_restoreClose (s : State) : WindowStays s (restoreClose s) := by
  unfold restoreClose
  split
  · exact (WindowStays.same (s := s) (by simp)).trans (windowStays_restoreSums _ (s.setBackup _))
  · exact .refl s

theorem windowStays_installGap (code : List Nat) (s : State) : WindowStays s (installGap code s) :=
  .ite ((WindowStays.same (s := s) (by simp)).trans (windowStays_statusEvent (addGap _ s))) (.refl s)

theorem windowStays_makeReports (renew install : Option (List Nat)) (s : State) :
    WindowStays s (makeReports renew install s) := by
  have hrenewed : ∀ code, WindowStays s (renewGap code s) := fun _ => .same (by simp)
  cases renew with
  | none =>
    cases install with
    | none => exact .refl s
    | some code => exact windowStays_installGap code s
  | some renewed =>
    cases install with
    | none => exact hrenewed renewed
    | some code => exact (hrenewed renewed).trans (windowStays_installGap code _)

theorem windowStays_activate (c : Nat) (d : Direction) (t : Tariffs) (s : State) : WindowStays s (activate c d t s) := by
  have hregs : (activate c d t s).regs = (statusEvent s).regs := by rw [activate_eq]; rfl
  exact .of_regs (fun h => hregs ▸ (windowStays_statusEvent s).regs h) (by simp)

theorem windowStays_takeHanded (c : Nat) (d : Direction) (s : State) : WindowStays s (takeHanded c d s) := by
  unfold takeHanded
  split
  · exact .ite (windowStays_activate _ _ _ s) (.refl s)
  · exact .refl s

theorem windowStays_takeAllHanded (cs : List Nat) (s : State) : WindowStays s (takeAllHanded cs s) := by
  induction cs generalizing s with
  | nil => exact .refl s
  | cons c cs ih => exact ((windowStays_takeHanded c _ s).trans (windowStays_takeHanded c _ _)).trans (ih _)

theorem windowStays_evaluateGroups (s : State) : WindowStays s (evaluateGroups s) := by
  obtain ⟨-, -, -, -, -, hturned, hsame, -, -⟩ := evaluateGroups_spec s
  refine .of_regs (fun h => ?_) (by simp)
  by_cases hturns : ∃ g < 1024, (s.group g).turns = true
  · rw [hturned hturns]
    exact (windowStays_statusEvent s).regs h
  · have hquiet : ∀ g < 1024, (s.group g).turns = false := fun g hg =>
      Bool.eq_false_iff.2 fun hturn => hturns ⟨g, hg, hturn⟩
    rw [hsame hquiet]
    exact h

theorem windowStays_endPeriod (s : State) : WindowStays s (endPeriod s) := by
  refine .of_regs (fun h => ?_) (by simp)
  rw [endPeriod_regs]
  exact (windowStays_evaluateGroups s).regs h

theorem windowStays_changeReference (r : Reference) (s : State) : WindowStays s (changeReference r s) :=
  (WindowStays.same (s := s) (by simp)).trans (windowStays_statusEvent (s.setClock _))

theorem windowStays_loseReference (s : State) : WindowStays s (loseReference s) :=
  (windowStays_changeReference .freeRunning s).andThen (by simp [loseReference])

/-! ### Time (R100, R109) -/

theorem windowStays_settleTick (s : State) : WindowStays s (settleTick s) := by
  have htaken : ∀ cs is js : List Nat, WindowStays s (markAllLong js (expireAll is (takeAllHanded cs (removeLapsed s)))) :=
    fun cs is js => ((WindowStays.same (t := removeLapsed s) (by simp)).trans (windowStays_takeAllHanded cs _)).andThen
      (by simp)
  exact .ite ((htaken _ _ _).trans (windowStays_endPeriod _)) (htaken _ _ _)

theorem windowStays_advanceTick (s : State) : WindowStays s (advanceTick s) :=
  (windowStays_settleTick s).andThen (by simp [advanceTick])

theorem windowStays_settleSlot (s : State) : WindowStays s (settleSlot s) := by
  have hreference : WindowStays s
      (if lossDue s then loseReference s else if lockDue s then changeReference .locked s else s) :=
    .ite (windowStays_loseReference s) (.ite (windowStays_changeReference _ s) (.refl s))
  have hticked : ∀ v, WindowStays v (if tickDue v then advanceTick v else v) := fun v =>
    .ite (windowStays_advanceTick v) (.refl v)
  have htenth : ∀ v, WindowStays v (if tenthDue v then advanceTenth v else v) := fun v => .ite (.same (by simp)) (.refl v)
  exact (hreference.trans (hticked _)).trans (htenth _)

/-! ### Requests with their owners (R160, R161) -/

section
variable (slot : Nat) (req : List Byte) (s : State)

@[simp] theorem slots_serveSetGroup : (serveSetGroup slot req s).intake.slots = s.intake.slots := by
  unfold serveSetGroup
  dsimp only
  split
  · simp
  split
  · simp
  split <;> simp

@[simp] theorem slots_serveBlocking (k : Kind) (applied : Group → Nat → Nat) (after : Group → Nat → Group) :
    (serveBlocking k applied after slot req s).intake.slots = s.intake.slots := by
  unfold serveBlocking
  dsimp only
  split
  · simp
  split <;> simp

@[simp] theorem slots_serveSetSupervision : (serveSetSupervision slot req s).intake.slots = s.intake.slots := by
  unfold serveSetSupervision
  split <;> simp

@[simp] theorem slots_serveSetGap : (serveSetGap slot req s).intake.slots = s.intake.slots := by
  unfold serveSetGap
  split
  · simp
  split
  · simp
  dsimp only
  split
  · simp
  split <;> simp

@[simp] theorem slots_serveClearGap : (serveClearGap slot req s).intake.slots = s.intake.slots := by
  unfold serveClearGap
  split
  · simp
  split
  · simp
  split <;> simp

@[simp] theorem slots_serveSetCalendar : (serveSetCalendar slot req s).intake.slots = s.intake.slots := by
  unfold serveSetCalendar
  split
  · simp
  split <;> simp

@[simp] theorem slots_serveAlignMinute : (serveAlignMinute slot req s).intake.slots = s.intake.slots := by
  unfold serveAlignMinute
  split
  · simp
  split <;> simp

@[simp] theorem slots_serveSetCarrier : (serveSetCarrier slot req s).intake.slots = s.intake.slots := by
  unfold serveSetCarrier
  dsimp only
  split
  · simp
  split <;> simp

@[simp] theorem slots_serveLoadTariff : (serveLoadTariff slot req s).intake.slots = s.intake.slots := by
  unfold serveLoadTariff
  split
  · simp
  split
  · simp
  split
  · simp
  split <;> simp

@[simp] theorem slots_closeOne (c : Nat) : (closeOne slot req c s).intake.slots = s.intake.slots := by simp [closeOne]

@[simp] theorem slots_closeAll (addr : Word) : (closeAll slot req addr s).intake.slots = s.intake.slots := by simp [closeAll]

@[simp] theorem slots_serveClosePeriod : (serveClosePeriod slot req s).intake.slots = s.intake.slots := by
  unfold serveClosePeriod
  dsimp only
  split
  · simp
  split
  · simp
  split
  · split <;> simp
  split <;> simp

@[simp] theorem slots_serveSetCallTimers : (serveSetCallTimers slot req s).intake.slots = s.intake.slots := by
  unfold serveSetCallTimers
  split <;> simp

@[simp] theorem slots_tooLate (i : Nat) (call : Call) (deadline : Tick) :
    (tooLate slot req i call deadline s).intake.slots = s.intake.slots := by simp [tooLate]

@[simp] theorem slots_confirmRule (i : Nat) (c : Context) : (confirmRule slot req i c s).intake.slots = s.intake.slots := by
  unfold confirmRule
  split
  · dsimp only
    split <;> simp
  · simp
  · simp

@[simp] theorem slots_answerRule (i : Nat) (c : Context) : (answerRule slot req i c s).intake.slots = s.intake.slots := by
  unfold answerRule
  split <;> simp

@[simp] theorem slots_queryRule (i : Nat) (c : Context) : (queryRule slot req i c s).intake.slots = s.intake.slots := by
  unfold queryRule
  split <;> simp

@[simp] theorem slots_crankContinue (i : Nat) (call : Call) : (crankContinue slot req i call s).intake.slots = s.intake.slots := by
  unfold crankContinue
  dsimp only
  split
  · simp
  split
  next hseize => simp [seize_leaves hseize]
  next hseize => simp [seize_leaves hseize]

@[simp] theorem slots_crankbackRule (i : Nat) (c : Context) : (crankbackRule slot req i c s).intake.slots = s.intake.slots := by
  unfold crankbackRule
  split <;> simp

@[simp] theorem slots_admitRoute (through : Option (List Nat × GapOrigin)) :
    (admitRoute slot req through s).intake.slots = s.intake.slots := by simp [admitRoute]

@[simp] theorem slots_serveRoute : (serveRoute slot req s).intake.slots = s.intake.slots := by
  unfold serveRoute
  split
  · simp
  split
  · simp
  split
  · simp
  split
  · simp
  split <;> simp

@[simp] theorem slots_serveSwitchPlan : (serveSwitchPlan slot req s).intake.slots = s.intake.slots := by
  unfold serveSwitchPlan
  dsimp only
  split
  · simp
  split <;> simp

@[simp] theorem slots_serveLoad (k : Kind) (fields : List Byte → Option LoadFields) :
    (serveLoad k fields slot req s).intake.slots = s.intake.slots := by
  unfold serveLoad
  split
  · simp
  split
  · simp
  split <;> simp

theorem windowStays_releaseRule (i : Nat) (c : Context) : WindowStays s (releaseRule slot req i c s) := by
  unfold releaseRule
  split
  next => exact .same (by simp)
  next => exact .same (by simp)
  next call a _ =>
    exact (((WindowStays.same (t := returnSeizure call.group s) (by simp)).trans
      (windowStays_handTotal call.origin .inbound (inboundPrice s.now call a) _)).trans
      (windowStays_handTotal (callOwner s call) .outbound (outboundPrice s.now call a) _)).andThen (by simp)
  next => exact .same (by simp)
  next => exact .same (by simp)

theorem windowStays_serveCancelTariff : WindowStays s (serveCancelTariff slot req s) := by
  have htaken := windowStays_takeHanded (byteAt req 8) (directionOf req) s
  unfold serveCancelTariff
  split
  · exact .same (by simp)
  split
  · exact .same (by simp)
  dsimp only
  split
  · exact htaken.andThen (by simp)
  · exact htaken.andThen (by simp)

end

/-! ### The stages of a ROUTE and of a load (R11, R70, R123, R151) -/

@[simp] theorem slots_finishRoute (job : RouteJob) (code : Code) (fields : List Field) (s : State) :
    (finishRoute job code fields s).intake.slots = s.intake.slots := by simp [finishRoute]

@[simp] theorem slots_walkGranted (job : RouteJob) (i dest : Nat) (c : Candidate) (s : State) :
    (walkGranted job i dest c s).intake.slots = s.intake.slots := by simp [walkGranted]

@[simp] theorem slots_walkRefused (job : RouteJob) (through : Option (List Nat × GapOrigin)) (dest : Nat) (e : Dest) (s : State) :
    (walkRefused job through dest e s).intake.slots = s.intake.slots := by
  unfold walkRefused
  dsimp only
  rw [apply_ite (fun t : State => t.intake.slots)]
  simp

@[simp] theorem slots_walk (job : RouteJob) (through : Option (List Nat × GapOrigin)) (s : State) :
    (walk job through s).intake.slots = s.intake.slots := by
  unfold walk
  split
  next => simp
  next e dest _ =>
    dsimp only
    split
    · simp
    split
    · simp
    next i s1 halloc =>
      have htaken : s1.intake = s.intake := by simp [allocate_keeps halloc]
      split
      next hseize => simp [seize_leaves hseize, htaken]
      next hseize => simp [seize_leaves hseize, htaken]

@[simp] theorem slots_finishLoad (l : Load) (code : Code) (record : Nat) (fields : List Field) (s : State) :
    (finishLoad l code record fields s).intake.slots = s.intake.slots := by simp [finishLoad]

@[simp] theorem slots_loadRead (l : Load) (bytes : List Byte) (s : State) : (loadRead l bytes s).intake.slots = s.intake.slots := by
  unfold loadRead
  dsimp only
  split
  · split
    · simp
    · split <;> simp
  · split <;> simp
  · split <;> simp
  · split <;> simp

@[simp] theorem slots_startHead (l : Load) (s : State) : (startHead l s).intake.slots = s.intake.slots := by
  unfold startHead
  split
  · simp
  split
  · simp
  unfold beginLoad
  split <;> simp

@[simp] theorem slots_loadBlockRead (bytes : List Byte) (s : State) : (loadBlockRead bytes s).intake.slots = s.intake.slots := by
  unfold loadBlockRead
  split <;> simp

@[simp] theorem slots_loadBlockFailed (s : State) : (loadBlockFailed s).intake.slots = s.intake.slots := by
  unfold loadBlockFailed
  split <;> simp

@[simp] theorem slots_tariffBlockFailed (s : State) : (tariffBlockFailed s).intake.slots = s.intake.slots := by
  unfold tariffBlockFailed
  split <;> simp

@[simp] theorem slots_resultWritten (s : State) : (resultWritten s).intake.slots = s.intake.slots := by
  unfold resultWritten
  split <;> simp

theorem windowStays_applyTariff (slot : Nat) (req : List Byte) (records : List BandRecord) (marks : List Bool) (s : State) :
    WindowStays s (applyTariff slot req records marks s) := by
  have htaken := windowStays_takeHanded (byteAt req 8) (directionOf req) s
  unfold applyTariff
  dsimp only
  split
  · exact (htaken.trans (windowStays_activate _ _ _ _)).reply
  · exact htaken.andThen (by simp)

theorem windowStays_tariffBlockRead (bytes : List Byte) (s : State) : WindowStays s (tariffBlockRead bytes s) := by
  unfold tariffBlockRead
  split
  next =>
    dsimp only
    split
    · exact .same (by simp)
    · exact (WindowStays.same (t := s.setCarrierJob none) (by simp)).trans (windowStays_applyTariff _ _ _ _ _)
  next => exact .refl s

theorem windowStays_resultFailed (s : State) : WindowStays s (resultFailed s) := by
  unfold resultFailed
  split
  · exact (windowStays_restoreClose s).andThen (by simp)
  · exact .refl s

/-! ### Passes (R158, R159) -/

theorem windowStays_takeSlot {slot : Nat} {s : State} (hnew : s.intake.entryOf slot = none)
    (hroom : s.intake.inHand.length < 64) (p : Pass) : WindowStays s (takeSlot slot p s) := by
  refine ⟨by simp, fun h => ?_⟩
  simpa [takeSlot] using h.joined hroom hnew (some { p with taking := some slot })

theorem windowStays_examineCodes (codes : List Byte) (p : Pass) (s : State) : WindowStays s (examineCodes codes p s) := by
  induction codes generalizing p with
  | nil => exact .ite (.same (by simp)) (.same (by simp))
  | cons c rest ih =>
    rw [examineCodes]
    split
    next hposted =>
      split
      next hroom => exact windowStays_takeSlot hposted.2 hroom _
      next => exact .same (by simp)
    next => exact ih _

theorem windowStays_stripRead (codes : List Byte) (s : State) : WindowStays s (stripRead codes s) := by
  unfold stripRead
  split
  · exact windowStays_examineCodes _ _ s
  · exact .refl s

theorem windowStays_requestRead (slot : Nat) (req : List Byte) (s : State) : WindowStays s (requestRead slot req s) := by
  have hdispatched : WindowStays s (dispatch slot req s) := .same (by simp)
  unfold requestRead
  dsimp only
  split
  · exact .ite (hdispatched.trans (windowStays_examineCodes _ _ _)) hdispatched
  split
  · exact .ite (hdispatched.andThen (by simp)) hdispatched
  · exact hdispatched

/-! ### Answers and the abort sweep (R161, R176) -/

theorem windowStays_answeredWritten (slot : Nat) (s : State) : WindowStays s (answeredWritten slot s) := by
  have hregs : (dropAnswered slot s).regs = (raiseBit .answers s).regs := by
    unfold dropAnswered
    split <;> simp
  have hdropped : WindowStays s (dropAnswered slot s) :=
    ⟨fun h => hregs ▸ (windowStays_raiseBit .answers s).regs h, fun h => h.dropWritten slot⟩
  rw [answeredWritten_eq]
  exact (hdropped.andThen (by simp)).trans (windowStays_checkHalt (proceedAnswers _))

theorem windowStays_finishSweep (s : State) : WindowStays s (finishSweep s) := by
  unfold finishSweep
  dsimp only
  split
  · have hproceeded : ∀ u : State, u.regs = s.regs ∧ u.intake.slots = s.intake.slots → WindowStays s (proceedAnswers u) :=
      fun u hu => (WindowStays.same hu).andThen (by simp)
    have hlaunched : ∀ u : State, WindowStays u (launchDuePass u) := fun _ => .same (by simp)
    refine .ite (hproceeded _ ?_) ((hproceeded _ ?_).trans (hlaunched _)) <;> exact ⟨rfl, rfl⟩
  · exact (WindowStays.same (by simp)).trans (windowStays_checkHalt (proceedAnswers (setSweep _ s)))

theorem windowStays_stopSweep (s : State) : WindowStays s (stopSweep s) :=
  (WindowStays.same (by simp)).trans (windowStays_checkHalt (proceedAnswers (setSweep _ s)))

theorem windowStays_sweepCodes (codes : List Byte) (s : State) : WindowStays s (sweepCodes codes s) := by
  induction codes generalizing s with
  | nil =>
    exact .ite (windowStays_finishSweep s) (.ite (windowStays_stopSweep s) (.same (by simp)))
  | cons c rest ih =>
    exact .ite (windowStays_stopSweep s) (.ite (.same (by simp))
      ((WindowStays.same (by simp)).trans (ih (setSweep _ s))))

theorem windowStays_startSweep (s : State) : WindowStays s (startSweep s) :=
  (WindowStays.same (by simp)).trans (windowStays_sweepCodes [] (setSweep _ s))

theorem windowStays_sweepAnsweredWritten (s : State) : WindowStays s (sweepAnsweredWritten s) :=
  ((windowStays_raiseBit .answers s).andThen (by simp)).trans (windowStays_sweepCodes _ (setSweep _ (raiseBit .answers s)))

/-! ### Faults (R162, R164, R170) -/

theorem windowStays_enterFault (kind : FaultKind) (slot : Nat) (failed : Option Nat) (s : State) :
    WindowStays s (enterFault kind slot failed s) := by
  have hregs : (enterFault kind slot failed s).regs = (raiseBit .fault (s.setRegs { s.regs with
      run := false, engine := .faulted, faultKind := kind, faultSlot := slot })).regs := by
    unfold enterFault
    dsimp only
    split <;> rfl
  have hslots : (enterFault kind slot failed s).intake.slots = s.intake.slots := by
    unfold enterFault
    dsimp only
    split <;> exact Intake.slots_congr (by simp)
  exact .of_regs (fun h => hregs ▸ (windowStays_raiseBit _ _).regs (h.stopped (by simp))) hslots

/-! ### Bursts (R163, R173) -/

theorem windowStays_mirrorClosed (s : State) : WindowStays s (mirrorClosed s) := by
  unfold mirrorClosed
  split
  next gs _ => exact (WindowStays.same (by simp)).trans (windowStays_checkHalt ((clearMarks gs s).setMirror _))
  next => exact .refl s

theorem windowStays_completed (p : Purpose) (bytes : List Byte) (s : State) : WindowStays s (completed p bytes s) := by
  cases p with
  | strip => exact windowStays_stripRead bytes s
  | requestHalf slot => exact windowStays_requestRead slot bytes s
  | answered slot => exact windowStays_answeredWritten slot s
  | sweepStrip => exact windowStays_sweepCodes bytes s
  | sweepAnswered => exact windowStays_sweepAnsweredWritten s
  | mirrorClose => exact windowStays_mirrorClosed s
  | tariffBlock => exact windowStays_tariffBlockRead bytes s
  | taken | answerHalf | sweepHeader | sweepAnswer | mirrorOpen | mirrorBody | loadBlock | resultBlock =>
    exact .same (by simp [completed])

theorem windowStays_transferFailed (p : Purpose) (s : State) : WindowStays s (transferFailed p s) := by
  cases p with
  | loadBlock | tariffBlock => exact .same (by simp [transferFailed])
  | resultBlock => exact windowStays_resultFailed s
  | strip | taken | requestHalf | answerHalf | answered | sweepStrip | sweepHeader | sweepAnswer | sweepAnswered | mirrorOpen
  | mirrorBody | mirrorClose =>
    exact windowStays_enterFault _ _ _ s

theorem windowStays_endBurst (r : Requester) (t : Transfer) (ts : List Transfer) (reply : BurstReply) (s : State) :
    WindowStays s (endBurst r t ts reply s) := by
  cases reply with
  | done data =>
    have hstored : ∀ us, WindowStays s (setTransfers r us (storeBytes t t.burstLength s)) := fun _ => .same (by simp)
    exact .ite ((hstored _).trans (windowStays_completed _ _ _)) (hstored _)
  | busError beat =>
    exact (WindowStays.same (t := setTransfers r ts (storeFailed t beat s)) (by simp)).trans (windowStays_transferFailed _ _)

theorem windowStays_execMemoryBurstDone {reply : BurstReply} {s t : State} (h : execMemoryBurstDone reply s = .next t) :
    WindowStays s t := by
  have hnext := next_of_guarded h
  split at hnext
  next => exact Host.Outcome.next.inj hnext ▸ .refl s
  next r x ts _ =>
    split at hnext
    · exact Host.Outcome.next.inj hnext ▸ (windowStays_endBurst r x ts reply s).andThen (by simp)
    · cases hnext

/-! ### RUN (R170) -/

theorem windowStays_enterRunning {f : State → State} (hf : ∀ v, WindowStays v (f v)) (s : State) :
    WindowStays s (enterRunning f s) :=
  .ite (.ite (.refl s) (windowStays_startSweep s)) ((WindowStays.same (t := restartTimer s) (by simp)).trans (hf _))

theorem windowStays_runOn (s : State) : WindowStays s (runOn s) := by
  have hstarted : WindowStays s (s.setRegs { s.regs with run := true, engine := .running }) :=
    windowStays_setRegs fun h => h.withEngine (by simp)
  unfold runOn
  dsimp only
  split
  · exact hstarted
  · exact hstarted.trans (windowStays_enterRunning .refl _)
  · exact hstarted.trans (windowStays_enterRunning .refl _)
  · exact (hstarted.trans (.same (t := startRecovery _) (by simp))).trans
      (windowStays_enterRunning (fun _ => .same (by simp)) _)

theorem windowStays_runOff (s : State) : WindowStays s (runOff s) := by
  unfold runOff
  dsimp only
  split
  · refine WindowStays.trans (.of_regs ?_ ?_) (windowStays_checkHalt _)
    · exact fun h => h.stopped (by simp)
    · rfl
  next hstopped => exact windowStays_setRegs fun h => h.stopped hstopped

/-! ### Starts and supplies (R168, R174, R175) -/

/-- A reset gives the registers their reset values and leaves nothing in hand. -/
theorem windowStays_volatileReset (kind : StartKind) (s : State) : WindowStays s (volatileReset kind s) :=
  ⟨fun _ => Regs.legal_reset kind, fun _ => ⟨Nat.zero_le _, List.nodup_nil⟩⟩

theorem windowStays_startWarm (kind : StartKind) (cause : ResetCause) (s : State) : WindowStays s (startWarm kind cause s) :=
  ((windowStays_volatileReset kind s).trans (windowStays_restoreClose _)).andThen (by simp [startWarm])

theorem windowStays_startCold (s : State) : WindowStays s (startCold s) :=
  (windowStays_volatileReset .cold s).andThen ⟨rfl, rfl⟩

theorem windowStays_setPower (x : Power) (s : State) : WindowStays s (s.setPower x) := .same ⟨rfl, rfl⟩

theorem windowStays_endReset (s : State) : WindowStays s (endReset s) := .same (by simp)

/-! ### Commands -/

theorem windowStays_execRouteWalk {s t : State} (h : execRouteWalk s = .next t) : WindowStays s t := by
  unfold execRouteWalk at h
  split at h
  · exact windowStays_event (fun _ => .same (by simp)) h
  · exact Host.Outcome.next.inj h ▸ .refl s

theorem windowStays_execRouteReports {s t : State} (h : execRouteReports s = .next t) : WindowStays s t := by
  unfold execRouteReports at h
  split at h
  next slot req renew install answer _ =>
    exact windowStays_event (fun _ => (windowStays_makeReports renew install s).andThen (by simp)) h
  next => exact Host.Outcome.next.inj h ▸ .refl s

theorem windowStays_execBankLoadHead {s t : State} (h : execBankLoadHead s = .next t) : WindowStays s t := by
  unfold execBankLoadHead at h
  split at h
  · exact Host.Outcome.next.inj h ▸ .refl s
  · exact windowStays_event (fun _ => .same (by simp)) h

theorem windowStays_execGapEntryLapse {code : List Nat} {s t : State} (h : execGapEntryLapse code s = .next t) :
    WindowStays s t := by
  have hnext := next_of_guarded h
  split at hnext
  · exact windowStays_event (fun _ => .same (by simp)) hnext
  · exact Host.Outcome.next.inj hnext ▸ .refl s

/-- Every command keeps the register window legal and the in-hand list within its bounds. -/
theorem windowStays_exec {c : Instr} {s t : State} (h : exec c s = .next t) : WindowStays s t := by
  cases c with
  | routeWalk => exact windowStays_execRouteWalk h
  | routeReports => exact windowStays_execRouteReports h
  | confirm | answer | crankback | queryCall =>
    exact windowStays_serve (windowStays_callRequest fun _ _ _ _ => .same (by simp)) h
  | release => exact windowStays_serve (windowStays_callRequest fun slot req i c => windowStays_releaseRule slot req s i c) h
  | cancelTariff => exact windowStays_serve (windowStays_serveCancelTariff · · s) h
  | route | setCallTimers | loadDestinations | loadRouteLists | setBandMap | setHolidays | switchPlan | setGroup | blockCircuits
  | unblockCircuits | setSupervision | setGap | clearGap | setCalendar | alignMinute | setCarrier | loadTariff | closePeriod =>
    exact windowStays_serve (fun _ _ => .same (by simp)) h
  | bankLoadHead => exact windowStays_execBankLoadHead h
  | gapEntryLapse => exact windowStays_execGapEntryLapse h
  | tariffActivation k d => exact windowStays_event (fun _ => windowStays_takeHanded k d s) (next_of_guarded h)
  | confirmationExpiry | longCallMark => exact windowStays_event (fun _ => .same (by simp)) (next_of_guarded h)
  | frameSlot present =>
    exact Host.Outcome.next.inj h ▸ .ite ((windowStays_settleSlot s).andThen (by simp)) (.ite (.same (by simp)) (.refl s))
  | tickAdvance => exact windowStays_event (fun _ => windowStays_advanceTick s) h
  | periodEnd => exact windowStays_event (fun _ => windowStays_endPeriod s) h
  | referenceLoss => exact windowStays_event (fun _ => windowStays_loseReference s) h
  | referenceLock => exact windowStays_event (fun _ => windowStays_changeReference _ s) h
  | tenthAdvance | backupTenthAdvance | scanTimerExpiry => exact windowStays_event (fun _ => .same (by simp)) h
  | nudge => exact windowStays_event (fun _ => .ite (.ite (.same (by simp)) (.same (by simp))) (.refl s)) h
  | memoryBurstDone => exact windowStays_execMemoryBurstDone h
  | runOne => exact windowStays_event (fun _ => windowStays_runOn s) h
  | runZero => exact windowStays_event (fun _ => windowStays_runOff s) h
  | attnMode pulse =>
    exact windowStays_event (fun _ => .ite (.refl s) (windowStays_setRegs fun hr => hr.latched pulse _ _ _ false)) h
  | scanInterval units => exact windowStays_event (fun _ => windowStays_setRegs fun hr => hr.withInterval _) h
  | burstSize code =>
    exact windowStays_event (fun _ => windowStays_setRegs fun hr => hr.withBurst (Nat.le_of_lt_succ code.isLt)) h
  | areaBase value => exact windowStays_event (fun _ => .ite (windowStays_setRegs fun hr => hr.withBase value) (.refl s)) h
  | areaSize value => exact windowStays_event (fun _ => .ite (windowStays_setRegs fun hr => hr.withSize _) (.refl s)) h
  | attention value => exact windowStays_event (fun _ => windowStays_setRegs fun hr => hr.latched _ _ _ _ _) h
  | registerWriteIgnored => exact Host.Outcome.next.inj h ▸ .refl s
  | attnPulseEnd => exact windowStays_event (fun hc => windowStays_setRegs fun hr => hr.pulseEnded hc.2) h
  | softReset => exact windowStays_event (fun _ => windowStays_startWarm _ _ s) h
  | powerOn =>
    exact Host.Outcome.next.inj h ▸ (windowStays_setPower _ s).trans (.ite (windowStays_startWarm _ _ _) (windowStays_startCold _))
  | resetLineAsserted =>
    exact Host.Outcome.next.inj h ▸ (windowStays_setPower _ s).trans (.ite (windowStays_startWarm _ _ _) (.refl _))
  | resetLineReleased =>
    exact Host.Outcome.next.inj h ▸ (windowStays_setPower _ s).trans (.ite (windowStays_endReset _) (.refl _))
  | resetEnd => exact windowStays_event (fun _ => .ite (windowStays_setPower _ s) (windowStays_endReset s)) h
  | mainSupplyLoss => exact windowStays_event (fun _ => (windowStays_volatileReset _ s).trans (windowStays_setPower _ _)) h
  | backupSupplyFailure => exact Host.Outcome.next.inj h ▸ .ite (.refl s) (.same (by simp))

/-- Every step does: its command runs on the machine with the rest of the queue. -/
theorem windowStays_step {s t : State} (h : step s = .next t) : WindowStays s t := by
  cases hq : s.pending with
  | nil => exact Host.Outcome.next.inj ((step_of_pending_nil hq).symm.trans h) ▸ .refl s
  | cons c rest =>
    have hs : s.setPending (c :: rest) = s := by rw [← hq]; rfl
    have hexec : exec c (s.setPending rest) = .next t := by rw [← step_setPending_cons, hs, h]
    exact (WindowStays.same (t := s.setPending rest) (by simp)).trans (windowStays_exec hexec)

/-- Settles O4: each command keeps the registers legal and the slots in hand distinct and at most 64. -/
theorem registersAndInHandListStayLegal : Obligations.RegistersAndInHandListStayLegal :=
  ⟨fun _ _ h hstep => (windowStays_step hstep).regs h, fun _ _ h hstep => (windowStays_step hstep).inHand h⟩

end Sys2Proof.Machine
end

section
/-! PROOFS. Answers: a formed answer's place in formed order and the write that is asked for, and the bytes of an answer half (R157,
R161, R167, R172, Table 10-3). -/

namespace Sys2Proof.Machine

/-! ### Formed order (R157, R161) -/

/-- The intake that holds the answer of slot `slot`, at the end of formed order. -/
def Intake.withAnswer (k : Intake) (slot : Nat) (req a : List Byte) : Intake :=
  { k.setPhase slot (.answerFormed req a) with formed := k.formed ++ [slot] }

theorem formAnswer_eq (slot : Nat) (req a : List Byte) (s : State) :
    formAnswer slot req a s = startAnswerWrite (s.setIntake (s.intake.withAnswer slot req a)) := rfl

/-- The entry of a slot in hand holds the answer that its owner has formed. -/
theorem answerOf_withAnswer {k : Intake} {slot : Nat} (hslot : ∃ e ∈ k.inHand, e.slot = slot) (req a : List Byte) :
    (k.withAnswer slot req a).answerOf slot = some a := by
  have hsame : ((fun e : Entry => decide (e.slot = slot)) ∘
      fun e : Entry => if e.slot = slot then { e with phase := .answerFormed req a } else e) =
      fun e => decide (e.slot = slot) := by
    funext e
    rw [Function.comp_apply]
    split <;> rfl
  obtain ⟨e, hfound⟩ : ∃ e, k.inHand.find? (fun e => decide (e.slot = slot)) = some e :=
    Option.isSome_iff_exists.1 (List.find?_isSome.2 (by simpa using hslot))
  have he : e.slot = slot := by simpa using List.find?_some hfound
  have hentry : (k.withAnswer slot req a).entryOf slot = some { e with phase := .answerFormed req a } := by
    simp only [Intake.entryOf, Intake.withAnswer, Intake.setPhase, List.find?_map, hsame, hfound, Option.map_some, he, if_true]
  rw [Intake.answerOf, hentry]

theorem mem_inHand_withAnswer {k : Intake} {slot : Nat} {req a : List Byte} {e : Entry}
    (he : e ∈ (k.withAnswer slot req a).inHand) :
    if e.slot = slot then e.phase = .answerFormed req a else e ∈ k.inHand := by
  obtain ⟨x, hx, rfl⟩ := List.mem_map.1 he
  by_cases hslot : x.slot = slot
  · rw [if_pos hslot, if_pos hslot]
  · rw [if_neg hslot, if_neg hslot]
    exact hx

/-! ### The write of an answer (R161, R172) -/

/-- Nothing is asked for while an answer is being written, or with the engine HALTED or FAULTED. -/
theorem startAnswerWrite_of_waiting {s : State}
    (h : s.regs.engine = .halted ∨ s.regs.engine = .faulted ∨ s.intake.writing = true) : startAnswerWrite s = s := by
  refine if_neg fun ⟨hengine, hwriting, _⟩ => ?_
  rcases h with h | h | h
  · simp [h] at hengine
  · simp [h] at hengine
  · simp [h] at hwriting

/-- Beginning an answer's write changes nothing but the Intake Unit and the port. -/
theorem startAnswerWrite_frame (s : State) :
    startAnswerWrite s = (s.setIntake (startAnswerWrite s).intake).setPort (startAnswerWrite s).port := by
  unfold startAnswerWrite
  split
  · split
    · rfl
    · split <;> rfl
  · rfl

/-! ### The bytes of an answer half (R167, Table 10-3) -/

/-- The first field of a layout that covers a byte gives it. -/
theorem fieldByte_append {pre : List Field} {i : Nat} (hpre : ∀ h ∈ pre, i < h.off ∨ h.off + h.size ≤ i) (fields : List Field) :
    fieldByte (pre ++ fields) i = fieldByte fields i := by
  induction pre with
  | nil => rfl
  | cons h pre ih =>
    have hhead : i < h.off ∨ h.off + h.size ≤ i := hpre h List.mem_cons_self
    rw [List.cons_append, fieldByte, if_neg (by omega), ih fun x hx => hpre x (List.mem_cons_of_mem _ hx)]

/-- A field is read back where no field before it in the layout overlaps it. -/
theorem readLE_layOut_of_first {start len : Nat} {pre : List Field} {f : Field} {post : List Field}
    (hpre : ∀ h ∈ pre, h.Apart f) (hstart : start ≤ f.off) (hend : f.off + f.size ≤ start + len) :
    readLE (layOut start len (pre ++ f :: post)) (f.off - start) f.size = f.value % 256 ^ f.size := by
  refine readLE_of_bytes fun i hi => ?_
  have hplace : start + (f.off - start + i) = f.off + i := by omega
  have hclear : ∀ h ∈ pre, f.off + i < h.off ∨ h.off + h.size ≤ f.off + i := fun h hh => by
    have hapart : h.off + h.size ≤ f.off ∨ f.off + f.size ≤ h.off := hpre h hh
    omega
  rw [byteAt_layOut, if_pos (by omega), hplace, fieldByte_append hclear, fieldByte,
    if_pos ⟨Nat.le_add_right _ _, Nat.add_lt_add_left hi _⟩, Nat.add_sub_cancel_left, BitVec.toNat_ofNat]

theorem readLE_lt (bytes : List Byte) (off n : Nat) : readLE bytes off n < 256 ^ n := by
  induction n generalizing off with
  | zero => simp [readLE]
  | succ n ih =>
    have hfirst := byteAt_lt bytes off
    have hrest := ih (off + 1)
    rw [readLE, Nat.pow_succ']
    omega

/-- The header of an answer half: the code, the request's kind, the record number and the request's tag (Table 10-3). -/
def answerHeader (code : Code) (req : List Byte) (n : Nat) : List Field :=
  [⟨64, 1, code.value⟩, ⟨65, 1, byteAt req 0⟩, ⟨66, 2, n⟩, ⟨68, 4, tagOf req⟩]

theorem answerHalf_eq (code : Code) (req : List Byte) (n : Nat) (fields : List Field) :
    answerHalf code req n fields = layOut 64 64 (answerHeader code req n ++ fields) := rfl

theorem answerHeader_range {code : Code} {req : List Byte} {n : Nat} {h : Field} (hh : h ∈ answerHeader code req n) :
    h.off + h.size ≤ 72 := by
  simp only [answerHeader, List.mem_cons, List.not_mem_nil, or_false] at hh
  rcases hh with rfl | rfl | rfl | rfl <;> simp

section
variable (code : Code) (req : List Byte) (n : Nat) (fields : List Field)

theorem byteAt_answerHalf_code : byteAt (answerHalf code req n fields) 0 = code.value := by
  have hread := readLE_layOut_of_first (start := 64) (len := 64) (pre := []) (f := ⟨64, 1, code.value⟩)
    (post := (answerHeader code req n).tail ++ fields) nofun (by simp) (by simp)
  rw [← readLE_one]
  exact hread.trans (by cases code <;> rfl)

theorem byteAt_answerHalf_kind : byteAt (answerHalf code req n fields) 1 = byteAt req 0 := by
  have hread := readLE_layOut_of_first (start := 64) (len := 64) (pre := (answerHeader code req n).take 1)
    (f := ⟨65, 1, byteAt req 0⟩) (post := (answerHeader code req n).drop 2 ++ fields)
    (by simp [answerHeader, Field.Apart]) (by simp) (by simp)
  rw [← readLE_one]
  exact hread.trans (Nat.mod_eq_of_lt (byteAt_lt req 0))

theorem readLE_answerHalf_record : readLE (answerHalf code req n fields) 2 2 = n % 65536 :=
  readLE_layOut_of_first (start := 64) (len := 64) (pre := (answerHeader code req n).take 2)
    (f := ⟨66, 2, n⟩) (post := (answerHeader code req n).drop 3 ++ fields)
    (by simp [answerHeader, Field.Apart]) (by simp) (by simp)

theorem readLE_answerHalf_tag : readLE (answerHalf code req n fields) 4 4 = readLE req 4 4 := by
  have hread := readLE_layOut_of_first (start := 64) (len := 64) (pre := (answerHeader code req n).take 3)
    (f := ⟨68, 4, tagOf req⟩) (post := fields) (by simp [answerHeader, Field.Apart]) (by simp) (by simp)
  exact hread.trans (Nat.mod_eq_of_lt (readLE_lt req 4 4))

end

section
variable (code : Code) (req : List Byte) (n : Nat)

/-- A field of the answer's kind that no field before it overlaps. -/
theorem readLE_answerHalf_field {pre : List Field} {f : Field} (post : List Field) (hlow : 72 ≤ f.off)
    (hend : f.off + f.size ≤ 128) (hpre : ∀ h ∈ pre, h.Apart f) :
    readLE (answerHalf code req n (pre ++ f :: post)) (f.off - 64) f.size = f.value % 256 ^ f.size := by
  rw [answerHalf_eq, ← List.append_assoc]
  refine readLE_layOut_of_first (fun h hh => ?_) (by omega) (by omega)
  rcases List.mem_append.1 hh with hheader | hfield
  · exact .inl ((answerHeader_range hheader).trans hlow)
  · exact hpre h hfield

/-- A byte beyond the header that no field covers. -/
theorem byteAt_answerHalf_of_none {fields : List Field} {i : Nat} (hlow : 72 ≤ i) (hhigh : i < 128)
    (hnone : ∀ f ∈ fields, i < f.off ∨ f.off + f.size ≤ i) : byteAt (answerHalf code req n fields) (i - 64) = 0 := by
  have hclear : ∀ h ∈ answerHeader code req n ++ fields, i < h.off ∨ h.off + h.size ≤ i := fun h hh => by
    rcases List.mem_append.1 hh with hheader | hfield
    · exact .inr ((answerHeader_range hheader).trans hlow)
    · exact hnone h hfield
  have hbyte := fieldByte_append hclear []
  rw [List.append_nil] at hbyte
  rw [answerHalf_eq, byteAt_layOut, if_pos (by omega), Nat.add_sub_cancel' (by omega), hbyte]
  rfl

end

/-- Settles O12: the in-hand list and the port by whether the write can be asked for, and the answer's bytes field by field. -/
theorem formedAnswersWaitTheirTurn : Obligations.FormedAnswersWaitTheirTurn := by
  refine ⟨?_, fun slot req code n fields s => ?_⟩
  · rintro slot req a s _ rfl
    obtain ⟨hinHand, hformed⟩ := startAnswerWrite_lists (s.setIntake (s.intake.withAnswer slot req a))
    rw [formAnswer_eq]
    refine ⟨slots_formAnswer slot req a s, fun e he => ?_, hformed, fun hwaits => ?_, fun hengine hwriting hsweep hfirst hslot => ?_,
      startAnswerWrite_frame _, ?_⟩
    · exact mem_inHand_withAnswer (hinHand ▸ he)
    · rw [startAnswerWrite_of_waiting (by exact hwaits)]
      exact ⟨rfl, rfl⟩
    · have hhead : (s.intake.withAnswer slot req a).formed = [slot] := by simp [Intake.withAnswer, hfirst]
      rw [startAnswerWrite_of_formed (by exact hengine) (by exact hwriting) (by exact hsweep) (by exact hhead)
        (by exact answerOf_withAnswer hslot req a)]
      exact ⟨by simp, ask_port_congr rfl rfl _ _⟩
    · rw [startAnswerWrite_intake]
      rfl
  · refine ⟨answerHalf code req n fields, rfl, layOut_length .., byteAt_answerHalf_code .., byteAt_answerHalf_kind ..,
      readLE_answerHalf_record .., readLE_answerHalf_tag .., ?_, fun i hlow hhigh hnone => ?_⟩
    · rintro pre f post rfl hlow hend hapart
      exact readLE_answerHalf_field code req n post hlow hend fun h hh => hapart h (List.mem_append_left _ hh)
    · exact byteAt_answerHalf_of_none code req n hlow hhigh hnone

end Sys2Proof.Machine
end

section
/-! PROOFS. What starts a scan pass, and what RUN does to the engine, the sweep, the recovery and the port (R158, R159, R162, R170,
R172, R176). -/

namespace Sys2Proof.Machine

/-! ### NUDGE and the scan timer (R158) -/

theorem exec_nudge {s : State} (hup : s.up = true) (v : Word) : exec (.nudge v) s = .next (if s.regs.engine = .running then
    if s.intake.sweep.active = true ∨ s.intake.pass.isSome = true then requestRescan s else passFallsDue s else s) :=
  congrArg Host.Outcome.next (if_pos hup)

theorem exec_scanTimerExpiry_of_running {s : State} (hup : s.up = true) (hrunning : s.regs.engine = .running)
    (htimer : s.intake.timer ≠ none) : exec .scanTimerExpiry s = .next (scanTimerOut s) :=
  congrArg Host.Outcome.next (if_pos ⟨hup, hrunning, Option.isSome_iff_ne_none.2 htimer⟩)

theorem exec_scanTimerExpiry_of_stopped {s : State} (hstopped : s.regs.engine ≠ .running) : exec .scanTimerExpiry s = .next s :=
  congrArg Host.Outcome.next (if_neg fun ⟨_, hrunning, _⟩ => hstopped hrunning)

/-- During the recovery a pass is made due (R172). -/
theorem passFallsDue_of_recovery {s : State} (h : s.intake.recovery ≠ none) :
    passFallsDue s = s.setIntake { s.intake with passDue := true } := if_pos (Option.isSome_iff_ne_none.2 h)

/-- Without a recovery it starts at once (R158). -/
theorem passStarts_passFallsDue {s : State} (h : s.intake.recovery = none) (hresume : s.intake.resume < 2 ^ s.regs.sizeExp) :
    PassStarts s (passFallsDue s) s.intake.resume := by
  rw [passFallsDue, if_neg (by simp [h])]
  exact passStarts_startPass rfl hresume

theorem scanTimerOut_of_pass {s : State} (hsweep : s.intake.sweep.active = false) (hpass : s.intake.pass ≠ none) :
    scanTimerOut s = s.setIntake { s.intake with timer := none } := by
  simp [scanTimerOut, hsweep, Option.isSome_iff_ne_none.2 hpass]

theorem scanTimerOut_of_idle {s : State} (hsweep : s.intake.sweep.active = false) (hpass : s.intake.pass = none) :
    scanTimerOut s = passFallsDue (s.setIntake { s.intake with timer := none }) := by
  simp [scanTimerOut, hsweep, hpass]

/-- Settles O53: NUDGE and the scan timer, each by what is in progress. -/
theorem scanPassesStart : Obligations.ScanPassesStart := by
  rintro s c v hup (rfl | ⟨rfl, htimer⟩)
  · rw [exec_nudge hup]
    refine ⟨fun hstopped => by rw [if_neg hstopped], fun hrunning => ?_⟩
    rw [if_pos hrunning]
    refine ⟨fun hbusy _ => ?_, fun _ _ hc => Instr.noConfusion hc, fun hsweep hpass hrecovery => ?_,
      fun hsweep hpass hrecovery hresume => ⟨_, rfl, ?_⟩⟩
    · rw [if_pos (by simpa only [Option.isSome_iff_ne_none] using hbusy)]
      rfl
    · rw [if_neg (by simp [hsweep, hpass]), passFallsDue_of_recovery hrecovery, if_neg nofun]
    · rw [if_neg (nofun : ¬ Instr.nudge v = .scanTimerExpiry), if_neg (by simp [hsweep, hpass])]
      exact passStarts_passFallsDue hrecovery hresume
  · refine ⟨fun hstopped => exec_scanTimerExpiry_of_stopped hstopped, fun hrunning => ?_⟩
    rw [exec_scanTimerExpiry_of_running hup hrunning htimer]
    refine ⟨fun _ hc => Instr.noConfusion hc, fun hsweep hpass _ => ?_, fun hsweep hpass hrecovery => ?_,
      fun hsweep hpass hrecovery hresume => ⟨_, rfl, ?_⟩⟩
    · rw [scanTimerOut_of_pass hsweep hpass]
    · rw [scanTimerOut_of_idle hsweep hpass, passFallsDue_of_recovery (by exact hrecovery), if_pos rfl]
      rfl
    · rw [scanTimerOut_of_idle hsweep hpass, if_pos rfl]
      exact passStarts_passFallsDue (by exact hrecovery) hresume

/-! ### RUN 1 (R158, R170, R176) -/

/-- The machine with RUN 1 stored and its engine RUNNING. -/
def started (s : State) : State := s.setRegs { s.regs with run := true, engine := .running }

theorem exec_runOne {s : State} (hup : s.up = true) : exec .runOne s = .next (runOn s) :=
  congrArg Host.Outcome.next (if_pos hup)

theorem runOn_of_running {s : State} (h : s.regs.engine = .running) : runOn s = started s := by
  unfold runOn
  rw [h]
  rfl

theorem runOn_of_stopped {s : State} (h : s.regs.engine = .halted ∨ s.regs.engine = .draining) :
    runOn s = enterRunning id (started s) := by
  unfold runOn
  rcases h with h | h <;> rw [h] <;> rfl

theorem runOn_of_faulted {s : State} (h : s.regs.engine = .faulted) :
    runOn s = enterRunning proceedAnswers (startRecovery (started s)) := by
  unfold runOn
  rw [h]
  rfl

section
variable {f : State → State} {v : State}

theorem enterRunning_of_none (howed : v.intake.sweep.owed = false) : enterRunning f v = f (restartTimer v) :=
  if_neg (by simp [howed])

theorem enterRunning_of_sweeping (howed : v.intake.sweep.owed = true) (hactive : v.intake.sweep.active = true) :
    enterRunning f v = v := by
  rw [enterRunning, if_pos howed, if_pos hactive]

/-- An owed sweep begins with the strip from the slot at which it stands (R176). -/
theorem enterRunning_of_owed (hrunning : v.regs.engine = .running) (howed : v.intake.sweep.owed = true)
    (hactive : v.intake.sweep.active = false) (hnext : v.intake.sweep.next < slotCount v) : enterRunning f v =
      ask .intake (stripFrom v .sweepStrip v.intake.sweep.next (slotCount v))
        (v.setIntake { v.intake with sweep := { v.intake.sweep with active := true, codes := [] } }) := by
  rw [enterRunning, if_pos howed, if_neg (by simp [hactive]), startSweep]
  exact sweepCodes_nil_of_left hrunning hnext

end

/-- The recovery with no answer held goes on with the UNREAD entries at once (R172). -/
theorem runOn_of_faulted_without_answers {s : State} (hengine : s.regs.engine = .faulted)
    (howed : s.intake.sweep.owed = false) (hformed : s.intake.formed = []) :
    runOn s = recoverUnread s.intake.unreadSlots (restartTimer (startRecovery (started s))) := by
  have hheld : (restartTimer (startRecovery (started s))).intake.recovery = some (.answers 0) :=
    congrArg (fun l : List Nat => some (Recovery.answers l.length)) hformed
  rw [runOn_of_faulted hengine, enterRunning_of_none (by exact howed), proceedAnswers_of_held hheld hformed]
  rfl

/-- The recovery begins with the first of the answers held (R172). -/
theorem runOn_of_faulted_with_answers {s : State} {slot : Nat} {rest : List Nat} {a : List Byte}
    (hengine : s.regs.engine = .faulted) (howed : s.intake.sweep.owed = false) (hactive : s.intake.sweep.active = false)
    (hwriting : s.intake.writing = false) (hformed : s.intake.formed = slot :: rest) (ha : s.intake.answerOf slot = some a) :
    runOn s = ask .intake (bodyWrite s (.answerHalf slot) slot a) ((started s).setIntake { s.intake with
      timer := some s.regs.interval, recovery := some (.answers (rest.length + 1)), writing := true }) := by
  have hheld : (restartTimer (startRecovery (started s))).intake.recovery = some (.answers (rest.length + 1)) :=
    congrArg (fun l : List Nat => some (Recovery.answers l.length)) hformed
  rw [runOn_of_faulted hengine, enterRunning_of_none (by exact howed), proceedAnswers_of_not_held (by simp [hheld]),
    startAnswerWrite_of_formed (.inl rfl) (by exact hwriting) (by exact hactive) (by exact hformed) (by exact ha), ← hheld]
  rfl

/-! ### RUN 0 (R158, R159, R170) -/

theorem exec_runZero {s : State} (hup : s.up = true) : exec .runZero s = .next (runOff s) :=
  congrArg Host.Outcome.next (if_pos hup)

/-- A DRAINING engine halts when nothing is in hand and neither a mirror write nor a sweep is in progress (R170). -/
theorem checkHalt_eq_of_draining {v : State} (hdraining : v.regs.engine = .draining) : checkHalt v = v.setRegs { v.regs with
    engine := if v.intake.inHand = [] ∧ v.mirror.marks = none ∧ v.intake.sweep.active = false then .halted else .draining } := by
  simp only [checkHalt, hdraining, true_and]
  split
  · rfl
  · rw [← hdraining]
    rfl

theorem runOff_of_stopped {s : State} (h : s.regs.engine ≠ .running) : runOff s = s.setRegs { s.regs with run := false } := if_neg h

theorem runOff_of_running {s : State} (h : s.regs.engine = .running) : runOff s =
    ((s.setRegs { s.regs with
        run := false,
        engine := if s.intake.inHand = [] ∧ s.mirror.marks = none ∧ s.intake.sweep.active = false then .halted
          else .draining }).setIntake s.intake.stopScanning).setPort (s.port.dropStrip (burstInForce s)) := by
  unfold runOff
  rw [if_pos h, checkHalt_eq_of_draining rfl]
  rfl

theorem stopScanning_resume_of_pass {k : Intake} {p : Pass} (h : k.pass = some p) :
    k.stopScanning.resume = if p.left = 0 then 0 else p.next := by
  simp only [Intake.stopScanning, h, Pass.stopPoint]

theorem stopScanning_resume_of_none {k : Intake} (h : k.pass = none) : k.stopScanning.resume = k.resume := by
  simp only [Intake.stopScanning, h]

/-- The port carries a pass's strip read. -/
def Port.carriesStrip (p : Port) : Prop := p.serving = some .intake ∧ ∃ t ts, p.intake = t :: ts ∧ t.isStrip = true

theorem Port.carriesStrip_iff {p : Port} :
    p.carriesStrip ↔ p.serving = some .intake ∧ p.intake.head?.any Transfer.isStrip = true := by
  cases hq : p.intake <;> simp [Port.carriesStrip, hq]

theorem Port.dropStrip_of_carried {p : Port} (h : p.carriesStrip) (b : Nat) : p.dropStrip b =
    ({ p with intake := p.intake.filter (fun t => !t.isStrip), last := some .intake } : Port).serve b :=
  if_pos (Port.carriesStrip_iff.1 h)

theorem Port.dropStrip_of_not_carried {p : Port} (h : ¬ p.carriesStrip) (b : Nat) :
    p.dropStrip b = { p with intake := p.intake.filter (fun t => !t.isStrip) } :=
  if_neg fun hcarried => h (Port.carriesStrip_iff.2 hcarried)

/-- Settles O50: RUN 1 by the engine's state and by what is owed and held, RUN 0 by whether the engine runs. -/
theorem runBitDrivesTheEngine : Obligations.RunBitDrivesTheEngine := by
  refine ⟨fun s hup => ?_, fun s hup => ?_⟩
  · rw [exec_runOne hup]
    refine ⟨fun hrunning => ?_, fun hstopped howed => ?_, fun hstopped howed hactive hnext => ?_,
      fun hdraining howed hactive => ?_, fun hfaulted howed hactive hnext => ?_, fun slot rest hfaulted howed hformed hunread => ?_,
      fun hfaulted howed hformed hunread => ⟨fun hdue => ?_, fun hdue hpass hresume => ⟨_, rfl, ?_⟩⟩,
      fun slot rest a hfaulted howed hactive hwriting hformed ha => ?_⟩
    · rw [runOn_of_running hrunning]
      rfl
    · rw [runOn_of_stopped hstopped, enterRunning_of_none (by exact howed)]
      rfl
    · rw [runOn_of_stopped hstopped, enterRunning_of_owed rfl (by exact howed) (by exact hactive) (by exact hnext)]
      rfl
    · rw [runOn_of_stopped (.inr hdraining), enterRunning_of_sweeping (by exact howed) (by exact hactive)]
      rfl
    · rw [runOn_of_faulted hfaulted, enterRunning_of_owed rfl (by exact howed) (by exact hactive) (by exact hnext)]
      rfl
    · have hslots : s.intake.unreadSlots = slot :: rest := hunread
      rw [runOn_of_faulted_without_answers hfaulted howed hformed, hslots, recoverUnread_cons]
      rfl
    · have hslots : s.intake.unreadSlots = [] := hunread
      rw [runOn_of_faulted_without_answers hfaulted howed hformed, hslots, recoverUnread_nil_of_quiet (by exact hdue), ← hdue]
      rfl
    · have hslots : s.intake.unreadSlots = [] := hunread
      rw [runOn_of_faulted_without_answers hfaulted howed hformed, hslots]
      exact recoverUnread_nil_of_due (by exact hdue) rfl (by exact hpass) (by exact hresume)
    · rw [runOn_of_faulted_with_answers hfaulted howed hactive hwriting hformed ha]
      rfl
  · rw [exec_runZero hup]
    refine ⟨fun hstopped => by rw [runOff_of_stopped hstopped], fun hrunning => ⟨_, rfl, ?_⟩⟩
    rw [runOff_of_running hrunning]
    exact ⟨rfl, rfl, stopScanning_resume_of_none, fun _ => stopScanning_resume_of_pass,
      ⟨fun hnot => Port.dropStrip_of_not_carried hnot _, fun hcarried => Port.dropStrip_of_carried hcarried _⟩, rfl⟩

end Sys2Proof.Machine
end

section
/-! PROOFS. What the register window reads and stores, and what drives the ATTN line (R168, R169, R171, R175). -/

namespace Sys2Proof.Machine

/-! ### The offsets of the window (R168) -/

theorem registerAt_offset (reg : Register) : registerAt reg.offset = some reg := by
  cases reg <;> rfl

/-- Every register stands at a word of the window, STATUS at the last (R168). -/
theorem Register.offset_range (reg : Register) : reg.offset ≤ 0x18 ∧ reg.offset % 4 = 0 := by
  cases reg <;> decide

theorem registerAt_eq_none {off : Nat} (h : 0x18 < off ∨ off % 4 ≠ 0) : registerAt off = none := by
  refine List.find?_eq_none.2 fun reg _ hat => ?_
  have hoff : reg.offset = off := of_decide_eq_true hat
  obtain ⟨hlast, hword⟩ := reg.offset_range
  omega

theorem readWindow_offset (s : State) (reg : Register) : readWindow s reg.offset = some (readRegister s reg) := by
  rw [readWindow, registerAt_offset, Option.map_some]

theorem writeWindow_offset (reg : Register) (v : Word) (s : State) :
    writeWindow reg.offset v s = s.setPending (s.pending ++ reg.written v) := by
  rw [writeWindow, registerAt_offset, Option.map_some, Option.getD_some]

/-- Where no register stands, a read gives nothing and a write does nothing. -/
theorem window_of_no_register {off : Nat} (h : registerAt off = none) (s : State) :
    readWindow s off = none ∧ ∀ v, writeWindow off v s = s := by
  refine ⟨by rw [readWindow, h, Option.map_none], fun v => ?_⟩
  rw [writeWindow, h, Option.map_none, Option.getD_none, List.append_nil]
  rfl

theorem written_control_of_reset {v : Word} (h : v.getLsbD 2 = true) : Register.control.written v = [.softReset] := if_pos h

theorem written_control_of_fields {v : Word} (h : v.getLsbD 2 = false) : Register.control.written v =
    [.attnMode (v.getLsbD 1), .scanInterval (v.extractLsb' 8 6), .burstSize (v.extractLsb' 16 2),
      if v.getLsbD 0 then .runOne else .runZero] := if_neg (Bool.eq_false_iff.1 h)

/-- The fields of CONTROL are read from bits 13..8 and 17..16 (R168). -/
theorem toNat_control_fields (v : Word) :
    (v.extractLsb' 8 6).toNat = v.toNat / 256 % 64 ∧ (v.extractLsb' 16 2).toNat = v.toNat / 65536 % 4 := by
  simp only [BitVec.extractLsb'_toNat, Nat.shiftRight_eq_div_pow, Nat.reducePow, and_self]

/-! ### Stored values (R169) -/

/-- In a reset, or without supply, nothing comes of a command as which a write of CONTROL, of the area, of NUDGE or of ATTENTION
arrives (R169, R175). -/
theorem exec_registerWrite_of_down {s : State} (hdown : s.up = false) {c : Instr}
    (hc : c = .runOne ∨ c = .runZero ∨ (∃ b, c = .attnMode b) ∨ (∃ x, c = .scanInterval x) ∨ (∃ x, c = .burstSize x) ∨
      (∃ v, c = .areaBase v) ∨ (∃ v, c = .areaSize v) ∨ (∃ v, c = .nudge v) ∨ (∃ v, c = .attention v) ∨ c = .softReset) :
    exec c s = .next s := by
  have hnot : ¬ s.up = true := Bool.eq_false_iff.1 hdown
  rcases hc with rfl | rfl | ⟨_, rfl⟩ | ⟨_, rfl⟩ | ⟨_, rfl⟩ | ⟨_, rfl⟩ | ⟨_, rfl⟩ | ⟨_, rfl⟩ | ⟨_, rfl⟩ | rfl
  all_goals exact congrArg Host.Outcome.next (if_neg hnot)

theorem exec_scanInterval {s : State} (hup : s.up = true) (x : BitVec 6) : exec (.scanInterval x) s =
    .next (s.setRegs { s.regs with interval := max 1 (min x.toNat 32) }) :=
  congrArg Host.Outcome.next (if_pos hup)

theorem exec_burstSize {s : State} (hup : s.up = true) (x : BitVec 2) : exec (.burstSize x) s =
    .next (s.setRegs { s.regs with burst := x.toNat }) :=
  congrArg Host.Outcome.next (if_pos hup)

theorem exec_areaBase {s : State} (hup : s.up = true) (v : Word) : exec (.areaBase v) s =
    .next (if s.regs.engine = .halted then s.setRegs { s.regs with base := v &&& 0xFFFFF000#32 } else s) :=
  congrArg Host.Outcome.next (if_pos hup)

theorem exec_areaSize {s : State} (hup : s.up = true) (v : Word) : exec (.areaSize v) s =
    .next (if s.regs.engine = .halted then s.setRegs { s.regs with sizeExp := max 6 (min (v.toNat % 16) 12) } else s) :=
  congrArg Host.Outcome.next (if_pos hup)

theorem interval_clamp (x : BitVec 6) :
    max 1 (min x.toNat 32) = if x = 0#6 then 1 else if 32 < x.toNat then 32 else x.toNat := by
  split
  case isTrue hzero => rw [hzero]; rfl
  case isFalse hnonzero =>
    have hpos : x.toNat ≠ 0 := fun h => hnonzero (BitVec.eq_of_toNat_eq h)
    split <;> omega

theorem size_clamp (k : Nat) : max 6 (min k 12) = if k < 6 then 6 else if 12 < k then 12 else k := by
  split
  case isTrue => omega
  case isFalse => split <;> omega

/-- The mask of AREA BASE rounds down to a multiple of 4096 (R169). -/
theorem toNat_and_areaMask (v : Word) : (v &&& 0xFFFFF000#32).toNat = v.toNat / 4096 * 4096 := by
  have hlow : (v.toNat &&& 0xFFFFF000) % 2 ^ 12 = 0 := by
    rw [Nat.and_mod_two_pow]
    exact Nat.and_zero _
  have hhigh : (v.toNat &&& 0xFFFFF000) / 2 ^ 12 = v.toNat / 4096 := by
    rw [Nat.and_div_two_pow]
    exact (Nat.and_two_pow_sub_one_eq_mod _ 20).trans (Nat.mod_eq_of_lt (by have := v.isLt; omega))
  change v.toNat &&& 0xFFFFF000 = _
  rw [← hhigh]
  omega

/-! ### What the registers read (R168, R169) -/

theorem readRegister_of_up {s : State} (hup : s.up = true) (reg : Register) : readRegister s reg = s.regs.read reg := by
  rw [readRegister, if_pos hup]

theorem readRegister_of_down {s : State} (hdown : s.up = false) (reg : Register) :
    readRegister s reg = (Regs.reset s.regs.startKind).read reg := by
  rw [readRegister, if_neg (Bool.eq_false_iff.1 hdown)]

theorem read_ident_high (r : Regs) : (r.read .ident).toNat / 65536 = 0x0712 := by
  have hrevision := Config.identRevision.isLt
  change (0x0712 * 65536 + Config.identRevision.toNat) % 2 ^ 32 / 65536 = 0x0712
  omega

theorem bit_le_one (b : Bool) : bit b ≤ 1 := by
  cases b <;> decide

/-- A mark below a number is that number's binary extension by it. -/
theorem bit_add_two_mul (b : Bool) (n : Nat) : bit b + 2 * n = Nat.bit b n := by
  rw [Nat.bit_val, Nat.add_comm]
  cases b <;> rfl

/-- CONTROL from its lowest bit up: RUN, the ATTN mode, SOFT RESET as 0, then the fields (R168). -/
theorem Regs.controlWord_eq (r : Regs) :
    r.controlWord = Nat.bit r.run (Nat.bit r.pulse (Nat.bit false (32 * r.interval + 8192 * r.burst))) := by
  simp only [← bit_add_two_mul]
  change bit r.run + 2 * bit r.pulse + 256 * r.interval + 65536 * r.burst =
    bit r.run + 2 * (bit r.pulse + 2 * (0 + 2 * (32 * r.interval + 8192 * r.burst)))
  omega

/-- ATTENTION from its lowest bit up (R168). -/
theorem Regs.attentionWord_eq (r : Regs) : r.attentionWord = Nat.bit r.answers (Nat.bit r.events (Nat.bit r.fault 0)) := by
  simp only [← bit_add_two_mul]
  change bit r.answers + 2 * bit r.events + 4 * bit r.fault = _
  omega

theorem getLsbD_ofNat_word {i : Nat} (h : i < 32) (n : Nat) : (BitVec.ofNat 32 n).getLsbD i = n.testBit i := by
  rw [BitVec.getLsbD_ofNat, decide_eq_true h, Bool.true_and]

theorem getLsbD_read_control (r : Regs) : (r.read .control).getLsbD 0 = r.run ∧ (r.read .control).getLsbD 1 = r.pulse ∧
    (r.read .control).getLsbD 2 = false := by
  simp only [Regs.read, getLsbD_ofNat_word (by decide : 0 < 32), getLsbD_ofNat_word (by decide : 1 < 32),
    getLsbD_ofNat_word (by decide : 2 < 32), Regs.controlWord_eq, Nat.testBit_bit_succ, Nat.testBit_bit_zero, and_self]

theorem getLsbD_read_attention (r : Regs) : (r.read .attention).getLsbD 0 = r.answers ∧
    (r.read .attention).getLsbD 1 = r.events ∧ (r.read .attention).getLsbD 2 = r.fault := by
  simp only [Regs.read, getLsbD_ofNat_word (by decide : 0 < 32), getLsbD_ofNat_word (by decide : 1 < 32),
    getLsbD_ofNat_word (by decide : 2 < 32), Regs.attentionWord_eq, Nat.testBit_bit_succ, Nat.testBit_bit_zero, and_self]

/-- The scan interval and the burst size fit their fields of CONTROL. -/
theorem Regs.Legal.read_control_fields {r : Regs} (h : r.Legal) :
    (r.read .control).toNat / 256 % 64 = r.interval ∧ (r.read .control).toNat / 65536 = r.burst := by
  obtain ⟨-, -, -, -, hlong, hburst, -, -⟩ := h
  have hrun := bit_le_one r.run
  have hpulse := bit_le_one r.pulse
  change (bit r.run + 2 * bit r.pulse + 256 * r.interval + 65536 * r.burst) % 2 ^ 32 / 256 % 64 = r.interval ∧
    (bit r.run + 2 * bit r.pulse + 256 * r.interval + 65536 * r.burst) % 2 ^ 32 / 65536 = r.burst
  omega

theorem StartKind.code_eq (kind : StartKind) : kind.code = if kind = .warm then 1 else 0 := by
  cases kind <;> rfl

/-- STATUS is made of the engine state, the start kind, the fault kind and the fault slot (R168). -/
theorem read_status (r : Regs) : r.read .status = BitVec.ofNat 32
    (r.engine.code + 2 ^ 4 * r.startKind.code + 2 ^ 8 * r.faultKind.code + 2 ^ 16 * r.faultSlot) := by
  simp only [Regs.read, Regs.statusWord, Nat.reducePow]

/-- The reset values of R168. -/
theorem read_reset (kind : StartKind) :
    (Regs.reset kind).read .control = 0x00020400#32 ∧ (Regs.reset kind).read .areaBase = 0#32 ∧
      (Regs.reset kind).read .areaSize = 6#32 ∧ (Regs.reset kind).read .attention = 0#32 ∧
      (Regs.reset kind).read .nudge = 0xFFFFFFFF#32 ∧
      (Regs.reset kind).read .status = if kind = .warm then 16#32 else 0#32 := by
  cases kind <;> decide

/-- Settles O51: the window by offset, the writes by what is stored, and the reads register by register. -/
theorem registerWritesAndReads : Obligations.RegisterWritesAndReads := by
  refine fun s => ⟨?_, fun v => ?_, fun _ _ => rfl, fun hdown => ⟨fun c hc => ?_, ?_⟩, fun hup => ?_⟩
  · exact ⟨readWindow_offset s .ident, readWindow_offset s .control, readWindow_offset s .areaBase,
      readWindow_offset s .areaSize, readWindow_offset s .nudge, readWindow_offset s .attention,
      readWindow_offset s .status, fun _ hoff => window_of_no_register (registerAt_eq_none hoff) s⟩
  · have hcontrol := writeWindow_offset .control v s
    obtain ⟨hinterval, hburst⟩ := toNat_control_fields v
    refine ⟨writeWindow_offset .ident v s, writeWindow_offset .status v s, writeWindow_offset .areaBase v s,
      writeWindow_offset .areaSize v s, writeWindow_offset .nudge v s, writeWindow_offset .attention v s,
      fun hreset => ?_, fun hfields => ⟨v.extractLsb' 8 6, v.extractLsb' 16 2, hinterval, hburst, ?_⟩⟩
    · rwa [written_control_of_reset hreset] at hcontrol
    · rwa [written_control_of_fields hfields] at hcontrol
  · exact exec_registerWrite_of_down hdown hc
  · simp only [readRegister_of_down hdown]
    exact read_reset s.regs.startKind
  · refine ⟨fun x => ?_, exec_burstSize hup, fun v hhalted => ⟨_, toNat_and_areaMask v, ?_⟩,
      fun v hhalted => ?_, fun v hhalted => ⟨?_, ?_⟩, ?_⟩
    · rw [exec_scanInterval hup, interval_clamp]
    · rw [exec_areaBase hup, if_pos hhalted]
    · rw [exec_areaSize hup, if_pos hhalted, size_clamp]
    · rw [exec_areaBase hup, if_neg hhalted]
    · rw [exec_areaSize hup, if_neg hhalted]
    · simp only [readRegister_of_up hup]
      obtain ⟨hrun, hpulse, hreset⟩ := getLsbD_read_control s.regs
      obtain ⟨hanswers, hevents, hfault⟩ := getLsbD_read_attention s.regs
      refine ⟨rfl, rfl, rfl, read_ident_high _, fun hlegal => ⟨hrun, hpulse, hreset, hlegal.read_control_fields⟩,
        hanswers, hevents, hfault, ?_⟩
      rw [read_status, StartKind.code_eq]
      rfl

/-! ### The ATTN line (R171) -/

/-- The registers after a write of ATTENTION, which clears the bits written as 0, but for the line. -/
def Regs.masked (r : Regs) (v : Word) : Regs :=
  { r with answers := r.answers && v.getLsbD 0, events := r.events && v.getLsbD 1, fault := r.fault && v.getLsbD 2 }

theorem exec_attention {s : State} (hup : s.up = true) (v : Word) : exec (.attention v) s =
    .next (s.setRegs ((s.regs.masked v).latch s.regs.attnLine)) :=
  congrArg Host.Outcome.next (if_pos hup)

theorem exec_attnMode {s : State} (hup : s.up = true) (pulse : Bool) : exec (.attnMode pulse) s =
    .next (if pulse = s.regs.pulse then s else s.setRegs (Regs.latch { s.regs with pulse := pulse } false)) :=
  congrArg Host.Outcome.next (if_pos hup)

theorem exec_attnPulseEnd_of_pulse {s : State} (hup : s.up = true) (hpulse : s.regs.pulse = true) :
    exec .attnPulseEnd s = .next (s.setRegs { s.regs with attnLine := false }) :=
  congrArg Host.Outcome.next (if_pos ⟨hup, hpulse⟩)

theorem exec_attnPulseEnd_of_latched {s : State} (hlatched : s.regs.pulse = false) : exec .attnPulseEnd s = .next s :=
  congrArg Host.Outcome.next (if_neg fun ⟨_, hpulse⟩ => Bool.eq_false_iff.1 hlatched hpulse)

theorem latch_attnLine_of_pulse {r : Regs} (h : r.pulse = true) (line : Bool) : (r.latch line).attnLine = line := if_pos h

theorem latch_attnLine_of_latched {r : Regs} (h : r.pulse = false) (line : Bool) :
    (r.latch line).attnLine = r.anyAttention := if_neg (Bool.eq_false_iff.1 h)

/-- A bit is left set where it was set and is not written as 0. -/
theorem anyAttention_masked_iff (r : Regs) (v : Word) : (r.masked v).anyAttention = true ↔
    (r.answers = true ∧ v.getLsbD 0 = true) ∨ (r.events = true ∧ v.getLsbD 1 = true) ∨
      (r.fault = true ∧ v.getLsbD 2 = true) := by
  simp only [Regs.anyAttention, Regs.masked, Bool.or_eq_true, Bool.and_eq_true, or_assoc]

/-- A cause whose bit is clear sets it and asserts the line (R171). -/
theorem raiseBit_of_clear {b : AttentionBit} {s : State} (h : s.regs.attention b = false) :
    raiseBit b s = s.setRegs { s.regs.setAttention b with attnLine := true } := if_neg (Bool.eq_false_iff.1 h)

/-- Raising one bit sets it, and leaves the others, whatever becomes of the line. -/
theorem attention_setAttention (r : Regs) (b c : AttentionBit) (line : Bool) :
    Regs.attention { r.setAttention b with attnLine := line } c = (decide (c = b) || r.attention c) := by
  cases b <;> cases c <;> rfl

theorem raiseBit_keeps_other {b c : AttentionBit} (h : c ≠ b) (s : State) :
    (raiseBit b s).regs.attention c = s.regs.attention c := by
  cases hset : s.regs.attention b
  case true => rw [raiseBit_of_set hset]
  case false =>
    rw [raiseBit_of_clear hset, State.setRegs_regs, attention_setAttention, decide_eq_false h, Bool.false_or]

/-- Settles O52: the line after each write and each end of a pulse by the mode, and after a cause by the bit it finds. -/
theorem attentionDrivesTheLine : Obligations.AttentionDrivesTheLine := by
  refine fun s hup => ⟨fun v => ⟨_, exec_attention hup v, fun hpulse => ?_, fun hlatched => ?_⟩, ?_, fun hlatched => ?_,
    fun hpulse => ?_, exec_attnPulseEnd_of_pulse hup, exec_attnPulseEnd_of_latched,
    fun b => ⟨raiseBit_sets b s, raiseBit_of_set, fun hclear => ?_, fun c hc => raiseBit_keeps_other hc s⟩⟩
  · exact latch_attnLine_of_pulse (r := s.regs.masked v) hpulse _
  · have hline := latch_attnLine_of_latched (r := s.regs.masked v) hlatched s.regs.attnLine
    exact (Bool.eq_iff_iff.1 hline).trans (anyAttention_masked_iff s.regs v)
  · rw [exec_attnMode hup, if_pos rfl]
  · rw [exec_attnMode hup, if_neg (by simp [hlatched])]
    rfl
  · rw [exec_attnMode hup, if_neg (by simp [hpulse])]
    rfl
  · rw [raiseBit_of_clear hclear]
    rfl

end Sys2Proof.Machine
end
